-- ==== Sys2Proof/Word.lean ====
section
/-! DEFINITION. Bytes and times: the two plain quantities every other file uses. -/

namespace Sys2Proof

/-- One byte of a line (R181): bit 7 is the most significant bit. -/
abbrev Byte := BitVec 8

/-- A time or a span of time, in microseconds (log 1). -/
abbrev Time := Nat

end Sys2Proof
end

