-- ==== Sys2Proof/Syntax.lean ====
section
/-! DEFINITION. The commands and events of the part: one constructor per row of spec/opcode_table.json. -/

namespace Sys2Proof

/-- Station class (00_scope.md section 1). -/
inductive StationClass where
  | carrier
  | fixed
  deriving DecidableEq, Repr

/-- The configuration word as the configuration store delivers it: the fields of R172, each with the codes stored.
Carrier length and reader offset are in units of 100 mm. -/
structure ConfigWord where
  station : Nat
  cls : StationClass
  periodCode : Nat
  listenCode : Nat
  carrierLength : Nat
  readerOffset : Nat
  num : Nat
  den : Nat
  modeCode : Nat
  deriving DecidableEq, Repr

/-- What can hold the part at its reset values (R170): supply that has not settled, the reset line asserted. -/
inductive HoldReason where
  | supply
  | line
  deriving DecidableEq, Repr

/-- The end of one hold: its time, and which of the two reasons ends (R170). -/
structure HoldEnd where
  t : Time
  reason : HoldReason
  deriving DecidableEq, Repr

/-- The steps of the part (spec/95_what_each_step_holds.md). `t` is the time of an event that comes from outside the
part; the running out of a timer carries none, since the timer itself says when it runs out (log 1). A command's
`payload` is that of a message that has passed its CRC (log 7); `clear` is the channel-clear level (R133). -/
inductive Instr where
  /-- POWER_ON_RESET (R170) -/
  | powerOnReset (t : Time)
  /-- RESET_LINE (R170) -/
  | resetLine (t : Time)
  /-- RESET_RELEASE (R170): supply has settled, or the reset line is released -/
  | resetRelease (e : HoldEnd)
  /-- CONFIG_READ_COMPLETE (R172) -/
  | configReadComplete (t : Time) (word : ConfigWord)
  /-- LISTEN_TIMER_EXPIRY (R174) -/
  | listenTimerExpiry
  /-- START_POSITION (R176) -/
  | startPosition (t : Time) (payload : List Byte)
  /-- ROUTE_APPEND (R9) -/
  | routeAppend (t : Time) (payload : List Byte)
  /-- ROUTE_CUT (R14) -/
  | routeCut (t : Time) (payload : List Byte)
  /-- PROCEED (R17) -/
  | proceed (t : Time) (payload : List Byte)
  /-- LOAD_STATE (R103) -/
  | loadState (t : Time) (payload : List Byte)
  /-- PROFILE_SET (R104) -/
  | profileSet (t : Time) (payload : List Byte)
  /-- PARK (R179) -/
  | park (t : Time) (payload : List Byte)
  /-- UNPARK (R180) -/
  | unpark (t : Time) (payload : List Byte)
  /-- RESUME (R78) -/
  | resume (t : Time) (payload : List Byte)
  /-- YIELD_ZONE (R41) -/
  | yieldZone (t : Time) (payload : List Byte)
  /-- STAND_CLAIM (R147) -/
  | standClaim (t : Time) (payload : List Byte)
  /-- STAND_RELEASE (R150) -/
  | standRelease (t : Time) (payload : List Byte)
  /-- COMMIT (R149) -/
  | commit (t : Time) (payload : List Byte)
  /-- STATUS_QUERY (R162) -/
  | statusQuery (t : Time) (payload : List Byte)
  /-- RESTART (R163) -/
  | restart (t : Time) (payload : List Byte)
  /-- NON_COMMAND_MESSAGE (R159): the kind as received -/
  | nonCommandMessage (t : Time) (kind : Byte) (payload : List Byte)
  /-- BAD_MESSAGE (R158): the bytes arriving on the inbound line, the last of which makes the message bad -/
  | badMessage (t : Time) (bytes : List Byte)
  /-- INBOUND_GAP_TIMEOUT (R157): bytes arriving on the inbound line, then 5 ms without one -/
  | inboundGapTimeout (t : Time) (bytes : List Byte)
  /-- OUTBOUND_MESSAGE_COMPLETE (R164) -/
  | outboundMessageComplete
  /-- STATUS_TIMER_EXPIRY (R165) -/
  | statusTimerExpiry
  /-- ODOMETRY_SAMPLE (R83): the pulses of channels A and B since the previous sample -/
  | odometrySample (pulsesA pulsesB : Nat)
  /-- MARKER_ARRIVAL (R91): the identifier, and the pulses of A and B since the previous sample -/
  | markerArrival (t : Time) (ident pulsesA pulsesB : Nat)
  /-- RADIO_FRAME_RECEIVED (R142): the bytes the modem delivers -/
  | radioFrameReceived (t : Time) (bytes : List Byte)
  /-- RADIO_GAP_TIMEOUT (R141): bytes the modem delivers, then 2 ms without one -/
  | radioGapTimeout (t : Time) (bytes : List Byte)
  /-- TAKE_FRAME (R49) -/
  | takeFrame
  /-- PEER_STALE (R61): the peer's station number -/
  | peerStale (station : Nat)
  /-- PEER_LOST (R62): the peer's station number -/
  | peerLost (station : Nat)
  /-- OVERFLOW_CLEAR (R59) -/
  | overflowClear
  /-- SETTLE_EXPIRY (R28): the zone of the entry -/
  | settleExpiry (zone : Nat)
  /-- GRIDLOCK (R42): the zone of the entry -/
  | gridlock (zone : Nat)
  /-- AUTHORITY_TICK (R107) -/
  | authorityTick
  /-- OUTPUT_REFRESH (R106) -/
  | outputRefresh
  /-- CEILING_WORD_COMPLETE (R124) -/
  | ceilingWordComplete
  /-- NOMINAL_INSTANT (R128) -/
  | nominalInstant
  /-- PLACEMENT_POINT (R129) -/
  | placementPoint
  /-- BEACON_DUE (R133): the channel-clear level sampled -/
  | beaconDue (clear : Bool)
  /-- BEACON_COMPLETE (R135) -/
  | beaconComplete
  /-- TAIL_END (R136) -/
  | tailEnd
  /-- RADIO_BAD_LENGTH_BYTE (R141): the bytes the modem delivers, the last of which is the bad length byte -/
  | radioBadLengthByte (t : Time) (bytes : List Byte)
  deriving DecidableEq, Repr

end Sys2Proof
end

