-- ==== Sys2Proof/WellFormed.lean ====
section
/-! DEFINITION. Which commands the outside can send: the ranges the spec gives the operands. -/

namespace Sys2Proof

/-- The codes the configuration word can store (R172). -/
def ConfigWord.wf (w : ConfigWord) : Bool :=
  w.station ≤ 4095 && w.periodCode ≤ 3 && w.listenCode ≤ 3 && w.carrierLength ≤ 255 && w.readerOffset ≤ 255 &&
  1 ≤ w.num && w.num ≤ 256 && 1 ≤ w.den && w.den ≤ 256 && w.modeCode ≤ 3

/-- A message's payload is 0..250 bytes (R157, R183). -/
def payloadWf (payload : List Byte) : Bool := payload.length ≤ 250

/-- The command kinds are the codes 0x01..0x0F (R183). -/
def isCommandKind (kind : Byte) : Bool := 1 ≤ kind.toNat && kind.toNat ≤ 15

/-- A command whose operands lie in the ranges the spec gives them. The pulse counts have no bound: R83 limits a
count above 65,535 itself. Bytes on a line may be any bytes. -/
def Instr.wf : Instr → Bool
  | .powerOnReset _ | .resetLine _ | .resetRelease _ => true
  | .configReadComplete _ w => w.wf
  | .listenTimerExpiry => true
  | .startPosition _ p | .routeAppend _ p | .routeCut _ p | .proceed _ p | .loadState _ p | .profileSet _ p => payloadWf p
  | .park _ p | .unpark _ p | .resume _ p | .yieldZone _ p => payloadWf p
  | .standClaim _ p | .standRelease _ p | .commit _ p | .statusQuery _ p | .restart _ p => payloadWf p
  | .nonCommandMessage _ kind p => !isCommandKind kind && payloadWf p
  | .badMessage _ _ | .inboundGapTimeout _ _ => true
  | .outboundMessageComplete | .statusTimerExpiry => true
  | .odometrySample _ _ => true
  | .markerArrival _ ident _ _ => 1 ≤ ident && ident ≤ 65535
  | .radioFrameReceived _ _ | .radioGapTimeout _ _ | .radioBadLengthByte _ _ => true
  | .takeFrame => true
  | .peerStale n | .peerLost n => 1 ≤ n && n ≤ 4094
  | .overflowClear => true
  | .settleExpiry z | .gridlock z => 1 ≤ z && z ≤ 4095
  | .authorityTick | .outputRefresh | .ceilingWordComplete => true
  | .nominalInstant | .placementPoint | .beaconDue _ | .beaconComplete | .tailEnd => true

end Sys2Proof
end

