-- ==== Sys2Proof/Decode.lean ====
section
/-! DEFINITION. The opcode table gives no row any bits (every "fields" is empty), so no word spells a command. -/

namespace Sys2Proof

/-- The command a word of the table's bits spells: none, since no row of spec/opcode_table.json gives bits. -/
def decodeTableWord (_nbits _w : Nat) : Option Instr := none

end Sys2Proof
end

