-- ==== Sys2Proof/Config.lean ====
section
/-! DEFINITION. What the model leaves open as a value: functions with no body. -/

namespace Sys2Proof

/-- The number sent in a field of `bytes` bytes when the value `v` does not fit it: a SLIP difference above
65,535 mm in two bytes, an `s` outside four signed bytes (R181, R183, R184 state no result there).
DESIGN CHOICE, log 19: a free value; safe. -/
opaque Config.unstatedField (bytes : Nat) (v : Int) : Nat

/-- The channel-clear level that the modem shows at the `k`-th sample made within a PLACEMENT_POINT or an UNPARK, for a
beacon that is due at once there (R129, R133). The rows of those two commands carry no level, and either is possible.
DESIGN CHOICE, log 21: a free value; safe. -/
opaque Config.channelClear (k : Nat) : Bool

end Sys2Proof
end

