-- ==== Sys2Proof/Machine/State.lean ====
section
/-! DEFINITION. Everything the spec gives the part to hold, block by block (00_scope.md section 3), as plain data,
and the values after a power-on reset. A timer is held as the time at which it runs out (log 1). -/

namespace Sys2Proof.Machine

/-! ### Station Controller (R169) -/

inductive StationState where
  | boot
  | configFault
  | listen
  | active
  | parked
  deriving DecidableEq, Repr

inductive ResetCause where
  | powerOn
  | resetLine
  | restartCommand
  deriving DecidableEq, Repr

/-- A timer that can stand expired: the listen timer (R169), a settle timer (R18). -/
inductive Timer where
  | stopped
  | running (expiry : Time)
  | expired
  deriving DecidableEq, Repr

structure Station where
  state : StationState
  /-- supply has not settled since the power-on reset: the part is held at its reset values (R170) -/
  supplyUnsettled : Bool
  /-- the reset line is asserted: the part is held at its reset values (R170) -/
  lineAsserted : Bool
  /-- the configuration fields, or not yet read (R169, R172) -/
  cfg : Option ConfigWord
  fault : Nat
  listen : Timer
  startMark : Bool
  standstill : Nat
  cause : ResetCause
  deriving DecidableEq, Repr

/-! ### Route Store (R1 to R3) -/

/-- A marker entry of a cell: identifier and offset (R1). -/
structure Marker where
  ident : Nat
  offset : Nat
  deriving DecidableEq, Repr

/-- A route cell as given to the part (R1). -/
structure RouteCell where
  ident : Nat
  length : Nat
  zones : List Nat
  limit : Nat
  urgency : Nat
  stop : Option Nat
  markers : List Marker
  deriving DecidableEq, Repr

/-- A stored cell: the given fields, the entry boundary and the stop-released mark (R2). -/
structure StoredCell where
  cell : RouteCell
  entry : Int
  released : Bool
  deriving DecidableEq, Repr

structure Route where
  /-- the stored cells, rear cell first (R3) -/
  cells : List StoredCell
  deriving DecidableEq, Repr

/-! ### Claim Window (R18, R76, R146) -/

inductive ClaimState where
  | queued
  | announced
  | waiting
  | held
  | releasing
  deriving DecidableEq, Repr

/-- What the frame on the air carries for an entry, as of the moment its content was taken (R27, R31, R38; log 23). -/
inductive AirMark where
  /-- no frame is on the air, or its content was taken before the entry was created or while it was QUEUED -/
  | none
  /-- carried as REQ with this wait, taken since the entry's latest entry into ANNOUNCED, no blocker having come since -/
  | announced (wait : Nat)
  /-- carried as REQ or HOLD with this wait, otherwise -/
  | carried (wait : Nat)
  /-- omitted: the content was taken while the entry was RELEASING -/
  | omitted
  deriving DecidableEq, Repr

/-- A Claim Window entry (R18). -/
structure ClaimEntry where
  zone : Nat
  state : ClaimState
  first : Option Nat
  last : Option Nat
  urgency : Nat
  wait : Nat
  carried : Nat
  settle : Timer
  announce : Nat
  committed : Bool
  released : Nat
  blockedSince : Option Time
  gridlock : Bool
  air : AirMark
  deriving DecidableEq, Repr

/-- A standing claim (R146). -/
structure Standing where
  zone : Nat
  urgency : Nat
  deriving DecidableEq, Repr

/-- A conflict record: a zone and the peers, in the order they were added (R76). -/
structure ConflictRecord where
  zone : Nat
  peers : List Nat
  deriving DecidableEq, Repr

structure Window where
  /-- the entries in window order (R19) -/
  entries : List ClaimEntry
  /-- the WINDOW_FULL condition (R23) -/
  full : Bool
  standing : List Standing
  conflicts : List ConflictRecord
  deriving DecidableEq, Repr

/-! ### Neighbour Table (R45 to R47) -/

inductive ClaimKind where
  | req
  | hold
  deriving DecidableEq, Repr

/-- A claim as a beacon carries it and the table mirrors it (R43, R46). -/
structure Claim where
  zone : Nat
  kind : ClaimKind
  committed : Bool
  urgency : Nat
  wait : Nat
  deriving DecidableEq, Repr

inductive Freshness where
  | live
  | stale
  deriving DecidableEq, Repr

/-- A peer entry (R45). The last-heard order is the order of the table's list. -/
structure Peer where
  station : Nat
  cls : StationClass
  periodCode : Nat
  parked : Bool
  seq : Nat
  freshness : Freshness
  /-- when the freshness counter runs out -/
  expiry : Time
  claims : List Claim
  relevant : Bool
  deriving DecidableEq, Repr

structure Table where
  /-- least recently accepted first (R45) -/
  peers : List Peer
  /-- the overflow condition, with the time its clearing timer runs out (R58, R59) -/
  overflow : Option Time
  /-- the next taking instant (R49) -/
  nextTake : Option Time
  deriving DecidableEq, Repr

/-! ### Odometry Unit (R80) -/

inductive OdoMode where
  | dual
  | aOnly
  | bOnly
  deriving DecidableEq, Repr

inductive Quality where
  | good
  | doubt
  | lost
  deriving DecidableEq, Repr

inductive Channel where
  | a
  | b
  deriving DecidableEq, Repr

structure ChannelState where
  failed : Bool
  remainder : Nat
  silent : Nat
  partner : Nat
  deriving DecidableEq, Repr

structure MarkerRecord where
  ident : Nat
  surveyed : Int
  travel : Nat
  deriving DecidableEq, Repr

structure Odometry where
  mode : OdoMode
  chA : ChannelState
  chB : ChannelState
  /-- the internal position, µm -/
  pos : Int
  travel : Nat
  /-- the last 10 applied increments, oldest first -/
  history : List Nat
  vmeas : Nat
  slip : Bool
  slipSeen : Bool
  trim : Nat
  lastMarker : Option MarkerRecord
  since : Nat
  rejects : Nat
  quality : Quality
  /-- when the next sample is taken (R83) -/
  nextSample : Option Time
  deriving DecidableEq, Repr

/-! ### Authority Unit (R101, R105) -/

structure Profile where
  cap : Nat
  decel : Nat
  rise : Nat
  margin : Nat
  reaction : Nat
  leadExtra : Nat
  deriving DecidableEq, Repr

/-- A load profile index: 0 UNLADEN, 1 LADEN, 2 LADEN_HIGH. -/
inductive LoadIndex where
  | unladen
  | laden
  | ladenHigh
  deriving DecidableEq, Repr

structure Profiles where
  unladen : Profile
  laden : Profile
  ladenHigh : Profile
  deriving DecidableEq, Repr

/-- The STOP causes that stand (R122). -/
structure StopCauses where
  boot : Bool
  configFault : Bool
  conflict : Bool
  overrun : Bool
  deriving DecidableEq, Repr

/-- A ceiling word going out on the ceiling line until `endsAt`: the value it holds and its bytes (R124, R185). -/
structure WordOut where
  value : Nat
  bytes : List Byte
  endsAt : Time
  deriving DecidableEq, Repr

structure Authority where
  profiles : Profiles
  active : LoadIndex
  pendingIx : Option LoadIndex
  horizon : Int
  ceiling : Nat
  previous : Nat
  overrun : Bool
  causes : StopCauses
  /-- when the output period timer runs out (R106) -/
  outputAt : Time
  wordOut : Option WordOut
  pendingWord : Option Nat
  deriving DecidableEq, Repr

/-! ### Radio Unit (R125) -/

inductive BeaconKind where
  | scheduled
  | urgent
  deriving DecidableEq, Repr

/-- The beacon in the pending slot (R132). -/
structure PendingBeacon where
  kind : BeaconKind
  due : Time
  busy : Nat
  /-- the due time has arrived while the key was asserted, so the beacon follows the frame on the air (R136) -/
  arrived : Bool
  deriving DecidableEq, Repr

inductive TxPhase where
  /-- lead and bytes, up to completion -/
  | sending
  | tail
  deriving DecidableEq, Repr

/-- The frame on the air, with the content taken at its start (R134, R135). -/
structure Transmission where
  content : List Claim
  bytes : List Byte
  phase : TxPhase
  endsAt : Time
  deriving DecidableEq, Repr

/-- The receive assembler (R141). -/
inductive RadioAssembler where
  | hunt
  | length
  | body (len : Nat) (got : List Byte)
  deriving DecidableEq, Repr

structure Radio where
  /-- the nominal spacing is 8 × P (PARKED) and not P -/
  parkedSpacing : Bool
  last : Option Time
  next : Option Time
  /-- the placement point of the next nominal instant is still to come (R129, log 20) -/
  placementOpen : Bool
  gen : BitVec 16
  slot : Option PendingBeacon
  /-- how many channel-clear levels have been drawn from `Config.channelClear`: the model's own counter (log 21) -/
  samples : Nat
  limiter : Option Time
  tx : Option Transmission
  seq : Nat
  fresh : Bool
  rx : RadioAssembler
  /-- when the receive gap timer runs out -/
  rxGap : Option Time
  /-- received frames, each the L bytes between length and CRC (R142, R143) -/
  queue : List (List Byte)
  deriving DecidableEq, Repr

/-! ### Equipment Port (R156) -/

/-- The inbound assembler (R157). -/
inductive PortAssembler where
  | hunt
  | kind
  | length (kind : Byte)
  | body (kind : Byte) (len : Nat) (got : List Byte)
  deriving DecidableEq, Repr

/-- Refusal codes, in the order of R161's table (codes 1 to 14, R183). -/
inductive RefuseCode where
  | badKind
  | badLength
  | badState
  | wrongClass
  | routeFull
  | badCell
  | unknownCell
  | unknownZone
  | notStopped
  | notParked
  | stillConflict
  | notConflict
  | occupied
  | notGranted
  deriving DecidableEq, Repr

/-- The outcome of a command with the payload that goes with it (R161). -/
inductive Answer where
  | accept (payload : List Byte)
  | refuse (code : RefuseCode) (payload : List Byte)
  deriving DecidableEq, Repr

structure Reply where
  kind : Byte
  answer : Answer
  deriving DecidableEq, Repr

inductive DoubtCause where
  | distance
  | rejects
  | channel
  deriving DecidableEq, Repr

inductive HoldOffCause where
  | conflict
  | state
  | released
  | unheld
  deriving DecidableEq, Repr

/-- The notices, in the order of R167's table (kinds 1 to 15, R183). -/
inductive Notice where
  | conflict (zone station : Nat)
  | doubleHold (zone station : Nat)
  | gridlock (zone station : Nat)
  | peerLost (station : Nat) (cls : StationClass)
  | tableOverflow (station : Nat)
  | windowFull (zone : Nat)
  | markerReject (ident : Nat) (e : Int) (quality : Quality)
  | positionDoubt (cause : DoubtCause) (s : Int)
  | positionLost (s : Int)
  | slip (channel : Channel) (difference : Nat)
  | channelFail (channel : Channel)
  | overrun (s hZone : Int) (cell : Nat)
  | duplicateId (seq : Nat) (cls : StationClass)
  | grant (count : Nat)
  | holdOff (cause : HoldOffCause) (zone station : Nat)
  deriving DecidableEq, Repr

/-- What the message on the outbound line is. -/
inductive OutContent where
  | reply (r : Reply)
  | notice (n : Notice)
  | status
  deriving DecidableEq, Repr

structure OutMessage where
  content : OutContent
  bytes : List Byte
  endsAt : Time
  deriving DecidableEq, Repr

/-- The five counters of R168. -/
structure Counters where
  radioBad : Nat
  queueDrops : Nat
  beaconDrops : Nat
  portBad : Nat
  strays : Nat
  deriving DecidableEq, Repr

structure Port where
  inbound : PortAssembler
  /-- when the inbound gap timer runs out -/
  inGap : Option Time
  restartPending : Bool
  replies : List Reply
  notices : List Notice
  reportPending : Bool
  /-- when the status timer runs out -/
  statusAt : Option Time
  out : Option OutMessage
  dropped : Bool
  counters : Counters
  deriving DecidableEq, Repr

/-! ### The whole part -/

structure State where
  /-- the present time, µs (the model's clock, log 1) -/
  now : Time
  station : Station
  route : Route
  window : Window
  table : Table
  odo : Odometry
  auth : Authority
  radio : Radio
  port : Port
  /-- the level of the STOP line, the hold-off line on a FIXED station (R122, R123): asserted -/
  stopLine : Bool
  /-- the commands that wait, first in, first out -/
  pending : List Instr
  deriving DecidableEq, Repr

/-- Reasons for a fault: none. The spec gives every event an outcome in every state, so no meaning raises one. -/
inductive Fault where
  deriving DecidableEq, Repr

/-- Reasons for a refusal of the model. -/
inductive Refusal where
  /-- raised by an arm of exec whose command has no meaning yet (safe); no arm of this model raises it -/
  | notModelled (mnemonic : String)
  deriving DecidableEq, Repr

/-! ### Reset values -/

/-- R169 -/
def Station.reset (cause : ResetCause) : Station :=
  { state := .boot, supplyUnsettled := false, lineAsserted := false, cfg := none, fault := 0, listen := .stopped,
    startMark := false, standstill := 0, cause := cause }

/-- R4 -/
def Route.reset : Route := { cells := [] }

/-- R20, R76, R146 -/
def Window.reset : Window := { entries := [], full := false, standing := [], conflicts := [] }

/-- R48 -/
def Table.reset : Table := { peers := [], overflow := none, nextTake := none }

def ChannelState.reset : ChannelState := { failed := false, remainder := 0, silent := 0, partner := 0 }

/-- R80; the mode before the configuration is read is DUAL (DESIGN CHOICE, log 10) -/
def Odometry.reset (trim : Nat) : Odometry :=
  { mode := .dual, chA := .reset, chB := .reset, pos := 0, travel := 0, history := [0, 0, 0, 0, 0, 0, 0, 0, 0, 0],
    vmeas := 0, slip := false, slipSeen := false, trim := trim, lastMarker := none, since := 0, rejects := 0,
    quality := .doubt, nextSample := none }

/-- The defaults of R101. -/
def Profiles.default : Profiles :=
  { unladen := ⟨6500, 1200, 800, 1500, 250, 5000⟩
    laden := ⟨5500, 800, 500, 2000, 250, 8000⟩
    ladenHigh := ⟨3500, 600, 300, 2500, 300, 10000⟩ }

/-- R105 -/
def Authority.reset (profiles : Profiles) (now : Time) : Authority :=
  { profiles := profiles, active := .ladenHigh, pendingIx := none, horizon := 0, ceiling := 0, previous := 0,
    overrun := false, causes := ⟨true, false, false, false⟩, outputAt := now + 50000, wordOut := none,
    pendingWord := none }

/-- R125; the unseeded generator is held as 0 (DESIGN CHOICE, log 10), as is the model's own counter of drawn levels
(DESIGN CHOICE, log 21) -/
def Radio.reset : Radio :=
  { parkedSpacing := false, last := none, next := none, placementOpen := false, gen := 0, slot := none, samples := 0,
    limiter := none, tx := none, seq := 0, fresh := true, rx := .hunt, rxGap := none, queue := [] }

/-- R156 -/
def Port.reset : Port :=
  { inbound := .hunt, inGap := none, restartPending := false, replies := [], notices := [], reportPending := false,
    statusAt := none, out := none, dropped := false, counters := ⟨0, 0, 0, 0, 0⟩ }

/-- The machine right after a power-on reset, when supply has settled and the station has entered BOOT (R170, log 5). -/
def State.reset : State :=
  { now := 0, station := .reset .powerOn, route := .reset, window := .reset, table := .reset,
    odo := .reset 65536, auth := .reset .default 0, radio := .reset, port := .reset, stopLine := true, pending := [] }

end Sys2Proof.Machine
end

