-- ==== Sys2Proof/Machine/Ops.lean ====
section
/-! DEFINITION. The small operations every block uses: the clock, the station's own numbers, counters, notices, and the
entries of the Claim Window by zone. -/

namespace Sys2Proof.Machine

/-! ### Station -/

/-- The station class; CARRIER while the fields are not yet read (R169). -/
def State.cls (s : State) : StationClass :=
  match s.station.cfg with
  | some w => w.cls
  | none => .carrier

def State.isCarrier (s : State) : Bool := s.cls = .carrier

/-- LISTEN, ACTIVE and PARKED: the states in which the part runs its radio, table and odometry. -/
def State.running (s : State) : Bool :=
  match s.station.state with
  | .listen | .active | .parked => true
  | .boot | .configFault => false

/-- The part is held at its reset values while either reason stands (R170). -/
def Station.held (st : Station) : Bool := st.supplyUnsettled || st.lineAsserted

/-- The station number of the locked configuration (R172); 0 until it is read (DESIGN CHOICE, log 10). -/
def State.ownNumber (s : State) : Nat := (s.station.cfg.map ConfigWord.station).getD 0

/-- Beacon period codes (00_scope.md section 5): 100, 200, 400 ms. Code 3 is turned away in a frame
(R50) and leads to CONFIG_FAULT in the configuration word (R173), where P is read by nothing (log 10). -/
def periodMs : Nat → Nat
  | 0 => 100
  | 1 => 200
  | _ => 400

/-- The own period P in ms (R125). Until the configuration word is read the model takes code 0, 100 ms, and in CONFIG_FAULT
the code of the word read, though found not valid, 3 as 400 ms (DESIGN CHOICE, log 10); nothing reads P in either. -/
def State.period (s : State) : Nat := periodMs ((s.station.cfg.map ConfigWord.periodCode).getD 0)

/-- The configured carrier length in mm (R172); 0 until it is read (DESIGN CHOICE, log 10). -/
def State.carrierLength (s : State) : Nat := 100 * (s.station.cfg.map ConfigWord.carrierLength).getD 0

/-- The configured reader offset in mm (R172); 0 until it is read (DESIGN CHOICE, log 10). -/
def State.readerOffset (s : State) : Nat := 100 * (s.station.cfg.map ConfigWord.readerOffset).getD 0

/-- The listen interval in µs (R172). -/
def listenInterval : Nat → Time
  | 0 => 1600000
  | 1 => 3200000
  | 2 => 6400000
  | _ => 12800000

/-! ### Clock -/

/-- The clock at an event of time `t`: time does not run backwards (log 1). -/
def State.reach (s : State) (t : Time) : State := { s with now := max s.now t }

/-! ### Counters and notices -/

/-- One more, saturating at 65,535 (R168). -/
def bump (n : Nat) : Nat := min (n + 1) 65535

/-- A radio frame counted as bad (R144). -/
def countRadioBad (s : State) : State :=
  { s with port := { s.port with counters := { s.port.counters with radioBad := bump s.port.counters.radioBad } } }

/-- A frame discarded at a full receive queue (R143). -/
def countQueueDrop (s : State) : State :=
  { s with port := { s.port with counters := { s.port.counters with queueDrops := bump s.port.counters.queueDrops } } }

/-- A beacon dropped (R133). -/
def countBeaconDrop (s : State) : State :=
  { s with port := { s.port with counters := { s.port.counters with beaconDrops := bump s.port.counters.beaconDrops } } }

/-- A bad message or a command discarded at a full reply queue (R158, R159). -/
def countPortBad (s : State) : State :=
  { s with port := { s.port with counters := { s.port.counters with portBad := bump s.port.counters.portBad } } }

/-- A stray marker (R92). -/
def countStray (s : State) : State :=
  { s with port := { s.port with counters := { s.port.counters with strays := bump s.port.counters.strays } } }

/-- The places of the notice queue (R167). -/
def maxNotices : Nat := 16

/-- Raising a notice: it joins the queue, or is discarded and sets the notices-dropped flag (R167). -/
def raiseNotice (n : Notice) (s : State) : State :=
  if s.port.notices.length < maxNotices then
    { s with port := { s.port with notices := s.port.notices ++ [n] } }
  else
    { s with port := { s.port with dropped := true } }

/-! ### Claim Window entries by zone -/

/-- The entry for a zone (R19: never two). -/
def findEntry (z : Nat) (s : State) : Option ClaimEntry := s.window.entries.find? (fun e => e.zone == z)

/-- The entries with the one for zone `z` changed by `f`. -/
def updateEntry (z : Nat) (f : ClaimEntry → ClaimEntry) (es : List ClaimEntry) : List ClaimEntry :=
  es.map (fun e => if e.zone == z then f e else e)

/-- Change the entry for a zone. -/
def modifyEntry (z : Nat) (f : ClaimEntry → ClaimEntry) (s : State) : State :=
  { s with window := { s.window with entries := updateEntry z f s.window.entries } }

/-- The zones of the window, in window order. -/
def windowZones (s : State) : List Nat := s.window.entries.map ClaimEntry.zone

/-- The zone has an own entry in HELD. -/
def isHeld (s : State) (z : Nat) : Bool := s.window.entries.any (fun e => e.zone == z && e.state = .held)

/-- An entry still requested: ANNOUNCED or WAITING. -/
def ClaimEntry.requested (e : ClaimEntry) : Bool :=
  match e.state with
  | .announced | .waiting => true
  | _ => false

/-- An entry that is withdrawn when it loses its need (R40): QUEUED, ANNOUNCED or WAITING. -/
def ClaimEntry.unheld (e : ClaimEntry) : Bool :=
  match e.state with
  | .queued | .announced | .waiting => true
  | _ => false

/-- The members of a list after the first one equal to `z`. -/
def afterZone (z : Nat) : List Nat → List Nat
  | [] => []
  | x :: xs => if x = z then xs else afterZone z xs

/-- The zones of the entries later than `z`'s in window order. -/
def laterZones (z : Nat) (s : State) : List Nat := afterZone z (windowZones s)

/-- Every entry earlier than `z`'s is HELD (R35, R39). -/
def allEarlierHeld (z : Nat) (s : State) : Bool :=
  (s.window.entries.takeWhile (fun e => e.zone != z)).all (fun e => e.state = .held)

/-- The places of the Claim Window (R19). -/
def maxEntries : Nat := 8

def windowHasRoom (s : State) : Bool := s.window.entries.length < maxEntries

/-- A list without the repeats of its members, each kept at its first place. -/
def firstOccurrences : List Nat → List Nat
  | [] => []
  | x :: xs => x :: (firstOccurrences xs).filter (fun y => y != x)

end Sys2Proof.Machine
end

