-- ==== Sys2Proof/Machine/Operands.lean ====
section
/-! DEFINITION. What crosses the lines: numbers in bytes, the CRC, command payloads, the beacon frame, replies, notices
and the ceiling word (11_formats.md). The status report stands in Machine/PortOps.lean. -/

namespace Sys2Proof.Machine

/-! ### Numbers and the check sequence (R181) -/

def byteNat (b : Byte) : Nat := b.toNat

/-- Two bytes, high byte first. -/
def word16 (hi lo : Byte) : Nat := hi.toNat * 256 + lo.toNat

/-- Four bytes in two's complement, high byte first. -/
def signed32 (a b c d : Byte) : Int :=
  let n := word16 a b * 65536 + word16 c d
  if n < 2147483648 then (n : Int) else (n : Int) - 4294967296

/-- The low `n` bytes of a number, high byte first. -/
def beBytes : Nat → Nat → List Byte
  | 0, _ => []
  | n + 1, v => BitVec.ofNat 8 (v / 256 ^ n) :: beBytes n v

/-- A field of `n` bytes for an unsigned number; a number too wide for it is a free value (log 19). -/
def unsignedField (n v : Nat) : List Byte :=
  if v < 256 ^ n then beBytes n v else beBytes n (Config.unstatedField n v)

/-- A field of `n` bytes for a signed number; a number too wide for it is a free value (log 19). -/
def signedField (n : Nat) (v : Int) : List Byte :=
  let half : Int := 256 ^ n / 2
  if -half ≤ v ∧ v < half then beBytes n (v % 256 ^ n).toNat else beBytes n (Config.unstatedField n v)

/-- One bit of the CRC-16 (R181). -/
def crcBit (r : BitVec 16) (bit : Bool) : BitVec 16 :=
  if r.getLsbD 15 != bit then (r <<< 1) ^^^ 0x1021#16 else r <<< 1

/-- One byte of the CRC-16, most significant bit first. -/
def crcByte (r : BitVec 16) (b : Byte) : BitVec 16 :=
  [7, 6, 5, 4, 3, 2, 1, 0].foldl (fun r i => crcBit r (b.getLsbD i)) r

/-- The CRC-16 over some bytes: polynomial 0x1021, initial value 0xFFFF (R181). -/
def crc16 (bytes : List Byte) : BitVec 16 := bytes.foldl crcByte 0xFFFF#16

/-- The two CRC bytes over some bytes, high byte first. -/
def crcBytes (bytes : List Byte) : List Byte := beBytes 2 (crc16 bytes).toNat

/-! ### Encodings of names (R181, R183) -/

def classCode : StationClass → Nat
  | .carrier => 0
  | .fixed => 1

def StationState.code : StationState → Nat
  | .boot => 0
  | .configFault => 1
  | .listen => 2
  | .active => 3
  | .parked => 4

def Quality.code : Quality → Nat
  | .good => 0
  | .doubt => 1
  | .lost => 2

def ResetCause.code : ResetCause → Nat
  | .powerOn => 0
  | .resetLine => 1
  | .restartCommand => 2

def ClaimState.code : ClaimState → Nat
  | .queued => 0
  | .announced => 1
  | .waiting => 2
  | .held => 3
  | .releasing => 4

def Channel.code : Channel → Nat
  | .a => 0
  | .b => 1

def DoubtCause.code : DoubtCause → Nat
  | .distance => 0
  | .rejects => 1
  | .channel => 2

def HoldOffCause.code : HoldOffCause → Nat
  | .conflict => 0
  | .state => 1
  | .released => 2
  | .unheld => 3

def LoadIndex.code : LoadIndex → Nat
  | .unladen => 0
  | .laden => 1
  | .ladenHigh => 2

/-- A load profile index as a command carries it; outside 0..2 none (R103, R104). -/
def LoadIndex.ofByte (b : Byte) : Option LoadIndex :=
  match b.toNat with
  | 0 => some .unladen
  | 1 => some .laden
  | 2 => some .ladenHigh
  | _ => none

def RefuseCode.code : RefuseCode → Nat
  | .badKind => 1
  | .badLength => 2
  | .badState => 3
  | .wrongClass => 4
  | .routeFull => 5
  | .badCell => 6
  | .unknownCell => 7
  | .unknownZone => 8
  | .notStopped => 9
  | .notParked => 10
  | .stillConflict => 11
  | .notConflict => 12
  | .occupied => 13
  | .notGranted => 14

/-- One byte for a small number. -/
def byteOf (n : Nat) : Byte := BitVec.ofNat 8 n

def boolBit (b : Bool) (weight : Nat) : Nat := if b then weight else 0

/-! ### Command payloads (R183) -/

/-- `n` numbers of two bytes, and what follows them. -/
def takeWords : Nat → List Byte → Option (List Nat × List Byte)
  | 0, bs => some ([], bs)
  | n + 1, hi :: lo :: bs =>
    match takeWords n bs with
    | some (ws, rest) => some (word16 hi lo :: ws, rest)
    | none => none
  | _ + 1, _ => none

/-- `n` marker entries, and what follows them. -/
def takeMarkers : Nat → List Byte → Option (List Marker × List Byte)
  | 0, bs => some ([], bs)
  | n + 1, i1 :: i0 :: o1 :: o0 :: bs =>
    match takeMarkers n bs with
    | some (ms, rest) => some (⟨word16 i1 i0, word16 o1 o0⟩ :: ms, rest)
    | none => none
  | _ + 1, _ => none

/-- The stop-point offset, when the record's bit 5 says it is there. -/
def takeStop (present : Bool) (bs : List Byte) : Option (Option Nat × List Byte) :=
  if present then
    match bs with
    | hi :: lo :: rest => some (some (word16 hi lo), rest)
    | _ => none
  else some (none, bs)

/-- One route cell record, sized from its own declared counts, and what follows it. -/
def takeCell : List Byte → Option (RouteCell × List Byte)
  | c1 :: c0 :: l1 :: l0 :: v1 :: v0 :: b :: bs =>
    match takeStop (b.getLsbD 5) bs with
    | none => none
    | some (stop, bs) =>
      match takeWords (b.toNat / 8 % 4) bs with
      | none => none
      | some (zones, bs) =>
        match takeMarkers (b.toNat % 8) bs with
        | none => none
        | some (markers, bs) =>
          some (⟨word16 c1 c0, word16 l1 l0, zones, word16 v1 v0, b.toNat / 64, stop, markers⟩, bs)
  | _ => none

/-- `n` route cell records that end exactly at the last byte. -/
def takeCells : Nat → List Byte → Option (List RouteCell)
  | 0, [] => some []
  | 0, _ :: _ => none
  | n + 1, bs =>
    match takeCell bs with
    | none => none
    | some (c, rest) =>
      match takeCells n rest with
      | some cs => some (c :: cs)
      | none => none

/-- ROUTE_APPEND's payload: a count 1..8 and that many cells; otherwise none (R9 check 3). -/
def parseAppend : List Byte → Option (List RouteCell)
  | [] => none
  | n :: bs => if 1 ≤ n.toNat ∧ n.toNat ≤ 8 then takeCells n.toNat bs else none

/-- START_POSITION's payload: a count 1..4, s, and that many cells; otherwise none (R176). -/
def parseStart : List Byte → Option (Int × List RouteCell)
  | n :: a :: b :: c :: d :: bs =>
    if 1 ≤ n.toNat ∧ n.toNat ≤ 4 then
      match takeCells n.toNat bs with
      | some cells => some (signed32 a b c d, cells)
      | none => none
    else none
  | _ => none

/-- A cell's record as the equipment computer lays it out (R183). -/
def RouteCell.record (c : RouteCell) : List Byte :=
  beBytes 2 c.ident ++ beBytes 2 c.length ++ beBytes 2 c.limit ++
  [byteOf (c.urgency * 64 + boolBit c.stop.isSome 32 + c.zones.length * 8 + c.markers.length)] ++
  (c.stop.map (beBytes 2)).getD [] ++ c.zones.flatMap (beBytes 2) ++
  c.markers.flatMap (fun m => beBytes 2 m.ident ++ beBytes 2 m.offset)

/-- Offsets strictly increasing from one entry to the next (R1). -/
def offsetsIncrease : List Marker → Bool
  | m :: n :: ms => decide (m.offset < n.offset) && offsetsIncrease (n :: ms)
  | _ => true

/-- Does the list name no number twice? -/
def noRepeat : List Nat → Bool
  | [] => true
  | x :: xs => !xs.contains x && noRepeat xs

/-- A cell in range by R1's table. -/
def RouteCell.inRange (c : RouteCell) : Bool :=
  1 ≤ c.ident && c.ident ≤ 65535 && 1000 ≤ c.length && c.length ≤ 60000 &&
  1 ≤ c.zones.length && c.zones.length ≤ 3 && c.zones.all (fun z => 1 ≤ z && z ≤ 4095) && noRepeat c.zones &&
  300 ≤ c.limit && c.limit ≤ 8000 && c.urgency ≤ 3 &&
  (match c.stop with
    | some o => o ≤ c.length
    | none => true) &&
  c.markers.length ≤ 4 && c.markers.all (fun m => 1 ≤ m.ident && m.ident ≤ 65535 && m.offset ≤ c.length) &&
  offsetsIncrease c.markers

/-- The position 1.. of the first cell out of range, if any (R9 check 5). -/
def firstBadCell (cells : List RouteCell) : Option Nat := (cells.findIdx? (fun c => !c.inRange)).map (· + 1)

/-- The records of STAND_CLAIM. -/
def takeStanding : Nat → List Byte → Option (List Standing)
  | 0, [] => some []
  | 0, _ :: _ => none
  | n + 1, z1 :: z0 :: u :: bs =>
    match takeStanding n bs with
    | some rs => some (⟨word16 z1 z0, u.toNat⟩ :: rs)
    | none => none
  | _ + 1, _ => none

/-- STAND_CLAIM's payload by the third row of R147; otherwise none. A zone above 4,095 is refused as zone 0 (R183). -/
def parseStanding : List Byte → Option (List Standing)
  | [] => none
  | n :: bs =>
    if 1 ≤ n.toNat ∧ n.toNat ≤ 8 then
      match takeStanding n.toNat bs with
      | some rs =>
        if rs.all (fun r => 1 ≤ r.zone && r.zone ≤ 4095 && r.urgency ≤ 3) && noRepeat (rs.map Standing.zone) then some rs
        else none
      | none => none
    else none

def clamp (x lo hi : Nat) : Nat := max lo (min x hi)

/-- A profile with each field limited to its range (R101, R104). -/
def Profile.limited (p : Profile) : Profile :=
  { cap := clamp p.cap 500 8000, decel := clamp p.decel 200 3000, rise := clamp p.rise 100 2000,
    margin := clamp p.margin 500 5000, reaction := clamp p.reaction 50 1000, leadExtra := clamp p.leadExtra 0 30000 }

/-- PROFILE_SET's payload: an index 0..2 and six fields; otherwise none (R104). -/
def parseProfile : List Byte → Option (LoadIndex × Profile)
  | [i, c1, c0, a1, a0, u1, u0, m1, m0, t1, t0, l1, l0] =>
    match LoadIndex.ofByte i with
    | some ix =>
      some (ix, ⟨word16 c1 c0, word16 a1 a0, word16 u1 u0, word16 m1 m0, word16 t1 t0, word16 l1 l0⟩)
    | none => none
  | _ => none

/-- The 13 bytes of a profile as stored (R104's reply). -/
def profileBytes (ix : LoadIndex) (p : Profile) : List Byte :=
  byteOf ix.code :: (unsignedField 2 p.cap ++ unsignedField 2 p.decel ++ unsignedField 2 p.rise ++
    unsignedField 2 p.margin ++ unsignedField 2 p.reaction ++ unsignedField 2 p.leadExtra)

/-! ### The beacon frame (R182) -/

/-- A beacon's content. -/
structure Beacon where
  station : Nat
  cls : StationClass
  fresh : Bool
  parked : Bool
  seq : Nat
  periodCode : Nat
  claims : List Claim
  deriving DecidableEq, Repr

/-- A claim record's 24 bits. -/
def Claim.bits (c : Claim) : Nat :=
  c.zone * 4096 + boolBit (c.kind = .hold) 2048 + boolBit c.committed 1024 + c.urgency * 256 + c.wait

/-- The L bytes from the station word through the last claim. -/
def Beacon.body (b : Beacon) : List Byte :=
  beBytes 2 (b.station * 16 + classCode b.cls * 8 + boolBit b.fresh 4 + boolBit b.parked 2) ++ beBytes 2 b.seq ++
  [byteOf (b.periodCode * 64 + b.claims.length * 4)] ++ b.claims.flatMap (fun c => beBytes 3 c.bits)

/-- The whole frame: start byte, length, body, CRC over length and body. -/
def Beacon.frame (b : Beacon) : List Byte :=
  let covered := byteOf (5 + 3 * b.claims.length) :: b.body
  0xA5#8 :: (covered ++ crcBytes covered)

/-- A claim record as received: a REQ is stored with its committed mark clear (R46). -/
def Claim.ofBits (w : Nat) : Claim :=
  let hold := w / 2048 % 2 = 1
  { zone := w / 4096 % 4096, kind := if hold then .hold else .req, committed := decide hold && decide (w / 1024 % 2 = 1),
    urgency := w / 256 % 4, wait := w % 256 }

/-- `n` claim records that end exactly at the last byte. -/
def takeClaims : Nat → List Byte → Option (List Claim)
  | 0, [] => some []
  | 0, _ :: _ => none
  | n + 1, a :: b :: c :: bs =>
    match takeClaims n bs with
    | some cs => some (Claim.ofBits (a.toNat * 65536 + word16 b c) :: cs)
    | none => none
  | _ + 1, _ => none

/-- The content of a frame of the receive queue; none when it is malformed (R50). -/
def parseBeacon : List Byte → Option Beacon
  | w1 :: w0 :: q1 :: q0 :: pc :: rest =>
    let w := word16 w1 w0
    let n := pc.toNat / 4 % 16
    let number := w / 16
    let code := pc.toNat / 64
    match takeClaims n rest with
    | none => none
    | some claims =>
      if 8 < n ∨ code = 3 ∨ number = 0 ∨ number = 4095 ∨ claims.any (fun c => c.zone == 0) ∨
          !noRepeat (claims.map Claim.zone) then none
      else
        some { station := number, cls := if w / 8 % 2 = 1 then .fixed else .carrier, fresh := decide (w / 4 % 2 = 1),
               parked := decide (w / 2 % 2 = 1), seq := word16 q1 q0, periodCode := code, claims := claims }
  | _ => none

/-! ### Equipment-port messages (R183) -/

/-- A message in its envelope: start byte 0xC3, kind, length, payload, CRC over kind, length and payload. -/
def envelope (kind : Byte) (payload : List Byte) : List Byte :=
  let covered := kind :: byteOf payload.length :: payload
  0xC3#8 :: (covered ++ crcBytes covered)

/-- A REPLY's payload. -/
def Reply.payload (r : Reply) : List Byte :=
  r.kind ::
    match r.answer with
    | .accept p => 0x00#8 :: p
    | .refuse code p => 0x01#8 :: byteOf code.code :: p

/-- A NOTICE's payload: its kind 1..15 and the fields of R167's table. -/
def Notice.payload : Notice → List Byte
  | .conflict z n => byteOf 1 :: (unsignedField 2 z ++ unsignedField 2 n)
  | .doubleHold z n => byteOf 2 :: (unsignedField 2 z ++ unsignedField 2 n)
  | .gridlock z n => byteOf 3 :: (unsignedField 2 z ++ unsignedField 2 n)
  | .peerLost n c => byteOf 4 :: (unsignedField 2 n ++ [byteOf (classCode c)])
  | .tableOverflow n => byteOf 5 :: unsignedField 2 n
  | .windowFull z => byteOf 6 :: unsignedField 2 z
  | .markerReject m e q => byteOf 7 :: (unsignedField 2 m ++ signedField 2 e ++ [byteOf q.code])
  | .positionDoubt c x => byteOf 8 :: (byteOf c.code :: signedField 4 x)
  | .positionLost x => byteOf 9 :: signedField 4 x
  | .slip ch d => byteOf 10 :: (byteOf ch.code :: unsignedField 2 d)
  | .channelFail ch => [byteOf 11, byteOf ch.code]
  | .overrun x h c => byteOf 12 :: (signedField 4 x ++ signedField 4 h ++ unsignedField 2 c)
  | .duplicateId q c => byteOf 13 :: (unsignedField 2 q ++ [byteOf (classCode c)])
  | .grant n => [byteOf 14, byteOf n]
  | .holdOff c z n => byteOf 15 :: (byteOf c.code :: (unsignedField 2 z ++ unsignedField 2 n))

def kindReply : Byte := 0x81#8
def kindStatus : Byte := 0x82#8
def kindNotice : Byte := 0x83#8

/-! ### The drive ceiling word (R185) -/

/-- The two bytes of a ceiling word: bit 7 set with bits 13..7 of the ceiling, bit 7 clear with bits 6..0. -/
def ceilingWordBytes (v : Nat) : List Byte := [byteOf (128 + v / 128 % 128), byteOf (v % 128)]

end Sys2Proof.Machine
end

