-- ==== Sys2Proof/Machine/Flags.lean ====
section
/-! DEFINITION. The STOP causes, the level of the STOP line or hold-off line, and the flag bytes of messages
(R122, R123, R154, R181). -/

namespace Sys2Proof.Machine

/-- One or more STOP causes stand (R122). -/
def StopCauses.any (c : StopCauses) : Bool := c.boot || c.configFault || c.conflict || c.overrun

/-- The CONFLICT condition: one or more conflict records stand (R76). -/
def conflictStands (s : State) : Bool := !s.window.conflicts.isEmpty

/-- The first standing claim, in list order, whose entry is not HELD (R123, R154). -/
def firstUnheldStanding (s : State) : Option Standing := s.window.standing.find? (fun r => !isHeld s r.zone)

/-- The hold-off line of a FIXED station is asserted (R123). -/
def holdOffAsserted (s : State) : Bool :=
  s.station.state != .active || s.window.standing.isEmpty || (firstUnheldStanding s).isSome || conflictStands s

/-- The level the STOP line has by the rules: by its causes on a CARRIER (R122), as the hold-off line on a FIXED
station (R123). -/
def stopLevel (s : State) : Bool :=
  if s.isCarrier then s.auth.causes.any else holdOffAsserted s

/-- The STOP byte: line level and causes (R181). -/
def stopByte (s : State) : Byte :=
  byteOf (boolBit (stopLevel s) 1 + boolBit s.auth.causes.boot 2 + boolBit s.auth.causes.configFault 4 +
    boolBit s.auth.causes.conflict 8 + boolBit s.auth.causes.overrun 16)

/-- The flags byte of the status report: overflow, window full, notices dropped (R184). -/
def reportFlags (s : State) : Byte :=
  byteOf (boolBit s.table.overflow.isSome 1 + boolBit s.window.full 2 + boolBit s.port.dropped 4)

/-- The peer claims of kind HOLD on a zone (R63). -/
def Peer.holds (z : Nat) (p : Peer) : Bool := p.claims.any (fun c => c.zone == z && c.kind = .hold)

/-- The lowest station number among the peers that show HOLD on a zone (R63). -/
def lowestHolder (z : Nat) (s : State) : Option Nat := ((s.table.peers.filter (Peer.holds z)).map Peer.station).min?

/-- The notice of an assertion of the hold-off line: the first cause of R154's table that holds. When no peer shows
HOLD on an unheld zone the station carried is 0 (log 24). -/
def holdOffNotice (s : State) : Notice :=
  match s.window.conflicts with
  | r :: _ => .holdOff .conflict r.zone (r.peers.headD 0)
  | [] =>
    if s.station.state != .active then .holdOff .state 0 0
    else
      match firstUnheldStanding s with
      | some r => .holdOff .unheld r.zone ((lowestHolder r.zone s).getD 0)
      | none => .holdOff .released 0 0

/-- The line takes its level; on a FIXED station a release gives GRANT and an assertion HOLD_OFF (R153, R154; the
reassessment is made once, at the end of the event: log 9). -/
def reassessLine (s : State) : State :=
  let level := stopLevel s
  let t :=
    if s.isCarrier then s
    else if s.stopLine && !level then raiseNotice (.grant s.window.standing.length) s
    else if !s.stopLine && level then raiseNotice (holdOffNotice s) s
    else s
  { t with stopLine := level }

end Sys2Proof.Machine
end

