-- ==== Sys2Proof/Machine/Geometry.lean ====
section
/-! DEFINITION. What the Route Store names when it is asked (R2, R5, R6, R7, R16): boundaries, rear, front and occupied
cells, needing cells, expected markers, the binding stop point. -/

namespace Sys2Proof.Machine

/-- The route position in mm: floor(internal position ÷ 1,000) (R80, R89). -/
def State.s (s : State) : Int := s.odo.pos / 1000

/-- The exit boundary (R2). -/
def StoredCell.exit (c : StoredCell) : Int := c.entry + c.cell.length

/-- The route distance of the stop point (R2). -/
def StoredCell.stopAt (c : StoredCell) : Option Int := c.cell.stop.map (fun o => c.entry + (o : Int))

/-- The exit boundary of the last stored cell; 0 in an empty store, where R2 begins. -/
def routeEnd (cells : List StoredCell) : Int := (cells.getLast?.map StoredCell.exit).getD 0

/-- The position of the front cell (R5), 0 in an empty store. -/
def frontPosition (cells : List StoredCell) (x : Int) : Nat :=
  match cells.findIdx? (fun c => decide (c.entry ≤ x) && decide (x < c.exit)) with
  | some i => i + 1
  | none => if x < 0 then min 1 cells.length else cells.length

/-- The position of the front cell for the route position as it stands. -/
def State.front (s : State) : Nat := frontPosition s.route.cells s.s

/-- The front cell (R5). -/
def frontCell (s : State) : Option StoredCell := (s.route.cells.drop (s.front - 1)).head?

/-- The occupied cells (R5). -/
def occupiedCells (s : State) : List StoredCell := s.route.cells.take s.front

/-- A zone is named by an occupied cell. -/
def isOccupied (s : State) (z : Nat) : Bool := (occupiedCells s).any (fun c => c.cell.zones.contains z)

/-- The cell needs the zone (R6). -/
def StoredCell.needs (z : Nat) (c : StoredCell) : Bool := c.cell.zones.contains z

/-- The position of the first needing cell (R6). -/
def firstNeeding (z : Nat) (cells : List StoredCell) : Option Nat := (cells.findIdx? (StoredCell.needs z)).map (· + 1)

/-- The position of the last needing cell (R6). -/
def lastNeeding (z : Nat) (cells : List StoredCell) : Option Nat :=
  (cells.reverse.findIdx? (StoredCell.needs z)).map (fun i => cells.length - i)

/-- The lowest urgency number among the needing cells (R18). -/
def needUrgency (z : Nat) (cells : List StoredCell) : Option Nat :=
  ((cells.filter (StoredCell.needs z)).map (fun c => c.cell.urgency)).min?

/-- The zone is needed by some stored cell. -/
def isNeeded (z : Nat) (cells : List StoredCell) : Bool := cells.any (StoredCell.needs z)

/-- An unreleased stop point (R16). -/
def StoredCell.unreleased (c : StoredCell) : Bool := c.cell.stop.isSome && !c.released

/-- h_stop: the binding unreleased stop point, from the front cell on (R16, R113). -/
def hStop (s : State) : Option Int :=
  ((s.route.cells.drop (s.front - 1)).find? StoredCell.unreleased).bind StoredCell.stopAt

/-- The surveyed positions of the expected markers with an identifier, in route order (R7). -/
def expectedAt (ident : Nat) (s : State) : List Int :=
  (s.route.cells.take (s.front + 2)).flatMap
    (fun c => (c.cell.markers.filter (fun m => m.ident == ident)).map (fun m => c.entry + (m.offset : Int)))

/-- Cells stored one after another from an entry boundary, with clear stop-released marks (R2). -/
def layCells : Int → List RouteCell → List StoredCell
  | _, [] => []
  | start, c :: cs => { cell := c, entry := start, released := false } :: layCells (start + c.length) cs

end Sys2Proof.Machine
end

