-- ==== Sys2Proof/Machine/Limits.lean ====
section
/-! DEFINITION. The Authority Unit's arithmetic (R101, R109 to R118) and the ceiling line (R124). -/

namespace Sys2Proof.Machine

/-! ### Profiles and distances -/

def Profiles.get (p : Profiles) : LoadIndex → Profile
  | .unladen => p.unladen
  | .laden => p.laden
  | .ladenHigh => p.ladenHigh

def Profiles.set (p : Profiles) (ix : LoadIndex) (new : Profile) : Profiles :=
  match ix with
  | .unladen => { p with unladen := new }
  | .laden => { p with laden := new }
  | .ladenHigh => { p with ladenHigh := new }

/-- The active profile (R101). -/
def State.profile (s : State) : Profile := s.auth.profiles.get s.auth.active

/-- The effective margin m_eff (R109). -/
def effectiveMargin (s : State) : Nat :=
  match s.odo.quality with
  | .good => s.profile.margin
  | .doubt | .lost => 2 * s.profile.margin

/-- The reaction distance d_r (R109). -/
def reactionDistance (s : State) : Nat := s.odo.vmeas * s.profile.reaction / 1000

/-- The stopping distance ds (R110). -/
def stoppingDistance (s : State) : Nat := s.odo.vmeas ^ 2 / (2 * s.profile.decel) + reactionDistance s

/-- The stopping point s + ds (R110). -/
def stoppingPoint (s : State) : Int := s.s + (stoppingDistance s : Int)

/-- The lead (R111). -/
def lead (s : State) : Nat := s.profile.cap ^ 2 / (2 * s.profile.decel) + effectiveMargin s + s.profile.leadExtra

/-! ### The granted horizon (R112, R113) -/

/-- A stored cell belongs to the held run when every zone it names is HELD (R112). -/
def cellHeld (s : State) (c : StoredCell) : Bool := c.cell.zones.all (isHeld s)

/-- The end of the held run of `cells`, which begins at `start` (R112). -/
def heldRunEnd (held : StoredCell → Bool) (start : Int) : List StoredCell → Int
  | [] => start
  | c :: cs => if held c then heldRunEnd held c.exit cs else start

/-- h_zone: the exit boundary of the last cell of the held run, or the rear cell's entry boundary (R112). -/
def hZone (s : State) : Int :=
  match s.route.cells with
  | [] => 0
  | c :: cs => heldRunEnd (cellHeld s) c.entry (c :: cs)

/-- The granted horizon as computed: the smaller of h_zone and h_stop (R113). -/
def grantedHorizon (s : State) : Int :=
  match hStop s with
  | some h => min (hZone s) h
  | none => hZone s

/-! ### The speed ceiling (R114 to R118) -/

/-- Adds the powers of two from 2^k down that keep the square at most `n`. -/
def isqrtFrom (n : Nat) : Nat → Nat → Nat
  | 0, r => if (r + 1) * (r + 1) ≤ n then r + 1 else r
  | k + 1, r => isqrtFrom n k (if (r + 2 ^ (k + 1)) * (r + 2 ^ (k + 1)) ≤ n then r + 2 ^ (k + 1) else r)

/-- The floor of the square root, for arguments below 2^64 (00_scope.md section 5; the largest is below 2^35). -/
def isqrt (n : Nat) : Nat := isqrtFrom n 31 0

/-- The zone candidate (R114). -/
def zoneCandidate (s : State) : Nat :=
  isqrt (2 * s.profile.decel * (hZone s - s.s - (effectiveMargin s : Int) - (reactionDistance s : Int)).toNat)

/-- The stop candidate, when h_stop is present (R115). -/
def stopCandidate (s : State) : Option Nat :=
  (hStop s).map (fun h => isqrt (2 * s.profile.decel * (h - s.s - (reactionDistance s : Int)).toNat))

/-- The look-ahead candidate of one cell (R116). -/
def lookAheadCandidate (s : State) (c : StoredCell) : Nat :=
  isqrt (c.cell.limit ^ 2 + 2 * s.profile.decel * (c.entry - s.s - (reactionDistance s : Int)).toNat)

/-- The cells of the look-ahead: the four positions after the front cell, up to the granted horizon (R116). -/
def lookAheadCells (s : State) : List StoredCell :=
  ((s.route.cells.drop s.front).take 4).takeWhile (fun c => decide (c.entry ≤ s.auth.horizon))

/-- The raw ceiling: the smallest of the candidates, the front cell's limit and the cap, at most 300 while LOST (R117). -/
def rawCeiling (s : State) : Nat :=
  let candidates := zoneCandidate s :: ((stopCandidate s).toList ++ (lookAheadCells s).map (lookAheadCandidate s) ++
    ((frontCell s).map (fun c => c.cell.limit)).toList)
  let least := candidates.foldl min s.profile.cap
  match s.odo.quality with
  | .lost => min least 300
  | .good | .doubt => least

/-- The rise step of one tick (R118). -/
def riseStep (s : State) : Nat := s.profile.rise * 50 / 1000

/-! ### The ceiling line (R124, R185) -/

/-- The time the two bytes of a ceiling word occupy the line. -/
def wordTime : Time := 80

/-- A word ready to be sent: its bytes go out, or its value is held as the pending word while another is on the line. No
word is sent on a FIXED station (R123, R124, R185). -/
def sendWord (v : Nat) (s : State) : State :=
  if s.isCarrier then
    match s.auth.wordOut with
    | none => { s with auth := { s.auth with wordOut := some ⟨v, ceilingWordBytes v, s.now + wordTime⟩ } }
    | some _ => { s with auth := { s.auth with pendingWord := some v } }
  else s

/-- The ceiling and the previous ceiling take a value (R118). -/
def setCeiling (v : Nat) (s : State) : State := { s with auth := { s.auth with ceiling := v, previous := v } }

/-- The stored granted horizon takes a value. -/
def setHorizon (h : Int) (s : State) : State := { s with auth := { s.auth with horizon := h } }

/-- The stored horizon takes the computed one when that is lower (R108). -/
def lowerHorizon (s : State) : State := setHorizon (min s.auth.horizon (grantedHorizon s)) s

/-- The limit on entry into LOST: a ceiling above 300 falls to 300 and the word is sent (R117). -/
def limitLost (s : State) : State :=
  if 300 < s.auth.ceiling then sendWord 300 (setCeiling 300 s) else s

end Sys2Proof.Machine
end

