-- ==== Sys2Proof/Machine/RadioOps.lean ====
section
/-! DEFINITION. The Radio Unit's operations: the jitter generator, urgent requests, the pending slot, the start of a
beacon and the receive assembler (R127, R129 to R134, R140 to R143). -/

namespace Sys2Proof.Machine

/-! ### The jitter generator (R127) -/

/-- One step of the generator. -/
def stepGen (g : BitVec 16) : BitVec 16 := if g.getLsbD 0 then (g >>> 1) ^^^ 46080#16 else g >>> 1

/-- A draw from lo..hi: one step, then lo + (g mod K). -/
def draw (g : BitVec 16) (lo hi : Int) : BitVec 16 × Int :=
  let g' := stepGen g
  (g', lo + (g'.toNat : Int) % (hi - lo + 1))

/-! ### Urgent requests (R130, R131) -/

/-- The urgent limiter is closed: less than P ÷ 4 has passed since the time it holds (R131). -/
def limiterClosed (s : State) : Bool :=
  match s.radio.limiter with
  | none => false
  | some t => s.now < t + s.period * 250

/-- An urgent request (R130); in BOOT and CONFIG_FAULT it is discarded (R126). -/
def urgentRequest (s : State) : State :=
  if !s.running || s.radio.slot.isSome || limiterClosed s then s
  else
    let d := draw s.radio.gen 5 ((s.period / 8 : Nat) : Int)
    { s with radio := { s.radio with gen := d.1, slot := some ⟨.urgent, s.now + d.2.toNat * 1000, 0, false⟩ } }

/-! ### The content of a beacon (R43, R134) -/

/-- The claim an entry gives to a beacon (R43). -/
def ClaimEntry.claim (e : ClaimEntry) : Option Claim :=
  match e.state with
  | .announced | .waiting => some ⟨e.zone, .req, false, e.urgency, e.wait⟩
  | .held => some ⟨e.zone, .hold, e.committed, e.urgency, e.wait⟩
  | .queued | .releasing => none

/-- What the frame that starts now carries for an entry (R27, R31, R38). -/
def ClaimEntry.airNow (e : ClaimEntry) : AirMark :=
  match e.state with
  | .announced => .announced e.wait
  | .waiting | .held => .carried e.wait
  | .releasing => .omitted
  | .queued => .none

/-- The beacon built from the window and the station state as they stand (R134 step 1). -/
def beaconNow (s : State) : Beacon :=
  { station := s.ownNumber, cls := s.cls, fresh := s.radio.fresh, parked := s.station.state = .parked, seq := s.radio.seq,
    periodCode := (s.station.cfg.map ConfigWord.periodCode).getD 0,
    claims := s.window.entries.filterMap ClaimEntry.claim }

/-- The time of one byte on the radio line (section 7.1). -/
def radioByteTime : Time := 250

/-- The time from the start at a clear sample to the first byte (R135). -/
def leadTime : Time := 2000

/-- The tail after the last byte (R135). -/
def tailTime : Time := 1000

/-- The start of the pending beacon `b`, after `gap` µs to its first byte (R134): content taken, sequence number
consumed, limiter set by an URGENT beacon, slot emptied; the key asserted abandons a frame in assembly (R140). -/
def startBeacon (b : PendingBeacon) (gap : Time) (s : State) : State :=
  let content := beaconNow s
  let bytes := content.frame
  { s with
    window := { s.window with entries := s.window.entries.map (fun e => { e with air := e.airNow }) }
    radio :=
      { s.radio with
        seq := (s.radio.seq + 1) % 65536
        limiter := match b.kind with
          | .urgent => some s.now
          | .scheduled => s.radio.limiter
        slot := none
        tx := some ⟨content.claims, bytes, .sending, s.now + gap + bytes.length * radioByteTime⟩
        rx := .hunt
        rxGap := none } }

/-- The due time of the pending beacon has arrived (R133); under the key it waits to follow (R136). -/
def beaconDueNow (clear : Bool) (s : State) : State :=
  match s.radio.slot with
  | none => s
  | some b =>
    if s.radio.tx.isSome then { s with radio := { s.radio with slot := some { b with arrived := true } } }
    else if clear then startBeacon b leadTime s
    else if b.busy < 5 then
      let d := draw s.radio.gen 1 16
      { s with
        radio := { s.radio with gen := d.1, slot := some { b with busy := b.busy + 1, due := s.now + d.2.toNat * 1000 } } }
    else countBeaconDrop { s with radio := { s.radio with slot := none } }

/-- The nominal spacing (R125, R128). -/
def nominalSpacing (s : State) : Time := (if s.radio.parkedSpacing then 8 else 1) * s.period * 1000

/-- The distance of a placement point ahead of its nominal instant: P ÷ 4 (R129). -/
def placementLead (s : State) : Time := s.period * 250

/-- A beacon due at once, within the event of its placement (R128, R129): channel-clear is sampled here, and the level is
a free value (log 21); under the key the beacon follows the frame on the air (R136). -/
def dueAtOnce (s : State) : State :=
  beaconDueNow (Config.channelClear s.radio.samples) { s with radio := { s.radio with samples := s.radio.samples + 1 } }

/-- The placement of R129 for the nominal instant `n`; a due time at or before the present time is due at once. -/
def placeScheduled (n : Time) (s : State) : State :=
  let s := { s with radio := { s.radio with placementOpen := false } }
  if s.radio.slot.isSome then s
  else
    let q : Int := (s.period / 4 : Nat)
    let d := draw s.radio.gen (-q) q
    let due := ((n : Int) + d.2 * 1000).toNat
    let t := { s with radio := { s.radio with gen := d.1, slot := some ⟨.scheduled, due, 0, false⟩ } }
    if due ≤ s.now then dueAtOnce t else t

/-! ### Reception (R140 to R143) -/

/-- The receive gap time (R141). -/
def radioGap : Time := 2000

/-- The places of the receive queue (R143). -/
def maxQueue : Nat := 6

/-- A frame joins the receive queue, or is discarded and counted (R143). -/
def enqueueFrame (frame : List Byte) (s : State) : State :=
  if s.radio.queue.length < maxQueue then { s with radio := { s.radio with queue := s.radio.queue ++ [frame] } }
  else countQueueDrop s

/-- The frame's CRC agrees: computed over the length byte and the L bytes, compared with the two that follow (R142). -/
def frameCrcOk (len : Nat) (got : List Byte) : Bool :=
  crcBytes (byteOf len :: got.take len) == got.drop len

def setRx (a : RadioAssembler) (gap : Option Time) (s : State) : State :=
  { s with radio := { s.radio with rx := a, rxGap := gap } }

/-- One byte taken by the receive assembler (R141). -/
def radioByte (x : Byte) (s : State) : State :=
  let again := some (s.now + radioGap)
  match s.radio.rx with
  | .hunt => if x = 0xA5#8 then setRx .length again s else s
  | .length =>
    if 5 ≤ x.toNat ∧ x.toNat ≤ 29 then setRx (.body x.toNat []) again s
    else if x = 0xA5#8 then setRx .length again (countRadioBad s)
    else setRx .hunt none (countRadioBad s)
  | .body len got =>
    let got := got ++ [x]
    if got.length < len + 2 then setRx (.body len got) again s
    else
      let t := setRx .hunt none s
      if frameCrcOk len got then enqueueFrame (got.take len) t else countRadioBad t

/-- The modem delivers bytes: taken in LISTEN, ACTIVE and PARKED while the key is released, ignored otherwise
(R126, R140). -/
def radioBytes (bytes : List Byte) (s : State) : State :=
  if s.running && s.radio.tx.isNone then bytes.foldl (fun s x => radioByte x s) s else s

end Sys2Proof.Machine
end

