-- ==== Sys2Proof/Machine/Claims.lean ====
section
/-! DEFINITION. The Claim Window's operations and what they set off in the Authority Unit within one event: rank and
re-evaluation (R25 to R36), the commit test (R66), occupant claims (R68 to R70), OVERRUN (R120), the immediate recompute
(R108), release (R37), double holds (R71 to R76). -/

namespace Sys2Proof.Machine

/-! ### Blockers and rank (R26, R29, R30, R63) -/

/-- Claim (urgency, wait, station) outranks claim (urgency', wait', station') (R30, R73). -/
def outranks (u w n u' w' n' : Nat) : Bool :=
  decide (u < u') || (u == u' && (decide (w' < w) || (w == w' && decide (n < n'))))

/-- A claim of the peer blocks the own entry (R29). -/
def peerBlocks (s : State) (e : ClaimEntry) (p : Peer) : Bool :=
  p.claims.any (fun c => c.zone == e.zone &&
    (c.kind = .hold || (p.freshness = .live && outranks c.urgency c.wait p.station e.urgency e.carried s.ownNumber)))

/-- The own entry has a blocker (R29). -/
def isBlocked (s : State) (e : ClaimEntry) : Bool := s.table.overflow.isSome || s.table.peers.any (peerBlocks s e)

/-- A peer HOLD stands on the zone (R29, R42). -/
def holdStands (s : State) (z : Nat) : Bool := s.table.peers.any (Peer.holds z)

/-- A peer claim of either kind stands on the zone (R39, R63). -/
def claimStands (s : State) (z : Nat) : Bool := s.table.peers.any (fun p => p.claims.any (fun c => c.zone == z))

/-- P_max in ms (R26). -/
def maxPeriod (s : State) : Nat :=
  ((s.table.peers.filter (fun p => p.freshness = .live)).map (fun p => periodMs p.periodCode)).foldl max s.period

/-- The settle length S (R26). -/
def settleLength (s : State) : Time := (2 * maxPeriod s + 50) * 1000

/-! ### Changes of one entry -/

/-- The frame on the air no longer counts as an announcement: the entry goes to WAITING, where its count no longer rises
(R34), or its content was taken before the entry enters ANNOUNCED (R27). It still gives the carried wait (R31). -/
def AirMark.uncounted : AirMark → AirMark
  | .announced w => .carried w
  | m => m

/-- First announcement (R25). -/
def ClaimEntry.announceFirst (now len : Time) (e : ClaimEntry) : ClaimEntry :=
  { e with state := .announced, wait := 0, carried := 0, announce := 0, released := 0, settle := .running (now + len) }

/-- ANNOUNCED to WAITING (R34). -/
def ClaimEntry.block (now : Time) (byHold : Bool) (e : ClaimEntry) : ClaimEntry :=
  { e with state := .waiting, settle := .stopped, gridlock := false, blockedSince := if byHold then some now else none,
           air := e.air.uncounted }

/-- WAITING to ANNOUNCED (R34). -/
def ClaimEntry.unblock (now len : Time) (e : ClaimEntry) : ClaimEntry :=
  { e with state := .announced, settle := .running (now + len), announce := 0, blockedSince := none,
           air := e.air.uncounted }

/-- Blocked-since of an entry that stays WAITING (R42). -/
def ClaimEntry.trackBlock (now : Time) (byHold : Bool) (e : ClaimEntry) : ClaimEntry :=
  { e with blockedSince := if byHold then some (e.blockedSince.getD now) else none }

/-- The grant (R35): the wait freezes as it stands, the mark is clear. -/
def ClaimEntry.grant (e : ClaimEntry) : ClaimEntry := { e with state := .held, committed := false }

/-- HELD to RELEASING (R37). -/
def ClaimEntry.release (e : ClaimEntry) : ClaimEntry := { e with state := .releasing, committed := false, released := 0 }

/-- HELD to WAITING by a yield (R75). -/
def ClaimEntry.yieldTo (now : Time) (e : ClaimEntry) : ClaimEntry :=
  { e with state := .waiting, committed := false, settle := .stopped, announce := 0, gridlock := false,
           blockedSince := some now }

/-- The committed mark set (R65). -/
def ClaimEntry.commit (e : ClaimEntry) : ClaimEntry := { e with committed := true }

/-- HELD as an occupant claim, by the rows of R68 and R70: an unheld entry's settle timer is discarded; that of a RELEASING
entry stays as it is (R28). -/
def ClaimEntry.occupy (e : ClaimEntry) : ClaimEntry :=
  match e.state with
  | .queued | .announced | .waiting =>
    { e with state := .held, committed := true, settle := .stopped, blockedSince := none }
  | .releasing => { e with state := .held, committed := true, released := 0 }
  | .held => e.commit

/-- First cell, last cell and urgency from the needing cells; absent when no cell needs the zone (R24). -/
def ClaimEntry.updateNeeds (cells : List StoredCell) (e : ClaimEntry) : ClaimEntry :=
  { e with first := firstNeeding e.zone cells, last := lastNeeding e.zone cells,
           urgency := (needUrgency e.zone cells).getD e.urgency }

/-- RELEASING back to HELD (R39). -/
def ClaimEntry.revive (cells : List StoredCell) (e : ClaimEntry) : ClaimEntry :=
  { e.updateNeeds cells with state := .held, committed := false }

/-- A new QUEUED entry with its fields set by R18. -/
def ClaimEntry.new (zone : Nat) (urgency : Nat) (first last : Option Nat) : ClaimEntry :=
  { zone := zone, state := .queued, first := first, last := last, urgency := urgency, wait := 0, carried := 0,
    settle := .stopped, announce := 0, committed := false, released := 0, blockedSince := none, gridlock := false,
    air := .none }

/-! ### Window order (R19) -/

/-- An entry's place in route order: its first needing cell, and its zone's place in that cell's zone list. -/
def orderKey (cells : List StoredCell) (e : ClaimEntry) : Option (Nat × Nat) :=
  e.first.map (fun f => (f, (((cells.drop (f - 1)).head?.map (fun c => c.cell.zones.idxOf e.zone)).getD 0)))

/-- Does the first place come no later than the second? An entry without one stands after every entry that has one. -/
def orderLe : Option (Nat × Nat) → Option (Nat × Nat) → Bool
  | some (a, b), some (c, d) => decide (a < c) || (a == c && decide (b ≤ d))
  | some _, none => true
  | none, some _ => false
  | none, none => true

/-- Puts an entry before the first entry that does not come earlier. -/
def insertOrdered (cells : List StoredCell) (e : ClaimEntry) : List ClaimEntry → List ClaimEntry
  | [] => [e]
  | x :: xs =>
    if orderLe (orderKey cells e) (orderKey cells x) then e :: x :: xs else x :: insertOrdered cells e xs

/-- The entries in window order, entries of one place in the order they had (R19, log 27). -/
def orderEntries (cells : List StoredCell) : List ClaimEntry → List ClaimEntry
  | [] => []
  | e :: es => insertOrdered cells e (orderEntries cells es)

def setEntries (es : List ClaimEntry) (s : State) : State := { s with window := { s.window with entries := es } }

/-- An entry joins the window at its place; on a FIXED station behind the others (R19). -/
def addEntry (e : ClaimEntry) (s : State) : State :=
  let es := s.window.entries ++ [e]
  setEntries (if s.isCarrier then orderEntries s.route.cells es else es) s

/-- The new entry for a zone of a stored cell (R18). -/
def entryFor (z : Nat) (cells : List StoredCell) : ClaimEntry :=
  .new z ((needUrgency z cells).getD 0) (firstNeeding z cells) (lastNeeding z cells)

/-- Entries that leave the window (R40). -/
def removeZones (zs : List Nat) (s : State) : State :=
  setEntries (s.window.entries.filter (fun e => !zs.contains e.zone)) s

/-! ### The commit test (R66, R67) -/

/-- The entry passes the test: its first needing cell is at or behind the front cell, or begins at or before the
stopping point. -/
def commitPasses (s : State) (e : ClaimEntry) : Bool :=
  match e.first with
  | none => false
  | some f =>
    decide (f ≤ s.front) ||
      (match (s.route.cells.drop (f - 1)).head? with
        | some c => decide (c.entry ≤ stoppingPoint s)
        | none => false)

/-- The commit test of one HELD entry of a CARRIER; a mark newly set requests an urgent beacon (log 13). -/
def commitTest (z : Nat) (s : State) : State :=
  match findEntry z s with
  | none => s
  | some e =>
    if s.isCarrier && e.state = .held && !e.committed && commitPasses s e then
      urgentRequest (modifyEntry z ClaimEntry.commit s)
    else s

/-- The commit tests of an authority tick: every HELD entry, in window order (R67). -/
def commitAll (s : State) : State := (windowZones s).foldl (fun s z => commitTest z s) s

/-! ### Re-evaluation (R33 to R36) -/

/-- The re-evaluation of one entry, and whether it became HELD. -/
def reevaluate (z : Nat) (s : State) : State × Bool :=
  match findEntry z s with
  | none => (s, false)
  | some e =>
    match e.state with
    | .announced =>
      if isBlocked s e then (modifyEntry z (ClaimEntry.block s.now (holdStands s z)) s, false)
      else if e.settle = .expired && e.announce == 2 && allEarlierHeld z s then
        (commitTest z (urgentRequest (modifyEntry z ClaimEntry.grant s)), true)
      else (s, false)
    | .waiting =>
      if isBlocked s e then (modifyEntry z (ClaimEntry.trackBlock s.now (holdStands s z)) s, false)
      else (modifyEntry z (ClaimEntry.unblock s.now (settleLength s)) s, false)
    | .queued | .held | .releasing => (s, false)

/-- The entry for a zone is ANNOUNCED. -/
def isAnnounced (s : State) (z : Nat) : Bool := s.window.entries.any (fun e => e.zone == z && e.state = .announced)

/-- Re-evaluations of one event in window order: the zones selected, and after an entry has become HELD every later
ANNOUNCED entry (R33, R36). -/
def reevaluatePass (sel : Nat → Bool) : List Nat → Bool → State → State
  | [], _, s => s
  | z :: zs, granted, s =>
    if sel z || (granted && isAnnounced s z) then
      let r := reevaluate z s
      reevaluatePass sel zs (granted || r.2) r.1
    else reevaluatePass sel zs granted s

/-- The re-evaluations of one event for the zones selected. -/
def reevaluateZones (sel : Nat → Bool) (s : State) : State := reevaluatePass sel (windowZones s) false s

/-- The run of grants behind an entry that has become HELD (R36). -/
def grantRun (z : Nat) (s : State) : State := reevaluatePass (fun _ => false) (laterZones z s) true s

/-- First announcement of an entry, with its urgent request and its first evaluation (R25). -/
def announce (z : Nat) (s : State) : State :=
  (reevaluate z (urgentRequest (modifyEntry z (ClaimEntry.announceFirst s.now (settleLength s)) s))).1

/-! ### WINDOW_FULL (R23) -/

/-- A zone held back for want of room. -/
def holdBack (z : Nat) (s : State) : State :=
  if s.window.full then s
  else raiseNotice (.windowFull z) { s with window := { s.window with full := true } }

/-! ### Conflict records (R76) -/

def maxConflicts : Nat := 8
def maxConflictPeers : Nat := 24

def addConflictPeer (z n : Nat) (rs : List ConflictRecord) : List ConflictRecord :=
  rs.map (fun r => if r.zone == z then { r with peers := r.peers ++ [n] } else r)

/-- The records after an outcome CONFLICT on a zone with a peer, and whether a notice is given (R76's table). -/
def conflictRecords (z n : Nat) (rs : List ConflictRecord) : List ConflictRecord × Bool :=
  match rs.find? (fun r => r.zone == z) with
  | some r =>
    if r.peers.contains n then (rs, false)
    else if r.peers.length < maxConflictPeers then (addConflictPeer z n rs, true)
    else (rs, true)
  | none => if rs.length < maxConflicts then (rs ++ [⟨z, [n]⟩], true) else (rs, true)

/-- The outcome CONFLICT on a zone with a peer: the record, the cause and the notice (R76). -/
def recordConflict (z n : Nat) (s : State) : State :=
  let r := conflictRecords z n s.window.conflicts
  let t :=
    { s with
      window := { s.window with conflicts := r.1 }
      auth := { s.auth with causes := { s.auth.causes with conflict := !r.1.isEmpty } } }
  if r.2 then raiseNotice (.conflict z n) t else t

/-! ### Occupant claims (R68 to R70) -/

/-- The peer's claim of kind HOLD on a zone (R63). -/
def Peer.holdOn (z : Nat) (p : Peer) : Option Claim := p.claims.find? (fun c => c.zone == z && c.kind = .hold)

/-- The double-hold test of an occupant claim against one peer: its mark is set, so it keeps or raises CONFLICT (R72).
A first STOP cause raised here, which happens outside ACTIVE only, lowers the stored horizon (R108). -/
def occupantTest (z : Nat) (p : Peer) (s : State) : State :=
  match p.holdOn z with
  | none => s
  | some c =>
    if c.committed then
      let t := recordConflict z p.station s
      if s.isCarrier && !s.auth.causes.any then lowerHorizon t else t
    else s

/-- The double-hold tests of an occupant claim, once for each peer that shows HOLD, in table order (R71, log 15). -/
def occupantTests (z : Nat) (s : State) : State := s.table.peers.foldl (fun s p => occupantTest z p s) s

/-- An entry that has become HELD as an occupant claim: urgent request, double-hold tests, the run of grants. The run is
made here, before the next zone is taken and before what is left of the event that raised OVERRUN (DESIGN CHOICE,
log 32). -/
def occupantHeld (z : Nat) (s : State) : State := grantRun z (occupantTests z (urgentRequest s))

/-- A zone taken as an occupant claim, by the tables of R68 and R70. -/
def occupantClaim (z : Nat) (s : State) : State :=
  match findEntry z s with
  | none =>
    if windowHasRoom s then occupantHeld z (addEntry (entryFor z s.route.cells).occupy s) else holdBack z s
  | some e =>
    if e.state = .held then modifyEntry z ClaimEntry.commit s else occupantHeld z (modifyEntry z ClaimEntry.occupy s)

/-! ### OVERRUN and the immediate recompute (R108, R118, R120, R122) -/

/-- The ceiling falls to 0 when the first STOP cause is raised, and the word 0 is sent (R122); where it is 0 already no word
is sent (R108, R124; DEDUCED, log 35). -/
def dropCeiling (s : State) : State := if 0 < s.auth.ceiling then sendWord 0 (setCeiling 0 s) else s

/-- The OVERRUN condition stands, as a condition and as a STOP cause. -/
def setOverrun (s : State) : State :=
  { s with auth := { s.auth with overrun := true, causes := { s.auth.causes with overrun := true } } }

/-- The zones of the front cell. -/
def frontZones (s : State) : List Nat := ((frontCell s).map (fun c => c.cell.zones)).getD []

/-- Raising OVERRUN, in R120's order (log 12). -/
def raiseOverrun (s : State) : State :=
  let t := setOverrun s
  let t := if s.auth.causes.any then t else dropCeiling (lowerHorizon t)
  let t := raiseNotice (.overrun s.s (hZone s) ((frontCell s).map (fun c => c.cell.ident) |>.getD 0)) t
  let t := (frontZones s).foldl (fun t z => occupantClaim z t) t
  setHorizon (grantedHorizon t) t

/-- The OVERRUN test (R107 step 4, R120), made in ACTIVE on a CARRIER. -/
def overrunTest (s : State) : State :=
  if s.isCarrier && s.station.state = .active && !s.auth.overrun && decide (hZone s < s.s) then raiseOverrun s else s

/-- Steps 4 to 6 of an immediate recompute: the ceiling may fall and does not rise (R108, R118). A word is sent when it
fell, also at the first STOP cause (DEDUCED, log 35). -/
def recomputeCeiling (s : State) : State :=
  let t := overrunTest s
  let c := if t.auth.causes.any then 0 else min (rawCeiling t) t.auth.previous
  if c < t.auth.ceiling then sendWord c (setCeiling c t) else t

/-- The immediate recompute (R108); a FIXED station computes nothing (R123). -/
def immediateRecompute (s : State) : State :=
  if s.isCarrier then
    let t := lowerHorizon s
    if s.station.state = .active then recomputeCeiling t else t
  else s

/-- The recompute at START_POSITION: the new horizon is taken whatever it is (R108, R176). -/
def startRecompute (s : State) : State := setHorizon (grantedHorizon s) s

/-! ### Release, yield and the double-hold test (R37, R71 to R76) -/

/-- A HELD entry enters RELEASING, with its urgent request and the recompute at once (R37, R108, log 11), before
what is left of the same event (DESIGN CHOICE, log 31). -/
def releaseEntry (z : Nat) (s : State) : State :=
  immediateRecompute (urgentRequest (modifyEntry z ClaimEntry.release s))

/-- The yield of an entry to a peer (R75), with the recompute before what is left of the same event (DESIGN CHOICE,
log 31). -/
def yieldEntry (z n : Nat) (s : State) : State :=
  immediateRecompute (raiseNotice (.doubleHold z n) (urgentRequest (modifyEntry z (ClaimEntry.yieldTo s.now) s)))

/-- The outcome CONFLICT at an accepted beacon: a first STOP cause brings the immediate recompute (R76, R108, R122). The
CONFLICT notice joins the queue before an OVERRUN notice of that recompute (DESIGN CHOICE, log 16). -/
def conflictOutcome (z n : Nat) (s : State) : State :=
  let t := recordConflict z n s
  if s.auth.causes.any then t else immediateRecompute t

/-- The double-hold test of the own HELD entry for a zone and a peer's HOLD on it (R71 to R73). -/
def doubleHoldTest (z n : Nat) (c : Claim) (s : State) : State :=
  let s := commitTest z s
  match findEntry z s with
  | none => s
  | some e =>
    if e.state != .held then s
    else
      match e.committed, c.committed with
      | true, true => conflictOutcome z n s
      | true, false => s
      | false, true => yieldEntry z n s
      | false, false =>
        if outranks c.urgency c.wait n e.urgency e.wait s.ownNumber then yieldEntry z n s else s

end Sys2Proof.Machine
end

