-- ==== Sys2Proof/Machine/Listing.lean ====
section
/-! DEFINITION. Listing and revival (R21 to R23, R39, R69), the delivery of needing cells (R24), rear removal and the
datum shift (R11 to R13), the authority tick (R107) and entry into ACTIVE (R177). -/

namespace Sys2Proof.Machine

/-! ### Listing (R21 to R23) -/

/-- The revival test (R39). -/
def canRevive (z : Nat) (e : ClaimEntry) (s : State) : Bool :=
  e.released == 0 && !claimStands s z && allEarlierHeld z s && s.table.overflow.isNone

/-- The entry takes its place in window order. -/
def reorder (s : State) : State :=
  if s.isCarrier then setEntries (orderEntries s.route.cells s.window.entries) s else s

/-- The revival of a RELEASING entry (R39), with its commit test (R67) and the run of grants (R36). The run is made here,
before the listing walk takes its next zone (DESIGN CHOICE, log 32). -/
def reviveEntry (z : Nat) (s : State) : State :=
  grantRun z (commitTest z (urgentRequest (reorder (modifyEntry z (ClaimEntry.revive s.route.cells) s))))

/-- A zone without an entry is listed: announced at once in ACTIVE (R22, R25); in LISTEN an occupant claim if an occupied
cell names it (R69), and QUEUED otherwise. -/
def listZone (z : Nat) (s : State) : State :=
  let t := addEntry (entryFor z s.route.cells) s
  match s.station.state with
  | .active => announce z t
  | .listen => if isOccupied s z then occupantClaim z t else t
  | .boot | .configFault | .parked => t

/-- The walk over the zones in reach, and whether it ended by holding a zone back (R22, R23). -/
def listZones : List Nat → State → State × Bool
  | [], s => (s, false)
  | z :: zs, s =>
    match findEntry z s with
    | some e => listZones zs (if e.state = .releasing && canRevive z e s then reviveEntry z s else s)
    | none => if windowHasRoom s then listZones zs (listZone z s) else (holdBack z s, true)

/-- The zones of the cells whose entry boundary does not exceed s + lead, each at the first cell that names it (R22). -/
def zonesInReach (s : State) : List Nat :=
  firstOccurrences
    ((s.route.cells.takeWhile (fun c => decide (c.entry ≤ s.s + (lead s : Int)))).flatMap (fun c => c.cell.zones))

def clearFull (s : State) : State := { s with window := { s.window with full := false } }

/-- The listing test runs on a CARRIER in LISTEN and ACTIVE (R21). -/
def listingRuns (s : State) : Bool :=
  s.isCarrier && (match s.station.state with
    | .listen | .active => true
    | .boot | .configFault | .parked => false)

/-- The listing test (R22), with the WINDOW_FULL condition cleared by a walk that holds nothing back (R23). -/
def listingTest (s : State) : State :=
  if listingRuns s then
    let r := listZones (zonesInReach s) s
    if r.2 then r.1 else clearFull r.1
  else s

/-! ### The delivery of needing cells (R24) -/

/-- The zones of the entries after the first one that satisfies `p`. -/
def zonesAfter (p : ClaimEntry → Bool) : List ClaimEntry → List Nat
  | [] => []
  | e :: es => if p e then es.map ClaimEntry.zone else zonesAfter p es

/-- The delivery of a change of needing cells, without the listing test that follows it (R24, R13, R15): first and last
cells, urgencies and window order; HELD entries without need released, each with its recompute; unheld ones withdrawn after
that; re-evaluations (DESIGN CHOICE of the order of recompute and withdrawal, log 31). -/
def deliverNeeds (s : State) : State :=
  let old := s.window.entries
  let cells := s.route.cells
  let needed := fun (e : ClaimEntry) => isNeeded e.zone cells
  let lost := (old.filter (fun e => e.state = .held && !needed e)).map ClaimEntry.zone
  let withdrawn := (old.filter (fun e => e.unheld && !needed e)).map ClaimEntry.zone
  let reranked := (old.filter (fun e => e.requested && (e.updateNeeds cells).urgency != e.urgency)).map ClaimEntry.zone
  let behind := zonesAfter (fun e => !needed e && (e.first.isSome || e.unheld)) old
  let s := setEntries (orderEntries cells (old.map (ClaimEntry.updateNeeds cells))) s
  let s := lost.foldl (fun s z => releaseEntry z s) s
  let s := removeZones withdrawn s
  reevaluateZones (fun z => reranked.contains z || behind.contains z) s

/-- The delivery with its listing test (R24). -/
def deliver (s : State) : State := listingTest (deliverNeeds s)

/-! ### Rear removal (R11 to R13) -/

def setCells (cells : List StoredCell) (s : State) : State := { s with route := { s.route with cells := cells } }

/-- Every route distance the part holds is reduced by `L` mm; `cells` are the remaining cells (R12). -/
def shiftDatum (L : Nat) (cells : List StoredCell) (s : State) : State :=
  { s with
    route := { cells := cells.map (fun c => { c with entry := c.entry - (L : Int) }) }
    odo :=
      { s.odo with
        pos := s.odo.pos - (L : Int) * 1000
        lastMarker := s.odo.lastMarker.map (fun m => { m with surveyed := m.surveyed - (L : Int) }) }
    auth := { s.auth with horizon := s.auth.horizon - (L : Int) } }

/-- The rear removals of one sample: the rear cell is tested until the test fails or one cell remains (R11). -/
def rearRemovals : Nat → State → State
  | 0, s => s
  | k + 1, s =>
    match s.route.cells with
    | c :: d :: rest =>
      if (c.cell.length : Int) < s.s - (s.carrierLength : Int) then
        rearRemovals k (deliver (shiftDatum c.cell.length (d :: rest) s))
      else s
    | _ => s

/-! ### The authority tick and the output period (R103, R106, R107) -/

/-- The length of the output period (R106). -/
def outputPeriod : Time := 50000

/-- The pending index is taken; a change of the active index is a change of the lead (R103). -/
def takePending (s : State) : State :=
  match s.auth.pendingIx with
  | none => s
  | some ix =>
    let t := { s with auth := { s.auth with active := ix, pendingIx := none } }
    if ix = s.auth.active then t else listingTest t

/-- The ceiling and word of a tick (R107 steps 5 and 6, R118). -/
def tickCeiling (s : State) : State :=
  let c := if s.auth.causes.any then 0 else min (rawCeiling s) (s.auth.previous + riseStep s)
  sendWord c (setCeiling c s)

/-- An authority tick (R107). -/
def authorityTickWork (s : State) : State :=
  let s := takePending s
  let s := setHorizon (grantedHorizon s) s
  commitAll (tickCeiling (overrunTest s))

/-! ### Station state changes (R165, R177) -/

/-- The status period of a station state (R165). -/
def statusPeriod : StationState → Time
  | .active => 200000
  | .boot | .configFault | .listen | .parked => 1000000

/-- A change of station state, handed to the Equipment Port (R165, R169). -/
def changeState (st : StationState) (s : State) : State :=
  { s with
    station := { s.station with state := st }
    port := { s.port with reportPending := true, statusAt := some (s.now + statusPeriod st) } }

/-- Every QUEUED entry is announced, in window order (R25). -/
def announceQueued (s : State) : State :=
  let queued := (s.window.entries.filter (fun e => e.state = .queued)).map ClaimEntry.zone
  queued.foldl (fun s z => announce z s) s

/-- What every entry into ACTIVE does once the radio has taken the change: QUEUED entries announced, listing test,
an authority tick at once with the output period restarted (R106, R177). The listing test, with the lead of the index that
is active and with its revivals, comes before the tick (DESIGN CHOICE of that order, log 34). -/
def enterActive (s : State) : State :=
  let s := changeState .active s
  let s := { s with
    station := { s.station with listen := .stopped }
    auth := { s.auth with outputAt := s.now + outputPeriod } }
  if s.isCarrier then authorityTickWork (listingTest (announceQueued s)) else s

/-- Entry into ACTIVE from LISTEN: the FRESH mark goes off (R139, R177). -/
def enterActiveFromListen (s : State) : State := enterActive { s with radio := { s.radio with fresh := false } }

/-! ### Standing claims given up (R150, R151) -/

/-- The standing-claim list is emptied: unheld entries withdrawn, HELD ones released (R150). -/
def giveUpStanding (s : State) : State :=
  let withdrawn := (s.window.entries.filter ClaimEntry.unheld).map ClaimEntry.zone
  let held := (s.window.entries.filter (fun e => e.state = .held)).map ClaimEntry.zone
  let s := { s with window := { s.window with standing := [] } }
  held.foldl (fun s z => releaseEntry z s) (removeZones withdrawn s)

end Sys2Proof.Machine
end

