-- ==== Sys2Proof/Machine/PortOps.lean ====
section
/-! DEFINITION. The Equipment Port's operations: the status report (R166, R184), the outbound line (R164), the taking of a
command (R157 to R161), and how every event ends. -/

namespace Sys2Proof.Machine

/-! ### The status report (R166, R184) -/

/-- The three bytes of one Claim Window entry. -/
def ClaimEntry.report (e : ClaimEntry) : List Byte :=
  unsignedField 2 e.zone ++ [byteOf (e.state.code + boolBit e.committed 8)]

/-- The STATUS payload, from the blocks as they stand (R184). -/
def statusPayload (s : State) : List Byte :=
  [byteOf s.station.state.code, byteOf (classCode s.cls), byteOf s.station.cause.code, byteOf s.station.fault,
    byteOf s.odo.quality.code] ++
  signedField 4 s.s ++ unsignedField 2 s.odo.vmeas ++ unsignedField 2 s.auth.ceiling ++ signedField 4 s.auth.horizon ++
  [stopByte s, byteOf s.auth.active.code, byteOf s.route.cells.length] ++
  unsignedField 2 ((s.route.cells.head?.map (fun c => c.cell.ident)).getD 0) ++
  unsignedField 2 (((frontCell s).map (fun c => c.cell.ident)).getD 0) ++
  [byteOf s.table.peers.length, reportFlags s] ++
  unsignedField 2 s.port.counters.radioBad ++ unsignedField 2 s.port.counters.queueDrops ++
  unsignedField 2 s.port.counters.beaconDrops ++ unsignedField 2 s.port.counters.portBad ++
  unsignedField 2 s.port.counters.strays ++
  [byteOf s.window.entries.length] ++ s.window.entries.flatMap ClaimEntry.report

/-! ### The outbound line (R164) -/

/-- The time of one byte on the equipment port (R164). -/
def portByteTime : Time := 40

/-- A message starts on the outbound line. -/
def startMessage (content : OutContent) (kind : Byte) (payload : List Byte) (s : State) : State :=
  let bytes := envelope kind payload
  { s with port := { s.port with out := some ⟨content, bytes, s.now + bytes.length * portByteTime⟩ } }

/-- The next message by the first row of R164's table that holds. -/
def startNext (s : State) : State :=
  match s.port.replies with
  | r :: rs => startMessage (.reply r) kindReply r.payload { s with port := { s.port with replies := rs } }
  | [] =>
    if s.port.restartPending then s
    else
      match s.port.notices with
      | n :: ns => startMessage (.notice n) kindNotice n.payload { s with port := { s.port with notices := ns } }
      | [] =>
        if s.port.reportPending then
          startMessage .status kindStatus (statusPayload s)
            { s with port := { s.port with reportPending := false, dropped := false } }
        else s

/-- The line is free, so the next message starts (R164). -/
def serveOutbound (s : State) : State := if s.port.out.isSome then s else startNext s

/-! ### The end of an event -/

/-- The own zone set (R55, R155). -/
def ownZones (s : State) : List Nat :=
  (if s.isCarrier then s.route.cells.flatMap (fun c => c.cell.zones) else s.window.standing.map Standing.zone) ++
    windowZones s

/-- One or more of the claims name a zone of the set (R55). -/
def touches (zones : List Nat) (claims : List Claim) : Bool := claims.any (fun c => zones.contains c.zone)

/-- Every peer entry's relevant flag by the own zone set as it stands (R55). -/
def refreshRelevance (s : State) : State :=
  { s with table := { s.table with
      peers := s.table.peers.map (fun p => { p with relevant := touches (ownZones s) p.claims }) } }

/-- How every event ends (log 8, log 9): relevant flags, the STOP line with its notices, the outbound line. -/
def finish (s : State) : State := serveOutbound (reassessLine (refreshRelevance s))

/-- An event from outside at time `t`: while the part is held at its reset values no input is taken (R170). -/
def outsideEvent (t : Time) (work : State → State) (s : State) : State :=
  let s := s.reach t
  if s.station.held then s else finish (work s)

/-- The running out of a timer that stands until `due`; none when the timer does not run (log 1, log 3). -/
def timedEvent (due : Option Time) (work : State → State) (s : State) : State :=
  match due with
  | none => s
  | some t => if s.station.held then s else finish (work (s.reach t))

/-! ### Taking a command (R157 to R161) -/

/-- The places of the reply queue (R156). -/
def maxReplies : Nat := 4

/-- A reply joins the reply queue (R161). -/
def queueReply (kind : Byte) (a : Answer) (s : State) : State :=
  { s with port := { s.port with replies := s.port.replies ++ [⟨kind, a⟩] } }

def refuse (code : RefuseCode) : Answer := .refuse code []

/-- A command as its owner handles it: the state after its changes, and the answer. -/
abbrev Handler := State → State × Answer

/-- The message has been received whole: the assembler is back in HUNT, its gap timer stopped (R157). -/
def inboundDone (s : State) : State := { s with port := { s.port with inbound := .hunt, inGap := none } }

/-- A message with its CRC right is taken, by the first row of R159's table that holds; `fixedLen` is the payload length
R160 requires, if it names the kind. While restart pending is set its bytes were discarded (R157). -/
def takeCommand (kind : Byte) (fixedLen : Option Nat) (payload : List Byte) (h : Handler) (s : State) : State :=
  let s := inboundDone s
  if s.port.restartPending then s
  else if maxReplies ≤ s.port.replies.length then countPortBad s
  else if fixedLen.any (fun n => n != payload.length) then queueReply kind (refuse .badLength) s
  else
    let r := h s
    queueReply kind r.2 r.1

/-- The Station Controller and blocks refuse in BOOT and CONFIG_FAULT (the first row of the owners' tables). -/
def inBootOrFault (s : State) : Bool := !s.running

/-- A handler that is refused BAD_STATE in BOOT and CONFIG_FAULT, and then WRONG_CLASS on the other class. -/
def classHandler (cls : StationClass) (h : Handler) : Handler := fun s =>
  if inBootOrFault s then (s, refuse .badState)
  else if s.cls != cls then (s, refuse .wrongClass)
  else h s

end Sys2Proof.Machine
end

