-- ==== Sys2Proof/Machine/ClaimCommands.lean ====
section
/-! DEFINITION. RESUME, YIELD_ZONE, STAND_CLAIM, STAND_RELEASE and COMMIT (R41, R78, R147 to R150). -/

namespace Sys2Proof.Machine

/-! ### RESUME -/

/-- The first record's zone, in record order, on which a peer shows HOLD, with the lowest such station (R78). -/
def stillConflict (s : State) : Option (Nat × Nat) :=
  s.window.conflicts.findSome? (fun r => (lowestHolder r.zone s).map (fun n => (r.zone, n)))

/-- Every record removed and the CONFLICT condition clear (R78). -/
def clearConflicts (s : State) : State :=
  { s with
    window := { s.window with conflicts := [] }
    auth := { s.auth with causes := { s.auth.causes with conflict := false } } }

/-- OVERRUN is cleared when s does not exceed the stored granted horizon (R78, R121). -/
def clearOverrun (s : State) : State :=
  if s.s ≤ s.auth.horizon then
    { s with auth := { s.auth with overrun := false, causes := { s.auth.causes with overrun := false } } }
  else s

/-- RESUME as its owner handles it (R78). -/
def resumeHandler : Handler := fun s =>
  if inBootOrFault s then (s, refuse .badState)
  else if s.window.conflicts.isEmpty && !s.auth.overrun then (s, refuse .notConflict)
  else
    match stillConflict s with
    | some (z, n) => (s, .refuse .stillConflict (unsignedField 2 z ++ unsignedField 2 n))
    | none =>
      let t := clearOverrun (clearConflicts s)
      (t, .accept [stopByte t])

def kindResume : Byte := 0x09#8

/-- RESUME -/
def execResume (t : Time) (payload : List Byte) (s : State) : Host.Outcome State Fault Refusal :=
  .next (outsideEvent t (takeCommand kindResume (some 0) payload resumeHandler) s)

/-! ### YIELD_ZONE -/

/-- A HELD entry given up at command, with its notice of station 0 before the recompute (R41, log 16). -/
def yieldAtCommand (z : Nat) (s : State) : State :=
  immediateRecompute (raiseNotice (.doubleHold z 0) (urgentRequest (modifyEntry z ClaimEntry.release s)))

/-- YIELD_ZONE as its owner handles it (R41). -/
def yieldZoneHandler (payload : List Byte) : Handler :=
  classHandler .carrier fun s =>
    match payload with
    | [hi, lo] =>
      let z := word16 hi lo
      match findEntry z s with
      | none => (s, refuse .unknownZone)
      | some e =>
        match e.state with
        | .held => if isOccupied s z then (s, refuse .occupied) else (yieldAtCommand z s, .accept [])
        | .queued | .announced | .waiting => (s, refuse .notGranted)
        | .releasing => (s, .accept [])
    | _ => (s, refuse .badLength)

def kindYieldZone : Byte := 0x0A#8

/-- YIELD_ZONE -/
def execYieldZone (t : Time) (payload : List Byte) (s : State) : Host.Outcome State Fault Refusal :=
  .next (outsideEvent t (takeCommand kindYieldZone (some 2) payload (yieldZoneHandler payload)) s)

/-! ### STAND_CLAIM -/

/-- The standing claims are written, their entries created and announced in list order, then re-evaluated (R148). -/
def applyStanding (rs : List Standing) (s : State) : State :=
  let len := settleLength s
  let s := { s with window := { s.window with
    standing := rs
    entries := rs.map (fun r => (ClaimEntry.new r.zone r.urgency none none).announceFirst s.now len) } }
  let s := rs.foldl (fun s _ => urgentRequest s) s
  reevaluateZones (fun _ => true) s

/-- STAND_CLAIM as its owner handles it (R147). -/
def standClaimHandler (payload : List Byte) : Handler :=
  classHandler .fixed fun s =>
    match parseStanding payload with
    | none => (s, refuse .badLength)
    | some rs =>
      if s.station.state != .active then (s, refuse .badState)
      else if !s.window.entries.isEmpty then (s, refuse .badState)
      else (applyStanding rs s, .accept [byteOf rs.length])

def kindStandClaim : Byte := 0x0B#8

/-- STAND_CLAIM -/
def execStandClaim (t : Time) (payload : List Byte) (s : State) : Host.Outcome State Fault Refusal :=
  .next (outsideEvent t (takeCommand kindStandClaim none payload (standClaimHandler payload)) s)

/-! ### STAND_RELEASE -/

/-- STAND_RELEASE as its owner handles it (R150). -/
def standReleaseHandler : Handler :=
  classHandler .fixed fun s => (giveUpStanding s, .accept [byteOf s.window.standing.length])

def kindStandRelease : Byte := 0x0C#8

/-- STAND_RELEASE -/
def execStandRelease (t : Time) (payload : List Byte) (s : State) : Host.Outcome State Fault Refusal :=
  .next (outsideEvent t (takeCommand kindStandRelease (some 0) payload standReleaseHandler) s)

/-! ### COMMIT -/

/-- Every HELD standing-claim entry committed (R149). -/
def commitStanding (s : State) : State :=
  setEntries (s.window.entries.map (fun e =>
    if e.state = .held && (s.window.standing.map Standing.zone).contains e.zone then e.commit else e)) s

/-- COMMIT as its owner handles it (R149): an urgent beacon when a mark is newly set. -/
def commitHandler : Handler :=
  classHandler .fixed fun s =>
    if s.window.standing.isEmpty || (firstUnheldStanding s).isSome then (s, refuse .notGranted)
    else
      let t := commitStanding s
      (if t.window.entries = s.window.entries then t else urgentRequest t, .accept [byteOf s.window.standing.length])

def kindCommit : Byte := 0x0D#8

/-- COMMIT -/
def execCommit (t : Time) (payload : List Byte) (s : State) : Host.Outcome State Fault Refusal :=
  .next (outsideEvent t (takeCommand kindCommit (some 0) payload commitHandler) s)

end Sys2Proof.Machine
end

