-- ==== Sys2Proof/Machine/LoadCommands.lean ====
section
/-! DEFINITION. LOAD_STATE and PROFILE_SET (R103, R104). -/

namespace Sys2Proof.Machine

/-- LOAD_STATE as its owner handles it (R103). -/
def loadStateHandler (payload : List Byte) : Handler :=
  classHandler .carrier fun s =>
    match payload with
    | [b] =>
      match LoadIndex.ofByte b with
      | some ix => ({ s with auth := { s.auth with pendingIx := some ix } }, .accept [byteOf ix.code])
      | none => (s, refuse .badLength)
    | _ => (s, refuse .badLength)

def kindLoadState : Byte := 0x05#8

/-- LOAD_STATE -/
def execLoadState (t : Time) (payload : List Byte) (s : State) : Host.Outcome State Fault Refusal :=
  .next (outsideEvent t (takeCommand kindLoadState none payload (loadStateHandler payload)) s)

/-- PROFILE_SET as its owner handles it (R104). -/
def profileSetHandler (payload : List Byte) : Handler :=
  classHandler .carrier fun s =>
    match parseProfile payload with
    | none => (s, refuse .badLength)
    | some (ix, p) =>
      if s.station.state != .parked then (s, refuse .notParked)
      else
        ({ s with auth := { s.auth with profiles := s.auth.profiles.set ix p.limited } },
          .accept (profileBytes ix p.limited))

def kindProfileSet : Byte := 0x06#8

/-- PROFILE_SET -/
def execProfileSet (t : Time) (payload : List Byte) (s : State) : Host.Outcome State Fault Refusal :=
  .next (outsideEvent t (takeCommand kindProfileSet none payload (profileSetHandler payload)) s)

end Sys2Proof.Machine
end

