-- ==== Sys2Proof/Machine/RouteCommands.lean ====
section
/-! DEFINITION. START_POSITION, ROUTE_APPEND, ROUTE_CUT and PROCEED (R8 to R10, R14 to R17, R68, R81, R176). -/

namespace Sys2Proof.Machine

/-! ### START_POSITION -/

/-- Where s lies outside the last given cell, laid end to end from entry boundary 0 (R8). -/
def outsideLast (x : Int) (cells : List StoredCell) : Bool :=
  match cells.getLast? with
  | some c => decide (x < c.entry) || decide (c.exit ≤ x)
  | none => true

/-- What the Odometry Unit takes (R81). -/
def takePosition (x : Int) (o : Odometry) : Odometry :=
  { o with pos := x * 1000, lastMarker := none, since := 0, rejects := 0, slipSeen := false, quality := .doubt }

/-- The occupant claims of the new store, in route order (R68 step 2). -/
def startOccupants (s : State) : State :=
  (firstOccurrences (s.route.cells.flatMap (fun c => c.cell.zones))).foldl (fun s z => occupantClaim z s) s

/-- An accepted START_POSITION in every block, in R176's order. -/
def applyStart (x : Int) (cells : List StoredCell) (s : State) : State :=
  let s := { setCells cells s with odo := takePosition x s.odo }
  let s := startRecompute (listingTest (startOccupants (deliverNeeds s)))
  let s := { s with station := { s.station with startMark := true } }
  if s.station.listen = .expired then enterActiveFromListen s else s

/-- START_POSITION as its owner handles it (R176). A command with both a cell out of range and s outside the last given
cell is refused BAD_CELL with the cell's position, not with 0 (DESIGN CHOICE, log 30). -/
def startPositionHandler (payload : List Byte) : Handler :=
  classHandler .carrier fun s =>
    match parseStart payload with
    | none => (s, refuse .badLength)
    | some (x, cells) =>
      if s.station.state != .listen then (s, refuse .badState)
      else
        match firstBadCell cells with
        | some i => (s, .refuse .badCell [byteOf i])
        | none =>
          let laid := layCells 0 cells
          if outsideLast x laid then (s, .refuse .badCell [byteOf 0])
          else
            let t := applyStart x laid s
            (t, .accept [byteOf t.route.cells.length, byteOf t.station.state.code])

def kindStartPosition : Byte := 0x01#8

/-- START_POSITION -/
def execStartPosition (t : Time) (payload : List Byte) (s : State) : Host.Outcome State Fault Refusal :=
  .next (outsideEvent t (takeCommand kindStartPosition none payload (startPositionHandler payload)) s)

/-! ### ROUTE_APPEND -/

/-- The places of the Route Store (R3). -/
def maxCells : Nat := 64

/-- The cells join the end of the route (R10). -/
def applyAppend (cells : List RouteCell) (s : State) : State :=
  deliver (setCells (s.route.cells ++ layCells (routeEnd s.route.cells) cells) s)

/-- ROUTE_APPEND as its owner handles it: the checks of R9 in order. -/
def routeAppendHandler (payload : List Byte) : Handler :=
  classHandler .carrier fun s =>
    match parseAppend payload with
    | none => (s, refuse .badLength)
    | some cells =>
      if s.route.cells.isEmpty then (s, refuse .badState)
      else
        match firstBadCell cells with
        | some i => (s, .refuse .badCell [byteOf i])
        | none =>
          if maxCells < s.route.cells.length + cells.length then (s, refuse .routeFull)
          else
            let t := applyAppend cells s
            (t, .accept [byteOf t.route.cells.length])

def kindRouteAppend : Byte := 0x02#8

/-- ROUTE_APPEND -/
def execRouteAppend (t : Time) (payload : List Byte) (s : State) : Host.Outcome State Fault Refusal :=
  .next (outsideEvent t (takeCommand kindRouteAppend none payload (routeAppendHandler payload)) s)

/-! ### ROUTE_CUT -/

/-- The highest position naming a zone that is HELD and committed, 0 if there is none (R14). -/
def lastCommitted (s : State) : Nat :=
  ((s.window.entries.filter (fun e => e.state = .held && e.committed)).filterMap
    (fun e => lastNeeding e.zone s.route.cells)).foldl max 0

/-- The count actually kept (R14). -/
def countKept (keep : Nat) (s : State) : Nat :=
  min (max keep (max s.front (lastCommitted s))) s.route.cells.length

/-- The cells beyond the count kept leave the store: the cut is delivered and the horizon recomputed at once, after the
listing test that ends the delivery (R14, R15, R24, R108; DESIGN CHOICE of that order, log 31). -/
def applyCut (kept : Nat) (s : State) : State :=
  if kept < s.route.cells.length then
    immediateRecompute (deliver (setCells (s.route.cells.take kept) s))
  else s

/-- ROUTE_CUT as its owner handles it (R14). -/
def routeCutHandler (payload : List Byte) : Handler :=
  classHandler .carrier fun s =>
    match payload with
    | [keep] =>
      if s.route.cells.isEmpty then (s, refuse .badState)
      else
        let kept := countKept keep.toNat s
        (applyCut kept s, .accept [byteOf kept])
    | _ => (s, refuse .badLength)

def kindRouteCut : Byte := 0x03#8

/-- ROUTE_CUT -/
def execRouteCut (t : Time) (payload : List Byte) (s : State) : Host.Outcome State Fault Refusal :=
  .next (outsideEvent t (takeCommand kindRouteCut (some 1) payload (routeCutHandler payload)) s)

/-! ### PROCEED -/

/-- The position of the nearest unreleased stop point of a cell identifier, from the front cell on (R17). -/
def proceedPosition (ident : Nat) (s : State) : Option Nat :=
  ((s.route.cells.drop (s.front - 1)).findIdx? (fun c => c.cell.ident == ident && c.unreleased)).map
    (fun i => (s.front - 1) + i + 1)

/-- The cell at a position gets its stop-released mark (R17). -/
def releaseStop (position : Nat) (s : State) : State :=
  setCells (s.route.cells.modify (position - 1) (fun c => { c with released := true })) s

/-- PROCEED as its owner handles it (R17). -/
def proceedHandler (payload : List Byte) : Handler :=
  classHandler .carrier fun s =>
    match payload with
    | [hi, lo] =>
      match proceedPosition (word16 hi lo) s with
      | none => (s, refuse .unknownCell)
      | some p => (releaseStop p s, .accept [hi, lo, byteOf p])
    | _ => (s, refuse .badLength)

def kindProceed : Byte := 0x04#8

/-- PROCEED -/
def execProceed (t : Time) (payload : List Byte) (s : State) : Host.Outcome State Fault Refusal :=
  .next (outsideEvent t (takeCommand kindProceed (some 2) payload (proceedHandler payload)) s)

end Sys2Proof.Machine
end

