-- ==== Sys2Proof/Machine/StationCommands.lean ====
section
/-! DEFINITION. PARK, UNPARK, STATUS_QUERY and RESTART (R128, R151, R162, R163, R179, R180). -/

namespace Sys2Proof.Machine

/-! ### PARK -/

/-- The schedule moves to the parked spacing: the next nominal instant is the last plus 8 × P (R128, log 20). -/
def parkSchedule (s : State) : State :=
  match s.radio.last with
  | none => { s with radio := { s.radio with parkedSpacing := true } }
  | some l =>
    let n := l + 8 * s.period * 1000
    { s with radio := { s.radio with
        parkedSpacing := true, next := some n,
        placementOpen := if s.radio.next = some n then s.radio.placementOpen else true } }

/-- The entries of zones of no occupied cell are given up (R179). -/
def giveUpAhead (s : State) : State :=
  let old := s.window.entries
  let ahead := fun (e : ClaimEntry) => !isOccupied s e.zone
  let lost := (old.filter (fun e => e.state = .held && ahead e)).map ClaimEntry.zone
  let withdrawn := (old.filter (fun e => e.unheld && ahead e)).map ClaimEntry.zone
  let behind := zonesAfter (fun e => e.unheld && ahead e) old
  let s := lost.foldl (fun s z => releaseEntry z s) s
  let s := removeZones withdrawn s
  reevaluateZones (fun z => behind.contains z) s

/-- An accepted PARK (R119, R151, R179). -/
def applyPark (s : State) : State :=
  let s := parkSchedule (changeState .parked s)
  if s.isCarrier then giveUpAhead (sendWord 0 (setCeiling 0 s)) else giveUpStanding s

/-- The standstill count at which a carrier is at standstill (R178). -/
def standstillFull : Nat := 50

/-- PARK as its owner handles it (R179). -/
def parkHandler : Handler := fun s =>
  if s.station.state != .active then (s, refuse .badState)
  else if s.isCarrier && s.station.standstill != standstillFull then (s, refuse .notStopped)
  else (applyPark s, .accept [])

def kindPark : Byte := 0x07#8

/-- PARK -/
def execPark (t : Time) (payload : List Byte) (s : State) : Host.Outcome State Fault Refusal :=
  .next (outsideEvent t (takeCommand kindPark (some 0) payload parkHandler) s)

/-! ### UNPARK -/

/-- The schedule moves back to P: the next nominal instant is the earliest of the last plus P, 2 × P, … after now, and
its placement is made at once when its placement point is not ahead (R128, log 20). -/
def unparkSchedule (s : State) : State :=
  match s.radio.last with
  | none => { s with radio := { s.radio with parkedSpacing := false } }
  | some l =>
    let p := s.period * 1000
    let n := l + ((s.now - l) / p + 1) * p
    let s := { s with radio := { s.radio with
        parkedSpacing := false, next := some n,
        placementOpen := if s.radio.next = some n then s.radio.placementOpen else true } }
    if s.radio.placementOpen && decide (n - placementLead s ≤ s.now) then placeScheduled n s else s

/-- UNPARK as its owner handles it (R180). -/
def unparkHandler : Handler := fun s =>
  if s.station.state != .parked then (s, refuse .badState)
  else (enterActive (unparkSchedule (changeState .active s)), .accept [])

def kindUnpark : Byte := 0x08#8

/-- UNPARK -/
def execUnpark (t : Time) (payload : List Byte) (s : State) : Host.Outcome State Fault Refusal :=
  .next (outsideEvent t (takeCommand kindUnpark (some 0) payload unparkHandler) s)

/-! ### STATUS_QUERY and RESTART -/

/-- STATUS_QUERY as its owner handles it (R162). -/
def statusQueryHandler : Handler := fun s =>
  if s.station.state = .boot then (s, refuse .badState)
  else ({ s with port := { s.port with reportPending := true } }, .accept [])

def kindStatusQuery : Byte := 0x0E#8

/-- STATUS_QUERY -/
def execStatusQuery (t : Time) (payload : List Byte) (s : State) : Host.Outcome State Fault Refusal :=
  .next (outsideEvent t (takeCommand kindStatusQuery (some 0) payload statusQueryHandler) s)

/-- RESTART as its owner handles it (R163). -/
def restartHandler : Handler := fun s =>
  ({ s with port := { s.port with restartPending := true } }, .accept [])

def kindRestart : Byte := 0x0F#8

/-- RESTART -/
def execRestart (t : Time) (payload : List Byte) (s : State) : Host.Outcome State Fault Refusal :=
  .next (outsideEvent t (takeCommand kindRestart (some 0) payload restartHandler) s)

end Sys2Proof.Machine
end

