-- ==== Sys2Proof/Machine/PortLine.lean ====
section
/-! DEFINITION. The equipment port's lines: NON_COMMAND_MESSAGE, BAD_MESSAGE, INBOUND_GAP_TIMEOUT,
OUTBOUND_MESSAGE_COMPLETE and STATUS_TIMER_EXPIRY (R157 to R159, R163 to R165), with the restart that the RESTART reply
brings (R163, R170, R171). -/

namespace Sys2Proof.Machine

/-! ### Messages that are no commands (R159) -/

/-- A message of a kind that is no command kind is taken: REFUSE BAD_KIND carries the kind as received. -/
def takeNonCommand (kind : Byte) (s : State) : State :=
  let s := inboundDone s
  if s.port.restartPending then s
  else if maxReplies ≤ s.port.replies.length then countPortBad s
  else queueReply kind (refuse .badKind) s

/-- NON_COMMAND_MESSAGE -/
def execNonCommandMessage (t : Time) (kind : Byte) (_payload : List Byte) (s : State) :
    Host.Outcome State Fault Refusal :=
  .next (outsideEvent t (takeNonCommand kind) s)

/-! ### Bytes on the inbound line (R157, R158) -/

/-- The owner of a message kind, with the payload length R160 requires if it names the kind (R159, R183). -/
def handlerFor (kind : Byte) (payload : List Byte) : Option (Option Nat × Handler) :=
  match kind.toNat with
  | 0x01 => some (none, startPositionHandler payload)
  | 0x02 => some (none, routeAppendHandler payload)
  | 0x03 => some (some 1, routeCutHandler payload)
  | 0x04 => some (some 2, proceedHandler payload)
  | 0x05 => some (none, loadStateHandler payload)
  | 0x06 => some (none, profileSetHandler payload)
  | 0x07 => some (some 0, parkHandler)
  | 0x08 => some (some 0, unparkHandler)
  | 0x09 => some (some 0, resumeHandler)
  | 0x0A => some (some 2, yieldZoneHandler payload)
  | 0x0B => some (none, standClaimHandler payload)
  | 0x0C => some (some 0, standReleaseHandler)
  | 0x0D => some (some 0, commitHandler)
  | 0x0E => some (some 0, statusQueryHandler)
  | 0x0F => some (some 0, restartHandler)
  | _ => none

/-- A message that has passed its CRC is taken (R159). -/
def takeMessage (kind : Byte) (payload : List Byte) (s : State) : State :=
  match handlerFor kind payload with
  | some (fixedLen, h) => takeCommand kind fixedLen payload h s
  | none => takeNonCommand kind s

/-- The inbound gap time (R157). -/
def portGap : Time := 5000

def setInbound (a : PortAssembler) (gap : Option Time) (s : State) : State :=
  { s with port := { s.port with inbound := a, inGap := gap } }

/-- The CRC over kind, length and payload agrees with the two bytes that follow them (R158). -/
def messageCrcOk (kind : Byte) (len : Nat) (got : List Byte) : Bool :=
  crcBytes (kind :: byteOf len :: got.take len) == got.drop len

/-- One byte taken by the inbound assembler (R157); while restart pending is set it is discarded. -/
def portByte (x : Byte) (s : State) : State :=
  if s.port.restartPending then s
  else
    let again := some (s.now + portGap)
    match s.port.inbound with
    | .hunt => if x = 0xC3#8 then setInbound .kind again s else s
    | .kind => setInbound (.length x) again s
    | .length k => if x.toNat ≤ 250 then setInbound (.body k x.toNat []) again s else countPortBad (inboundDone s)
    | .body k len got =>
      let got := got ++ [x]
      if got.length < len + 2 then setInbound (.body k len got) again s
      else if messageCrcOk k len got then takeMessage k (got.take len) s
      else countPortBad (inboundDone s)

/-- Bytes arriving one after another on the inbound line: each is one event with an end of its own (R157). -/
def portBytes (bytes : List Byte) (s : State) : State := bytes.foldl (fun s x => finish (portByte x s)) s

/-- BAD_MESSAGE -/
def execBadMessage (t : Time) (bytes : List Byte) (s : State) : Host.Outcome State Fault Refusal :=
  .next (outsideEvent t (portBytes bytes) s)

/-- The inbound gap timer runs out in KIND, LENGTH or BODY: the message is aborted and counted as bad (R157). -/
def inboundGapOut (s : State) : State :=
  match s.port.inbound with
  | .hunt => s
  | .kind | .length _ | .body _ _ _ => countPortBad (inboundDone (s.reach (s.port.inGap.getD s.now)))

/-- INBOUND_GAP_TIMEOUT -/
def execInboundGapTimeout (t : Time) (bytes : List Byte) (s : State) : Host.Outcome State Fault Refusal :=
  .next (outsideEvent t (fun s => inboundGapOut (portBytes bytes s)) s)

/-! ### Restart (R163, R170, R171) -/

/-- Every block at its reset values; profiles and scale trim as given. What is the model's own stands: the clock, the
waiting commands, the counter of drawn channel-clear levels (log 4, log 21); so do the two levels from outside that hold the
part (R170). -/
def resetBlocks (cause : ResetCause) (profiles : Profiles) (trim : Nat) (s : State) : State :=
  { now := s.now
    station := { Station.reset cause with
      supplyUnsettled := s.station.supplyUnsettled, lineAsserted := s.station.lineAsserted }
    route := .reset, window := .reset, table := .reset, odo := .reset trim
    auth := .reset profiles s.now, radio := { Radio.reset with samples := s.radio.samples }, port := .reset, stopLine := true
    pending := s.pending }

/-- A restart keeps the profiles and the scale trim (R171). -/
def restartPart (cause : ResetCause) (s : State) : State :=
  resetBlocks cause s.auth.profiles s.odo.trim s

/-! ### The outbound line and the status timer (R164, R165) -/

/-- The message is the accepting reply to RESTART (R163). -/
def isRestartReply : OutContent → Bool
  | .reply r => r.kind == kindRestart && (match r.answer with
    | .accept _ => true
    | .refuse _ _ => false)
  | .notice _ | .status => false

/-- A message on the outbound line is complete: the line is free, and the RESTART reply brings the restart. -/
def outboundComplete (m : OutMessage) (s : State) : State :=
  if isRestartReply m.content then restartPart .restartCommand s
  else finish { s with port := { s.port with out := none } }

/-- OUTBOUND_MESSAGE_COMPLETE -/
def execOutboundMessageComplete (s : State) : Host.Outcome State Fault Refusal :=
  .next (match s.port.out with
    | none => s
    | some m => outboundComplete m (s.reach m.endsAt))

/-- The status timer runs out: report pending, and the timer again with the period of the state (R165). -/
def statusExpiry (s : State) : State :=
  { s with port := { s.port with
      reportPending := true
      statusAt := s.port.statusAt.map (fun d => d + statusPeriod s.station.state) } }

/-- STATUS_TIMER_EXPIRY -/
def execStatusTimerExpiry (s : State) : Host.Outcome State Fault Refusal :=
  .next (timedEvent s.port.statusAt statusExpiry s)

end Sys2Proof.Machine
end

