-- ==== Sys2Proof/Machine/StartUp.lean ====
section
/-! DEFINITION. POWER_ON_RESET, RESET_LINE, RESET_RELEASE, CONFIG_READ_COMPLETE and LISTEN_TIMER_EXPIRY
(R126, R170 to R177). -/

namespace Sys2Proof.Machine

/-- One of the two reasons that hold the part comes to stand, or ends (R170). -/
def Station.setHold (reason : HoldReason) (stands : Bool) (st : Station) : Station :=
  match reason with
  | .supply => { st with supplyUnsettled := stands }
  | .line => { st with lineAsserted := stands }

def setHold (reason : HoldReason) (stands : Bool) (s : State) : State :=
  { s with station := s.station.setHold reason stands }

/-- POWER_ON_RESET: every block at its power-on values, held until supply has settled (R170). -/
def execPowerOnReset (t : Time) (s : State) : Host.Outcome State Fault Refusal :=
  .next (setHold .supply true (resetBlocks .powerOn .default 65536 (s.reach t)))

/-- RESET_LINE: a restart, held while the line stays asserted (R170). -/
def execResetLine (t : Time) (s : State) : Host.Outcome State Fault Refusal :=
  .next (setHold .line true (restartPart .resetLine (s.reach t)))

/-- The station enters BOOT when no reason is left that holds the part; the output period runs from here (R106, R170). -/
def releaseReset (s : State) : State :=
  if s.station.held then s else { s with auth := { s.auth with outputAt := s.now + outputPeriod } }

/-- RESET_RELEASE -/
def execResetRelease (e : HoldEnd) (s : State) : Host.Outcome State Fault Refusal :=
  .next (let s := s.reach e.t
         if s.station.held then releaseReset (setHold e.reason false s) else s)

/-! ### The configuration word (R172 to R175) -/

/-- The configuration fault code: the first check that fails, 0 when none does (R173). -/
def configFault (w : ConfigWord) : Nat :=
  if w.station = 0 ∨ w.station = 4095 then 1
  else if w.periodCode = 3 then 2
  else if w.cls = .fixed then 0
  else if w.carrierLength < 40 ∨ 160 < w.carrierLength then 3
  else if w.carrierLength < w.readerOffset then 4
  else if 64 * w.num < w.den ∨ 64 * w.den < w.num then 5
  else if w.modeCode = 3 then 6
  else 0

/-- The configured mode (R172). The code 3, which only a FIXED station or CONFIG_FAULT 6 can hold, is taken as B_ONLY
(DESIGN CHOICE, log 10). -/
def configuredMode (w : ConfigWord) : OdoMode :=
  match w.modeCode with
  | 0 => .dual
  | 1 => .aOnly
  | _ => .bOnly

/-- The sampling period (R83). -/
def samplePeriod : Time := 20000

/-- The distance of the taking instants (R49). -/
def takePeriod : Time := 4000

/-- The schedule and the generator at entry into LISTEN (R126, R127). -/
def seedRadio (s : State) : State :=
  { s with radio := { s.radio with
      gen := BitVec.ofNat 16 s.ownNumber, last := some s.now, next := some (s.now + s.period * 1000),
      placementOpen := true } }

/-- Entry into LISTEN (R174); the phases of taking instants and samples: log 17. -/
def enterListen (w : ConfigWord) (s : State) : State :=
  let s := seedRadio (changeState .listen s)
  listingTest { s with
    station := { s.station with listen := .running (s.now + listenInterval w.listenCode) }
    table := { s.table with nextTake := some (s.now + takePeriod) }
    odo := { s.odo with nextSample := if s.isCarrier then some (s.now + samplePeriod) else none }
    auth := { s.auth with causes := { s.auth.causes with boot := false } } }

/-- Entry into CONFIG_FAULT (R175). -/
def enterConfigFault (code : Nat) (s : State) : State :=
  let s := changeState .configFault s
  { s with
    station := { s.station with fault := code }
    auth := { s.auth with causes := { s.auth.causes with boot := false, configFault := true } } }

/-- The fields are copied, locked and checked (R172, R173); the read is made once in each BOOT. The effective mode is
written from the word on a FIXED station too, which reads it nowhere (R145; DESIGN CHOICE, log 10). -/
def configRead (w : ConfigWord) (s : State) : State :=
  if s.station.state = .boot && s.station.cfg.isNone then
    let s := { s with
      station := { s.station with cfg := some w }
      odo := { s.odo with mode := configuredMode w } }
    let code := configFault w
    if code = 0 then enterListen w s else enterConfigFault code s
  else s

/-- CONFIG_READ_COMPLETE -/
def execConfigReadComplete (t : Time) (word : ConfigWord) (s : State) : Host.Outcome State Fault Refusal :=
  .next (outsideEvent t (configRead word) s)

/-! ### The listen timer (R174) -/

/-- When the listen timer runs out, if it runs: it runs down in LISTEN. -/
def listenDue (s : State) : Option Time :=
  match s.station.state, s.station.listen with
  | .listen, .running t => some t
  | _, _ => none

/-- The listen timer has run out (R174). -/
def listenExpired (s : State) : State :=
  if !s.isCarrier || s.station.startMark then enterActiveFromListen s
  else { s with station := { s.station with listen := .expired } }

/-- LISTEN_TIMER_EXPIRY -/
def execListenTimerExpiry (s : State) : Host.Outcome State Fault Refusal :=
  .next (timedEvent (listenDue s) listenExpired s)

end Sys2Proof.Machine
end

