-- ==== Sys2Proof/Machine/Motion.lean ====
section
/-! DEFINITION. The Odometry Unit: ODOMETRY_SAMPLE and MARKER_ARRIVAL (R82 to R100, R178). -/

namespace Sys2Proof.Machine

/-! ### Pulse arithmetic (R83 to R86) -/

/-- A count that would pass 65,535 is taken as 65,535 (R83). -/
def limitPulses (p : Nat) : Nat := min p 65535

/-- The odometer ratio M, N of the locked configuration; 1 and 1 until it is read (DESIGN CHOICE, log 10). -/
def State.ratio (s : State) : Nat × Nat :=
  match s.station.cfg with
  | some w => (w.num, w.den)
  | none => (1, 1)

/-- A channel's increment in µm and its new remainder (R84). -/
def scalePulses (s : State) (pulses remainder : Nat) : Nat × Nat :=
  let product := limitPulses pulses * 1000 * s.ratio.1 * s.odo.trim + remainder
  let divisor := s.ratio.2 * 65536
  (product / divisor, product % divisor)

/-- The difference of two increments, without sign. -/
def differ (dA dB : Nat) : Nat := max dA dB - min dA dB

/-- The judgement of slip (R85). -/
def isSlip (dA dB : Nat) : Bool := decide (max 10000 (max dA dB / 8) < differ dA dB)

/-- The combined increment in DUAL (R85). -/
def combineDual (dA dB : Nat) : Nat := if isSlip dA dB then min dA dB else (dA + dB) / 2

/-- The combined increment in the effective mode (R85, R86). -/
def combine (mode : OdoMode) (dA dB : Nat) : Nat :=
  match mode with
  | .dual => combineDual dA dB
  | .aOnly => dA
  | .bOnly => dB

/-! ### Slip, channel failure and quality within a sample (R85, R87, R88, R99, R100) -/

def setOdo (o : Odometry) (s : State) : State := { s with odo := o }

/-- The slip judgement of a sample in DUAL: state, mark and notice (R85). -/
def judgeSlip (dA dB : Nat) (s : State) : State :=
  if isSlip dA dB then
    let t := setOdo { s.odo with slip := true, slipSeen := true } s
    if s.odo.slip then t
    else raiseNotice (.slip (if dB < dA then .a else .b) (differ dA dB / 1000)) t
  else setOdo { s.odo with slip := false } s

/-- The silent run and partner distance of a channel after a sample (R87). -/
def ChannelState.heard (pulses other : Nat) (c : ChannelState) : ChannelState :=
  if pulses = 0 then { c with silent := min (c.silent + 1) 65535, partner := min (c.partner + other) 4294967295 }
  else { c with silent := 0, partner := 0 }

/-- A channel silent for 100 samples while the other gave more than 500 mm (R88). -/
def ChannelState.dead (c : ChannelState) : Bool := decide (100 ≤ c.silent) && decide (500000 < c.partner)

/-- GOOD becomes DOUBT, with its notice (R99, R100). -/
def fallToDoubt (cause : DoubtCause) (s : State) : State :=
  if s.odo.quality = .good then raiseNotice (.positionDoubt cause s.s) (setOdo { s.odo with quality := .doubt } s)
  else s

/-- GOOD or DOUBT becomes LOST, with its notice and the limit of the ceiling (R99, R100, R117). -/
def fallToLost (s : State) : State :=
  if s.odo.quality = .lost then s
  else limitLost (raiseNotice (.positionLost s.s) (setOdo { s.odo with quality := .lost } s))

/-- The declaration of a failed channel (R88). -/
def declareFailed (ch : Channel) (s : State) : State :=
  let o := match ch with
    | .a => { s.odo with chA := { s.odo.chA with failed := true }, mode := .bOnly, slip := false, slipSeen := true }
    | .b => { s.odo with chB := { s.odo.chB with failed := true }, mode := .aOnly, slip := false, slipSeen := true }
  fallToDoubt .channel (raiseNotice (.channelFail ch) (setOdo o s))

/-- Silent runs and the failure judgement of a sample in DUAL (R87, R88). -/
def judgeFailure (pA pB dA dB : Nat) (s : State) : State :=
  let t := setOdo { s.odo with chA := s.odo.chA.heard pA dB, chB := s.odo.chB.heard pB dA } s
  if t.odo.chA.dead then declareFailed .a t
  else if t.odo.chB.dead then declareFailed .b t
  else t

/-- The combined increment applied (R89). -/
def applyIncrement (d : Nat) (o : Odometry) : Odometry :=
  { o with
    pos := o.pos + (d : Int)
    travel := (o.travel + d) % 281474976710656
    since := min (o.since + d) 1000000000
    history := o.history.drop 1 ++ [d] }

/-- The measured speed from the history (R90). -/
def measuredSpeed (history : List Nat) : Nat := min (history.sum / 1000 * 5) 10000

/-- The grade after a sample: the 80,000 mm test first (R99). -/
def gradeSample (s : State) : State :=
  if 80000000 < s.odo.since then fallToLost s
  else if 40000000 < s.odo.since then fallToDoubt .distance s
  else s

/-- The standstill count (R178). -/
def countStandstill (s : State) : State :=
  { s with station := { s.station with
      standstill := if s.odo.vmeas = 0 then min (s.station.standstill + 1) 50 else 0 } }

/-- The two channels' increments of a sample; a channel not in use is not read (R83, R84). -/
def takeChannels (pA pB : Nat) (s : State) : Nat × Nat × State :=
  let a := scalePulses s pA s.odo.chA.remainder
  let b := scalePulses s pB s.odo.chB.remainder
  match s.odo.mode with
  | .dual =>
    (a.1, b.1, setOdo { s.odo with chA := { s.odo.chA with remainder := a.2 }, chB := { s.odo.chB with remainder := b.2 } } s)
  | .aOnly => (a.1, 0, setOdo { s.odo with chA := { s.odo.chA with remainder := a.2 } } s)
  | .bOnly => (0, b.1, setOdo { s.odo with chB := { s.odo.chB with remainder := b.2 } } s)

/-- A sample inside the Odometry Unit: scale, combine, judge failure, apply, measure, grade (R83). -/
def sampleUnit (pA pB : Nat) (s : State) : State :=
  let mode := s.odo.mode
  let r := takeChannels pA pB s
  let d := combine mode r.1 r.2.1
  let s := r.2.2
  let s := match mode with
    | .dual => judgeFailure (limitPulses pA) (limitPulses pB) r.1 r.2.1 (judgeSlip r.1 r.2.1 s)
    | .aOnly | .bOnly => s
  let o := applyIncrement d s.odo
  countStandstill (gradeSample (setOdo { o with vmeas := measuredSpeed o.history } s))

/-- A sample, with the rear removals and the listing test it hands on to (R83, R11, R21). -/
def sampleWork (pA pB : Nat) (s : State) : State :=
  let s := setOdo { s.odo with nextSample := s.odo.nextSample.map (· + samplePeriod) } s
  let s := sampleUnit pA pB s
  listingTest (rearRemovals s.route.cells.length s)

/-- Samples are taken on a CARRIER in LISTEN, ACTIVE and PARKED (R82). -/
def sampleDue (s : State) : Option Time := if s.isCarrier && s.running then s.odo.nextSample else none

/-- ODOMETRY_SAMPLE -/
def execOdometrySample (pulsesA pulsesB : Nat) (s : State) : Host.Outcome State Fault Refusal :=
  .next (timedEvent (sampleDue s) (sampleWork pulsesA pulsesB) s)

/-! ### Markers (R91 to R98) -/

/-- The partial increment of an arrival: the captured counts scaled with the present remainders and combined (R91). -/
def partialIncrement (pA pB : Nat) (s : State) : Nat :=
  combine s.odo.mode (scalePulses s pA s.odo.chA.remainder).1 (scalePulses s pB s.odo.chB.remainder).1

/-- The reader estimate (R91). -/
def readerEstimate (d : Nat) (s : State) : Int := (s.odo.pos + (d : Int)) / 1000 - (s.readerOffset : Int)

/-- The capture travel (R91). -/
def captureTravel (d : Nat) (s : State) : Nat := (s.odo.travel + d) % 281474976710656

/-- The surveyed position nearest an estimate, the first of those equally near; the positions are in route order (R92). -/
def nearest (x : Int) : List Int → Option Int
  | [] => none
  | p :: ps =>
    match nearest x ps with
    | none => some p
    | some q => if (q - x).natAbs < (p - x).natAbs then some q else some p

/-- The accept window in mm (R93). -/
def acceptWindow : Quality → Int
  | .lost => 1200
  | .good | .doubt => 600

def clampInt (x lo hi : Int) : Int := max lo (min x hi)

/-- The trim after learning from a separation D and an odometer separation Dm (R98). -/
def learnedTrim (trim : Nat) (D Dm : Int) : Nat :=
  let delta := clampInt (((trim : Int) * (D - Dm)).tdiv (4 * Dm)) (-256) 256
  (clampInt ((trim : Int) + delta) 61440 69632).toNat

/-- The odometer separation (R97). -/
def odometerSeparation (now before : Nat) : Int := (((now : Int) - (before : Int)) % 281474976710656) / 1000

/-- The learning test and the trim it leaves (R97, R98). -/
def learn (surveyed : Int) (travel : Nat) (o : Odometry) : Nat :=
  match o.lastMarker with
  | none => o.trim
  | some m =>
    if 5000 ≤ surveyed - m.surveyed ∧ o.slipSeen = false ∧ o.quality ≠ .lost then
      learnedTrim o.trim (surveyed - m.surveyed) (odometerSeparation travel m.travel)
    else o.trim

/-- An accepted arrival in the unit (R94). -/
def acceptMarker (ident : Nat) (surveyed e : Int) (travel : Nat) (o : Odometry) : Odometry :=
  { o with
    trim := learn surveyed travel o
    pos := o.pos + clampInt e (-300) 300 * 1000
    lastMarker := some ⟨ident, surveyed, travel⟩
    since := 0, rejects := 0, slipSeen := false, quality := .good }

/-- An accepted arrival, with the listing test of a moved s or a changed grade (R94, R21, R100): one walk after step 5,
with the lead of GOOD (DESIGN CHOICE, log 33). -/
def markerAccepted (ident : Nat) (surveyed e : Int) (travel : Nat) (s : State) : State :=
  let t := setOdo (acceptMarker ident surveyed e travel s.odo) s
  if e ≠ 0 ∨ s.odo.quality ≠ .good then listingTest t else t

/-- A rejected arrival (R95): the notice carries the grade after the rejection. -/
def markerRejected (ident : Nat) (e : Int) (s : State) : State :=
  let rejects := min (s.odo.rejects + 1) 2
  let falls := rejects = 2 ∧ s.odo.quality = .good
  let after := if falls then .doubt else s.odo.quality
  let t := setOdo { s.odo with lastMarker := none, rejects := rejects } s
  let t := raiseNotice (.markerReject ident (clampInt e (-32767) 32767) after) t
  if falls then listingTest (fallToDoubt .rejects t) else t

/-- A marker arrival (R91 to R95). -/
def markerWork (ident pA pB : Nat) (s : State) : State :=
  let d := partialIncrement pA pB s
  let estimate := readerEstimate d s
  match nearest estimate (expectedAt ident s) with
  | none => countStray s
  | some surveyed =>
    let e := surveyed - estimate
    if (e.natAbs : Int) ≤ acceptWindow s.odo.quality then markerAccepted ident surveyed e (captureTravel d s) s
    else markerRejected ident e s

/-- MARKER_ARRIVAL: taken on a CARRIER in LISTEN, ACTIVE and PARKED (R82). -/
def execMarkerArrival (t : Time) (ident pulsesA pulsesB : Nat) (s : State) : Host.Outcome State Fault Refusal :=
  .next (outsideEvent t (fun s => if s.isCarrier && s.running then markerWork ident pulsesA pulsesB s else s) s)

end Sys2Proof.Machine
end

