-- ==== Sys2Proof/Machine/Reception.lean ====
section
/-! DEFINITION. Reception and the Neighbour Table: RADIO_FRAME_RECEIVED, RADIO_GAP_TIMEOUT, RADIO_BAD_LENGTH_BYTE
(R140 to R143), TAKE_FRAME (R49 to R58, R64), PEER_STALE, PEER_LOST and OVERFLOW_CLEAR (R59 to R62). -/

namespace Sys2Proof.Machine

/-! ### Bytes from the modem (R140 to R142) -/

/-- RADIO_FRAME_RECEIVED -/
def execRadioFrameReceived (t : Time) (bytes : List Byte) (s : State) : Host.Outcome State Fault Refusal :=
  .next (outsideEvent t (radioBytes bytes) s)

/-- RADIO_BAD_LENGTH_BYTE -/
def execRadioBadLengthByte (t : Time) (bytes : List Byte) (s : State) : Host.Outcome State Fault Refusal :=
  .next (outsideEvent t (radioBytes bytes) s)

/-- The receive gap timer runs out in LENGTH or BODY: the frame is aborted and counted as bad (R141). -/
def radioGapOut (s : State) : State :=
  match s.radio.rx with
  | .hunt => s
  | .length | .body _ _ => countRadioBad (setRx .hunt none (s.reach (s.radio.rxGap.getD s.now)))

/-- RADIO_GAP_TIMEOUT -/
def execRadioGapTimeout (t : Time) (bytes : List Byte) (s : State) : Host.Outcome State Fault Refusal :=
  .next (outsideEvent t (fun s => radioGapOut (radioBytes bytes s)) s)

/-! ### Acceptance (R45, R52 to R56, R60) -/

/-- The places of the Neighbour Table (R47). -/
def maxPeers : Nat := 24

/-- The freshness limit (R60). -/
def freshnessLimit (periodCode : Nat) (parked : Bool) : Time :=
  3 * periodMs periodCode * 1000 * (if parked then 8 else 1)

/-- The limit of the period code and parked mark an entry holds. -/
def Peer.limit (p : Peer) : Time := freshnessLimit p.periodCode p.parked

/-- Sequence number `n` is newer than `m` (R52). -/
def isNewer (n m : Nat) : Bool :=
  let d := (n + 65536 - m) % 65536
  decide (1 ≤ d) && decide (d ≤ 32767)

def findPeer (n : Nat) (s : State) : Option Peer := s.table.peers.find? (fun p => p.station == n)

/-- The entry an accepted beacon leaves, whether it updates one or makes a new one (R45, R53). -/
def Beacon.peer (b : Beacon) (own : List Nat) (now : Time) : Peer :=
  { station := b.station, cls := b.cls, periodCode := b.periodCode, parked := b.parked, seq := b.seq, freshness := .live,
    expiry := now + freshnessLimit b.periodCode b.parked, claims := b.claims, relevant := touches own b.claims }

def setPeers (ps : List Peer) (s : State) : State := { s with table := { s.table with peers := ps } }

/-- The accepted beacon's entry at the most recent place of the last-heard order, in place of the station's old one. -/
def putPeer (b : Beacon) (s : State) : State :=
  setPeers (s.table.peers.filter (fun p => p.station != b.station) ++ [b.peer (ownZones s) s.now]) s

/-! ### What an acceptance hands over (R64) -/

def claimOn (z : Nat) (cs : List Claim) : Option Claim := cs.find? (fun c => c.zone == z)

/-- The zones whose claim appeared, disappeared or changed between two lists. -/
def changedZones (old new : List Claim) : List Nat :=
  ((old ++ new).map Claim.zone).filter (fun z => claimOn z old != claimOn z new)

/-- The zones handed over by the acceptance of claims into an entry. -/
def handedOver (p : Peer) (new : List Claim) : List Nat :=
  match p.freshness with
  | .live => changedZones p.claims new
  | .stale => (p.claims ++ new).map Claim.zone

/-- The HOLD that a beacon's claims carry on a zone. -/
def holdIn (z : Nat) (cs : List Claim) : Option Claim := cs.find? (fun c => c.zone == z && c.kind = .hold)

/-- The own HELD zones on which a beacon carries a HOLD, in window order. -/
def doubleHeld (b : Beacon) (s : State) : List Nat :=
  (windowZones s).filter (fun z => isHeld s z && (holdIn z b.claims).isSome)

/-- One double-hold test of an accepted beacon. -/
def testAgainst (b : Beacon) (z : Nat) (s : State) : State :=
  match holdIn z b.claims with
  | some c => doubleHoldTest z b.station c s
  | none => s

/-- What the Claim Window does at an acceptance, the table changed already: double-hold tests in window order, then the
re-evaluations in window order (R64); a recompute or a run of grants that a test brings comes with that test (DESIGN
CHOICE, logs 31 and 32). -/
def windowTakes (b : Beacon) (zones : List Nat) (s : State) : State :=
  let tested := doubleHeld b s
  reevaluateZones (fun z => zones.contains z || tested.contains z) (tested.foldl (fun s z => testAgainst b z s) s)

/-- An accepted beacon: the table's change, then what it hands over. -/
def acceptBeacon (b : Beacon) (zones : List Nat) (s : State) : State := windowTakes b zones (putPeer b s)

/-! ### Eviction and overflow (R57, R58) -/

/-- The station number of the entry to evict: entries stand least recently heard first. -/
def evictable (s : State) : Option Nat :=
  match s.table.peers.find? (fun p => p.freshness = .stale && !p.relevant) with
  | some p => some p.station
  | none => (s.table.peers.find? (fun p => !p.relevant)).map Peer.station

def removePeer (n : Nat) (s : State) : State := setPeers (s.table.peers.filter (fun p => p.station != n)) s

def setOverflow (o : Option Time) (s : State) : State := { s with table := { s.table with overflow := o } }

/-- A relevant beacon is dropped with nothing evictable (R58). -/
def dropBeacon (b : Beacon) (s : State) : State :=
  let t := setOverflow (some (s.now + 3 * s.period * 1000)) s
  if s.table.overflow.isSome then t
  else reevaluateZones (fun _ => true) (raiseNotice (.tableOverflow b.station) t)

/-- A beacon from an unknown station (R56). -/
def unknownStation (b : Beacon) (s : State) : State :=
  if touches (ownZones s) b.claims then
    let zones := b.claims.map Claim.zone
    if s.table.peers.length < maxPeers then acceptBeacon b zones s
    else
      match evictable s with
      | some n => acceptBeacon b zones (removePeer n s)
      | none => dropBeacon b s
  else s

/-- A beacon from a known station (R52). -/
def knownStation (p : Peer) (b : Beacon) (s : State) : State :=
  if b.fresh || isNewer b.seq p.seq then acceptBeacon b (handedOver p b.claims) s else s

/-- A frame as the table takes it: R50, R51, then the test against its entries (R49). -/
def takeContent (frame : List Byte) (s : State) : State :=
  match parseBeacon frame with
  | none => countRadioBad s
  | some b =>
    if b.station = s.ownNumber then raiseNotice (.duplicateId b.seq b.cls) s
    else
      match findPeer b.station s with
      | some p => knownStation p b s
      | none => unknownStation b s

/-- A taking instant: at most one frame, from the head of the receive queue (R49). -/
def takeInstant (s : State) : State :=
  let s := { s with table := { s.table with nextTake := s.table.nextTake.map (· + takePeriod) } }
  match s.radio.queue with
  | [] => s
  | frame :: rest => takeContent frame { s with radio := { s.radio with queue := rest } }

/-- The next taking instant, in LISTEN, ACTIVE and PARKED (R49). -/
def takeDue (s : State) : Option Time := if s.running then s.table.nextTake else none

/-- TAKE_FRAME -/
def execTakeFrame (s : State) : Host.Outcome State Fault Refusal := .next (timedEvent (takeDue s) takeInstant s)

/-! ### Ageing (R61, R62) -/

/-- When the freshness counter of a station's entry runs out, the entry being in the state named. -/
def peerDue (n : Nat) (f : Freshness) (s : State) : Option Time :=
  match findPeer n s with
  | some p => if p.freshness = f then some p.expiry else none
  | none => none

/-- The first expiry (R61). -/
def Peer.stale (p : Peer) : Peer := { p with freshness := .stale, expiry := p.expiry + p.limit }

/-- The entry of a station becomes STALE, and the zones of its REQ claims are handed over (R61, R64). -/
def peerStale (n : Nat) (s : State) : State :=
  match findPeer n s with
  | none => s
  | some p =>
    let zones := (p.claims.filter (fun c => c.kind = .req)).map Claim.zone
    reevaluateZones (fun z => zones.contains z)
      (setPeers (s.table.peers.map (fun q => if q.station == n then q.stale else q)) s)

/-- PEER_STALE -/
def execPeerStale (station : Nat) (s : State) : Host.Outcome State Fault Refusal :=
  .next (timedEvent (peerDue station .live s) (peerStale station) s)

/-- The entry of a station is removed, and the zones of its claims are handed over (R62, R64). -/
def peerLost (n : Nat) (s : State) : State :=
  match findPeer n s with
  | none => s
  | some p =>
    let zones := p.claims.map Claim.zone
    reevaluateZones (fun z => zones.contains z) (raiseNotice (.peerLost n p.cls) (removePeer n s))

/-- PEER_LOST -/
def execPeerLost (station : Nat) (s : State) : Host.Outcome State Fault Refusal :=
  .next (timedEvent (peerDue station .stale s) (peerLost station) s)

/-! ### The overflow condition clears (R59) -/

/-- The zone's own entry is WAITING. -/
def isWaiting (s : State) (z : Nat) : Bool := s.window.entries.any (fun e => e.zone == z && e.state = .waiting)

/-- The clearing, with the re-evaluation of every WAITING entry. -/
def overflowClears (s : State) : State := reevaluateZones (isWaiting s) (setOverflow none s)

/-- OVERFLOW_CLEAR -/
def execOverflowClear (s : State) : Host.Outcome State Fault Refusal :=
  .next (timedEvent s.table.overflow overflowClears s)

end Sys2Proof.Machine
end

