-- ==== Sys2Proof/Machine/ClaimTimers.lean ====
section
/-! DEFINITION. The Claim Window's timers: SETTLE_EXPIRY (R28) and GRIDLOCK (R42). -/

namespace Sys2Proof.Machine

/-! ### The settle timer (R28) -/

/-- When the settle timer of the zone's ANNOUNCED entry runs out, if it runs. -/
def settleDue (z : Nat) (s : State) : Option Time :=
  match findEntry z s with
  | none => none
  | some e =>
    match e.state, e.settle with
    | .announced, .running t => some t
    | _, _ => none

def ClaimEntry.settled (e : ClaimEntry) : ClaimEntry := { e with settle := .expired }

/-- The timer becomes expired and the entry is re-evaluated, with the run of grants behind it (R28, R36). -/
def settleExpires (z : Nat) (s : State) : State := reevaluateZones (fun y => y == z) (modifyEntry z ClaimEntry.settled s)

/-- SETTLE_EXPIRY -/
def execSettleExpiry (zone : Nat) (s : State) : Host.Outcome State Fault Refusal :=
  .next (timedEvent (settleDue zone s) (settleExpires zone) s)

/-! ### Gridlock (R42) -/

/-- The gridlock time: 30,000 ms. -/
def gridlockTime : Time := 30000000

/-- When the gridlock time of the zone's WAITING entry runs out, if it runs. -/
def gridlockDue (z : Nat) (s : State) : Option Time :=
  match findEntry z s with
  | none => none
  | some e => if e.state = .waiting && !e.gridlock then e.blockedSince.map (· + gridlockTime) else none

def ClaimEntry.reported (e : ClaimEntry) : ClaimEntry := { e with gridlock := true }

/-- The notice is given and the mark set. -/
def gridlockOut (z : Nat) (s : State) : State :=
  match lowestHolder z s with
  | some n => modifyEntry z ClaimEntry.reported (raiseNotice (.gridlock z n) s)
  | none => s

/-- GRIDLOCK -/
def execGridlock (zone : Nat) (s : State) : Host.Outcome State Fault Refusal :=
  .next (timedEvent (gridlockDue zone s) (gridlockOut zone) s)

end Sys2Proof.Machine
end

