-- ==== Sys2Proof/Machine/AuthorityTimers.lean ====
section
/-! DEFINITION. The Authority Unit's events: AUTHORITY_TICK (R107), OUTPUT_REFRESH (R106) and CEILING_WORD_COMPLETE
(R124). -/

namespace Sys2Proof.Machine

/-- The expiry of the output period is an authority tick: ACTIVE on a CARRIER station (R106). -/
def ticks (s : State) : Bool := s.isCarrier && s.station.state = .active

/-- The output period starts again at its expiry (R106). -/
def nextOutput (s : State) : State := { s with auth := { s.auth with outputAt := s.auth.outputAt + outputPeriod } }

/-- AUTHORITY_TICK -/
def execAuthorityTick (s : State) : Host.Outcome State Fault Refusal :=
  .next (timedEvent (if ticks s then some s.auth.outputAt else none) (fun s => authorityTickWork (nextOutput s)) s)

/-- The horizon of the status report, computed when the store holds cells (R106). -/
def refreshHorizon (s : State) : State := if s.route.cells.isEmpty then s else setHorizon (grantedHorizon s) s

/-- An output refresh by the rows of R106's table. -/
def outputRefreshWork (s : State) : State :=
  if s.isCarrier then
    match s.station.state with
    | .listen | .parked => sendWord 0 (refreshHorizon (takePending s))
    | .boot | .configFault => sendWord 0 s
    | .active => s
  else s

/-- OUTPUT_REFRESH -/
def execOutputRefresh (s : State) : Host.Outcome State Fault Refusal :=
  .next (timedEvent (if ticks s then none else some s.auth.outputAt) (fun s => outputRefreshWork (nextOutput s)) s)

/-- The word on the line is complete, and the pending word follows at once (R124). -/
def wordComplete (s : State) : State :=
  let t := { s with auth := { s.auth with wordOut := none, pendingWord := none } }
  match s.auth.pendingWord with
  | some v => sendWord v t
  | none => t

/-- CEILING_WORD_COMPLETE -/
def execCeilingWordComplete (s : State) : Host.Outcome State Fault Refusal :=
  .next (timedEvent (s.auth.wordOut.map WordOut.endsAt) wordComplete s)

end Sys2Proof.Machine
end

