-- ==== Sys2Proof/Machine/Beacons.lean ====
section
/-! DEFINITION. The own beacons: NOMINAL_INSTANT (R128, R32), PLACEMENT_POINT (R129), BEACON_DUE (R133), BEACON_COMPLETE
(R135, R27, R31, R38) and TAIL_END (R135, R136). -/

namespace Sys2Proof.Machine

/-! ### Nominal instants (R128, R32) -/

/-- The wait count rises, and stays at 255 (R32). -/
def ClaimEntry.waitMore (e : ClaimEntry) : ClaimEntry := if e.requested then { e with wait := min (e.wait + 1) 255 } else e

/-- The wait count of the entry rises at a nominal instant. -/
def ClaimEntry.rises (e : ClaimEntry) : Bool := e.requested && decide (e.wait < 255)

/-- The wait counts rise, and the entries that rose are re-evaluated (R32). -/
def waitRise (s : State) : State :=
  let rose := (s.window.entries.filter ClaimEntry.rises).map ClaimEntry.zone
  reevaluateZones (fun z => rose.contains z) (setEntries (s.window.entries.map ClaimEntry.waitMore) s)

/-- The schedule moves on by one instant (R128). -/
def advanceSchedule (n : Time) (s : State) : State :=
  { s with radio := { s.radio with last := some n, next := some (n + nominalSpacing s), placementOpen := true } }

/-- The nominal instant `n` (R128). -/
def nominalWork (n : Time) (s : State) : State := waitRise (advanceSchedule n s)

/-- NOMINAL_INSTANT -/
def execNominalInstant (s : State) : Host.Outcome State Fault Refusal :=
  .next (match s.radio.next with
    | none => s
    | some n => timedEvent (some n) (nominalWork n) s)

/-- PLACEMENT_POINT -/
def execPlacementPoint (s : State) : Host.Outcome State Fault Refusal :=
  .next (match s.radio.next with
    | none => s
    | some n => timedEvent (if s.radio.placementOpen then some (n - placementLead s) else none) (placeScheduled n) s)

/-! ### The due time (R133) -/

/-- When the due time of the pending beacon arrives, if it has not arrived already. -/
def beaconDueAt (s : State) : Option Time :=
  match s.radio.slot with
  | none => none
  | some b => if b.arrived then none else some b.due

/-- BEACON_DUE -/
def execBeaconDue (clear : Bool) (s : State) : Host.Outcome State Fault Refusal :=
  .next (timedEvent (beaconDueAt s) (beaconDueNow clear) s)

/-! ### Completion and tail (R135, R136) -/

/-- One entry at the completion of a frame, by what the frame carried for it (R27, R31, R38). An announcement counts in
whatever state the entry has reached since: an OVERRUN may have made it HELD (R70). -/
def ClaimEntry.completed (e : ClaimEntry) : ClaimEntry :=
  match e.air with
  | .none => e
  | .announced w => { e with carried := w, announce := min (e.announce + 1) 2, air := .none }
  | .carried w => { e with carried := w, air := .none }
  | .omitted => { e with released := if e.state = .releasing then min (e.released + 1) 2 else e.released, air := .none }

/-- The entry leaves the window: RELEASING, and omitted by two completed beacons (R38). -/
def ClaimEntry.departs (e : ClaimEntry) : Bool := e.state = .releasing && e.released == 2

/-- The completion re-evaluates the entry: its carried wait changed (R31) or its announce count reached 2 (R27). -/
def completionTouches (old new : ClaimEntry) : Bool :=
  old.carried != new.carried || (old.announce != 2 && new.announce == 2)

/-- The Claim Window takes the completion of a frame (R27, R31, R38, R33, R21). -/
def windowCompletes (s : State) : State :=
  let old := s.window.entries
  let new := old.map ClaimEntry.completed
  let touched := (old.filter (fun e => completionTouches e e.completed)).map ClaimEntry.zone
  let gone := (new.filter ClaimEntry.departs).map ClaimEntry.zone
  let behind := zonesAfter ClaimEntry.departs new
  let t := reevaluateZones (fun z => touched.contains z || behind.contains z) (removeZones gone (setEntries new s))
  if gone.isEmpty then t else listingTest t

/-- The last byte has been sent: the tail begins, and the content goes to the Claim Window (R135). -/
def frameCompletes (x : Transmission) (s : State) : State :=
  windowCompletes { s with radio := { s.radio with tx := some { x with phase := .tail, endsAt := s.now + tailTime } } }

/-- BEACON_COMPLETE -/
def execBeaconComplete (s : State) : Host.Outcome State Fault Refusal :=
  .next (match s.radio.tx with
    | none => s
    | some x => timedEvent (if x.phase = .sending then some x.endsAt else none) (frameCompletes x) s)

/-- The end of a tail: a beacon whose due time has come under the key follows, else the key is released. A due time
equal to the end counts when its arrival has been taken first (R136, log 22). -/
def tailEnds (s : State) : State :=
  match s.radio.slot with
  | some b =>
    if b.arrived || decide (b.due < s.now) then startBeacon b 0 s else { s with radio := { s.radio with tx := none } }
  | none => { s with radio := { s.radio with tx := none } }

/-- TAIL_END -/
def execTailEnd (s : State) : Host.Outcome State Fault Refusal :=
  .next (match s.radio.tx with
    | none => s
    | some x => timedEvent (if x.phase = .tail then some x.endsAt else none) tailEnds s)

end Sys2Proof.Machine
end

