-- ==== Sys2Proof/Machine/Dispatch.lean ====
section
/-! DEFINITION. The meaning of every command: one arm per row of spec/opcode_table.json. -/

namespace Sys2Proof.Machine

def exec (i : Instr) (s : State) : Host.Outcome State Fault Refusal :=
  match i with
  | .powerOnReset t => Sys2Proof.Machine.execPowerOnReset t s
  | .resetLine t => Sys2Proof.Machine.execResetLine t s
  | .resetRelease t => Sys2Proof.Machine.execResetRelease t s
  | .configReadComplete t word => Sys2Proof.Machine.execConfigReadComplete t word s
  | .listenTimerExpiry => Sys2Proof.Machine.execListenTimerExpiry s
  | .startPosition t payload => Sys2Proof.Machine.execStartPosition t payload s
  | .routeAppend t payload => Sys2Proof.Machine.execRouteAppend t payload s
  | .routeCut t payload => Sys2Proof.Machine.execRouteCut t payload s
  | .proceed t payload => Sys2Proof.Machine.execProceed t payload s
  | .loadState t payload => Sys2Proof.Machine.execLoadState t payload s
  | .profileSet t payload => Sys2Proof.Machine.execProfileSet t payload s
  | .park t payload => Sys2Proof.Machine.execPark t payload s
  | .unpark t payload => Sys2Proof.Machine.execUnpark t payload s
  | .resume t payload => Sys2Proof.Machine.execResume t payload s
  | .yieldZone t payload => Sys2Proof.Machine.execYieldZone t payload s
  | .standClaim t payload => Sys2Proof.Machine.execStandClaim t payload s
  | .standRelease t payload => Sys2Proof.Machine.execStandRelease t payload s
  | .commit t payload => Sys2Proof.Machine.execCommit t payload s
  | .statusQuery t payload => Sys2Proof.Machine.execStatusQuery t payload s
  | .restart t payload => Sys2Proof.Machine.execRestart t payload s
  | .nonCommandMessage t kind payload => Sys2Proof.Machine.execNonCommandMessage t kind payload s
  | .badMessage t bytes => Sys2Proof.Machine.execBadMessage t bytes s
  | .inboundGapTimeout t bytes => Sys2Proof.Machine.execInboundGapTimeout t bytes s
  | .outboundMessageComplete => Sys2Proof.Machine.execOutboundMessageComplete s
  | .statusTimerExpiry => Sys2Proof.Machine.execStatusTimerExpiry s
  | .odometrySample pulsesA pulsesB => Sys2Proof.Machine.execOdometrySample pulsesA pulsesB s
  | .markerArrival t ident pulsesA pulsesB => Sys2Proof.Machine.execMarkerArrival t ident pulsesA pulsesB s
  | .radioFrameReceived t bytes => Sys2Proof.Machine.execRadioFrameReceived t bytes s
  | .radioGapTimeout t bytes => Sys2Proof.Machine.execRadioGapTimeout t bytes s
  | .takeFrame => Sys2Proof.Machine.execTakeFrame s
  | .peerStale station => Sys2Proof.Machine.execPeerStale station s
  | .peerLost station => Sys2Proof.Machine.execPeerLost station s
  | .overflowClear => Sys2Proof.Machine.execOverflowClear s
  | .settleExpiry zone => Sys2Proof.Machine.execSettleExpiry zone s
  | .gridlock zone => Sys2Proof.Machine.execGridlock zone s
  | .authorityTick => Sys2Proof.Machine.execAuthorityTick s
  | .outputRefresh => Sys2Proof.Machine.execOutputRefresh s
  | .ceilingWordComplete => Sys2Proof.Machine.execCeilingWordComplete s
  | .nominalInstant => Sys2Proof.Machine.execNominalInstant s
  | .placementPoint => Sys2Proof.Machine.execPlacementPoint s
  | .beaconDue clear => Sys2Proof.Machine.execBeaconDue clear s
  | .beaconComplete => Sys2Proof.Machine.execBeaconComplete s
  | .tailEnd => Sys2Proof.Machine.execTailEnd s
  | .radioBadLengthByte t bytes => Sys2Proof.Machine.execRadioBadLengthByte t bytes s

end Sys2Proof.Machine
end

