-- ==== Sys2Proof/Safety.lean ====
section
/-! DEFINITION. What stands in every state the part reaches: the bounds and agreements the rules promise, each a named
predicate on one state. Certificates state that every step keeps them and that State.reset has them. -/

namespace Sys2Proof.Machine

/-! ### Places (R3, R19, R47, R76, R143, R146, R156) -/

/-- No zone has two entries, and the window holds at most 8 (R19). -/
abbrev windowFits (w : Window) : Prop :=
  w.entries.length ≤ 8 ∧ (w.entries.map ClaimEntry.zone).Nodup ∧ w.standing.length ≤ 8

/-- One conflict record (R76). -/
abbrev ConflictRecord.fits (r : ConflictRecord) : Prop := r.peers ≠ [] ∧ r.peers.length ≤ 24 ∧ r.peers.Nodup

/-- The conflict list (R76). -/
abbrev conflictsFit (rs : List ConflictRecord) : Prop :=
  rs.length ≤ 8 ∧ (rs.map ConflictRecord.zone).Nodup ∧ ∀ r ∈ rs, r.fits

/-- One peer entry: at most 8 claims, no two on one zone (R47). -/
abbrev Peer.fits (p : Peer) : Prop := p.claims.length ≤ 8 ∧ (p.claims.map Claim.zone).Nodup

/-- The Neighbour Table: at most 24 entries, no station twice, the own number never; empty in BOOT and CONFIG_FAULT
(R47, R48). -/
abbrev tableFits (s : State) : Prop :=
  s.table.peers.length ≤ 24 ∧ (s.table.peers.map Peer.station).Nodup ∧ (∀ p ∈ s.table.peers, p.fits) ∧
    (∀ p ∈ s.table.peers, p.station ≠ s.ownNumber) ∧ (s.running = false → s.table.peers = [])

/-- The queues (R143, R156, R167). -/
abbrev queuesFit (s : State) : Prop :=
  s.radio.queue.length ≤ 6 ∧ s.port.replies.length ≤ 4 ∧ s.port.notices.length ≤ 16

/-! ### The route (R3) -/

/-- Cells laid end to end from an entry boundary. -/
def laidFrom : Int → List StoredCell → Prop
  | _, [] => True
  | x, c :: cs => c.entry = x ∧ laidFrom c.exit cs

/-- The Route Store: at most 64 cells, each in range, laid end to end from 0 (R1, R3). -/
def routeLaid (s : State) : Prop :=
  s.route.cells.length ≤ 64 ∧ (∀ c ∈ s.route.cells, c.cell.inRange = true) ∧ laidFrom 0 s.route.cells

/-! ### Claims (R65, R113, R146) -/

/-- A committed mark stands on HELD entries only (R65). -/
abbrev marksHeld (s : State) : Prop := ∀ e ∈ s.window.entries, e.committed = true → e.state = .held

/-- An entry not RELEASING names a zone of a stored cell, on a FIXED station a zone of a standing claim (R146). -/
abbrev claimsNeeded (s : State) : Prop :=
  ∀ e ∈ s.window.entries, e.state ≠ .releasing →
    if s.isCarrier then isNeeded e.zone s.route.cells = true else e.zone ∈ s.window.standing.map Standing.zone

/-- The stored horizon does not pass the end of the held run (R113). -/
abbrev horizonHeld (s : State) : Prop := s.auth.horizon ≤ hZone s

/-! ### Authority (R101, R117 to R123) -/

/-- A profile within its ranges (R101). -/
abbrev Profile.inRange (p : Profile) : Prop := p.limited = p

/-- The ceiling: within the active cap, at most 300 while LOST, 0 under a STOP cause and outside ACTIVE (R118, R119). -/
abbrev ceilingBounded (s : State) : Prop :=
  s.auth.previous = s.auth.ceiling ∧ s.auth.ceiling ≤ s.profile.cap ∧
    (s.odo.quality = .lost → s.auth.ceiling ≤ 300) ∧ (s.auth.causes.any = true → s.auth.ceiling = 0) ∧
    (s.station.state ≠ .active → s.auth.ceiling = 0) ∧ (s.isCarrier = false → s.auth.ceiling = 0)

abbrev profilesInRange (s : State) : Prop :=
  s.auth.profiles.unladen.inRange ∧ s.auth.profiles.laden.inRange ∧ s.auth.profiles.ladenHigh.inRange

/-- The STOP causes agree with what raises them (R76, R105, R122). -/
abbrev causesAgree (s : State) : Prop :=
  (s.auth.causes.boot = decide (s.station.state = .boot)) ∧
    (s.auth.causes.configFault = decide (s.station.state = .configFault)) ∧
    s.auth.causes.conflict = conflictStands s ∧ s.auth.causes.overrun = s.auth.overrun

/-- The STOP line has the level of the rules (R122, R123). -/
abbrev lineAgrees (s : State) : Prop := s.stopLine = stopLevel s

/-! ### Odometry (R80, R98) -/

/-- The scale trim (R98). -/
abbrev trimInRange (s : State) : Prop := 61440 ≤ s.odo.trim ∧ s.odo.trim ≤ 69632

/-! ### The port and the relevant flags (R55, R164) -/

/-- Nothing that may start waits while the outbound line is free (R164). -/
abbrev lineServed (s : State) : Prop :=
  s.port.out = none → s.port.replies = [] ∧
    (s.port.restartPending = true ∨ (s.port.notices = [] ∧ s.port.reportPending = false))

/-- Every peer's relevant flag agrees with its claims (R55). -/
abbrev relevanceAgrees (s : State) : Prop := ∀ p ∈ s.table.peers, p.relevant = touches (ownZones s) p.claims

/-! ### Ranges of the counts (R18, R32, R80, R125, R168, R169) -/

/-- The wait the frame on the air carries for an entry, 0 when it carries none. -/
def AirMark.waitOnAir : AirMark → Nat
  | .announced w | .carried w => w
  | .none | .omitted => 0

abbrev ClaimEntry.countsFit (e : ClaimEntry) : Prop :=
  e.wait ≤ 255 ∧ e.carried ≤ 255 ∧ e.air.waitOnAir ≤ 255 ∧ e.announce ≤ 2 ∧ e.released ≤ 2

abbrev Counters.fit (c : Counters) : Prop :=
  c.radioBad ≤ 65535 ∧ c.queueDrops ≤ 65535 ∧ c.beaconDrops ≤ 65535 ∧ c.portBad ≤ 65535 ∧ c.strays ≤ 65535

abbrev countsFit (s : State) : Prop :=
  (∀ e ∈ s.window.entries, e.countsFit) ∧ s.port.counters.fit ∧ s.station.standstill ≤ 50 ∧ s.odo.vmeas ≤ 10000 ∧
    s.odo.rejects ≤ 2 ∧ s.odo.since ≤ 1000000000 ∧ s.odo.travel < 281474976710656 ∧ s.odo.history.length = 10 ∧
    s.radio.seq < 65536

/-! ### BOOT and CONFIG_FAULT (R4, R20, R48, R82, R126), and the FIXED class (R4, R145) -/

/-- In BOOT and CONFIG_FAULT the store, the window, the table and the receive queue are empty and the radio is silent. -/
abbrev silentAtStart (s : State) : Prop :=
  s.running = false →
    s.route.cells = [] ∧ s.window.entries = [] ∧ s.table.peers = [] ∧ s.radio.queue = [] ∧ s.radio.tx = none ∧
      s.radio.slot = none ∧ s.radio.next = none ∧ s.radio.rx = .hunt

/-- The Route Store of a FIXED station is empty. -/
abbrev fixedHasNoRoute (s : State) : Prop := s.isCarrier = false → s.route.cells = []

/-! ### A zone that has become HELD (R35) -/

/-- A zone that the second state holds uncommitted and the first did not hold has no peer HOLD on it, and the table is
not in overflow (R35, R39). -/
abbrev newHoldsClear (s t : State) : Prop :=
  ∀ e ∈ t.window.entries, e.state = .held → e.committed = false → isHeld s e.zone = false →
    holdStands t e.zone = false ∧ t.table.overflow = none

/-! ### The invariants that certificates carry from state to state -/

/-- Places and marks of the Claim Window (R19, R65). -/
abbrev windowInv (s : State) : Prop := windowFits s.window ∧ marksHeld s

/-- The route, the claims it needs, and the horizon (R3, R4, R113, R146). -/
abbrev routeInv (s : State) : Prop :=
  routeLaid s ∧ windowFits s.window ∧ silentAtStart s ∧ fixedHasNoRoute s ∧ claimsNeeded s ∧ horizonHeld s

/-- The conflict list and the STOP causes (R76, R122). -/
abbrev conflictInv (s : State) : Prop := conflictsFit s.window.conflicts ∧ causesAgree s

/-- What the end of an event leaves: the line's level, the outbound line served, the relevant flags (R55, R122, R123,
R164). -/
abbrev eventEndInv (s : State) : Prop := lineAgrees s ∧ lineServed s ∧ relevanceAgrees s

/-- Counts, queues and trim (R32, R98, R143, R156, R168). -/
abbrev countsInv (s : State) : Prop := countsFit s ∧ queuesFit s ∧ trimInRange s

/-- The ceiling and the profiles (R101, R118, R119). -/
abbrev ceilingInv (s : State) : Prop := ceilingBounded s ∧ profilesInRange s

/-! ### Words for statements about one event -/

/-- A message with its CRC right is taken: the part is not held at reset, no restart is pending, and a reply finds a
place (R157, R159, R170). -/
abbrev ready (s : State) : Prop :=
  s.station.held = false ∧ s.port.restartPending = false ∧ s.port.replies.length < 4

/-- The state in which a message received at time `t` is handled. -/
def received (t : Time) (s : State) : State := inboundDone (s.reach t)

/-- An event that ends with the reply `a` and nothing else to send: the reply starts on a free outbound line, and joins
the reply queue behind a message on the line (R161, R164). -/
def answered (kind : Byte) (a : Answer) (s : State) : State :=
  let r : Reply := ⟨kind, a⟩
  if s.port.out.isSome then { s with port := { s.port with replies := s.port.replies ++ [r] } }
  else
    { s with port := { s.port with
        out := some ⟨.reply r, envelope 0x81#8 r.payload, s.now + (r.payload.length + 5) * 40⟩ } }

/-- The command is refused with the code and payload given, and changes nothing else (R161). -/
def turnsAway (c : Instr) (t : Time) (kind : Byte) (code : RefuseCode) (payload : List Byte) (s : State) : Prop :=
  exec c s = .next (answered kind (.refuse code payload) (received t s))

/-- The configuration fault code by R173's table: the first check that fails, 0 when none does. -/
def failedCheck (w : ConfigWord) : Nat :=
  let carrier := decide (w.cls = .carrier)
  let checks : List (Nat × Bool) :=
    [(1, decide (w.station = 0 ∨ w.station = 4095)), (2, decide (w.periodCode = 3)),
      (3, carrier && decide (w.carrierLength < 40 ∨ 160 < w.carrierLength)),
      (4, carrier && decide (w.carrierLength < w.readerOffset)),
      (5, carrier && decide (64 * w.num < w.den ∨ 64 * w.den < w.num)), (6, carrier && decide (w.modeCode = 3))]
  ((checks.find? (fun c => c.2)).map (fun c => c.1)).getD 0

/-- The payload lengths R160 fixes, by kind code. -/
def fixedLength : Nat → Option Nat
  | 3 => some 1
  | 4 | 10 => some 2
  | 7 | 8 | 9 | 12 | 13 | 14 | 15 => some 0
  | _ => none

/-- A profile with its index, as PROFILE_SET and its reply carry it (R183). -/
def profileRecord (ix : LoadIndex) (p : Profile) : List Byte :=
  byteOf ix.code :: (beBytes 2 p.cap ++ beBytes 2 p.decel ++ beBytes 2 p.rise ++ beBytes 2 p.margin ++
    beBytes 2 p.reaction ++ beBytes 2 p.leadExtra)

/-- A ceiling word on its line: bit 7 set with bits 13..7 of the ceiling, then bit 7 clear with bits 6..0 (R185). -/
def wordOnLine (v : Nat) (endsAt : Time) : WordOut := ⟨v, [byteOf (128 + v / 128 % 128), byteOf (v % 128)], endsAt⟩

/-- A word has been sent: its two bytes go out on a free line for 80 µs, and it is the pending word behind another
(R124, R185). -/
def wordSent (s t : State) (v : Nat) : Prop :=
  (s.auth.wordOut = none → t.auth.wordOut = some (wordOnLine v (t.now + 80))) ∧
    (s.auth.wordOut.isSome = true → t.auth.wordOut = s.auth.wordOut ∧ t.auth.pendingWord = some v)

/-- The lowest number among the stations that show HOLD on a zone (R63). -/
abbrev lowestHolding (z n : Nat) (s : State) : Prop :=
  (∃ p ∈ s.table.peers, p.station = n ∧ p.holds z = true) ∧
    ∀ p ∈ s.table.peers, p.holds z = true → n ≤ p.station

/-- The reply is placed: behind the message on the line, or on the free line at once (R161, R164). -/
def answers (s t : State) (kind : Byte) (a : Answer) : Prop :=
  let r : Reply := ⟨kind, a⟩
  (s.port.out.isSome = true → t.port.out = s.port.out ∧ t.port.replies = s.port.replies ++ [r]) ∧
    (s.port.out = none → s.port.replies = [] →
      t.port.replies = [] ∧
        t.port.out = some ⟨.reply r, envelope kindReply r.payload, t.now + (r.payload.length + 5) * 40⟩)

/-- A notice is given: it stands in the queue or has just started, unless the queue was full (R167). -/
def noticeGiven (s t : State) (n : Notice) : Prop :=
  s.port.notices.length < 16 → n ∈ t.port.notices ∨ ∃ m, t.port.out = some m ∧ m.content = .notice n

/-- A status report waits or has just started (R164, R165). -/
def reportComing (t : State) : Prop :=
  t.port.reportPending = true ∨ ∃ m, t.port.out = some m ∧ m.content = .status

/-- The Neighbour Table is as it was, but for relevant flags, which agree with the claims (R55). -/
def tableKept (s t : State) : Prop :=
  t.table = { s.table with peers := s.table.peers.map (fun p => { p with relevant := touches (ownZones t) p.claims }) }

/-- The radio is as it was, but for the generator and the pending slot, which an urgent request may change (R130). -/
def radioKept (s t : State) : Prop := t.radio = { s.radio with gen := t.radio.gen, slot := t.radio.slot }

/-- The profiles, the indices and the output period are as they were. -/
def profilesKept (s t : State) : Prop :=
  t.auth.profiles = s.auth.profiles ∧ t.auth.active = s.auth.active ∧ t.auth.pendingIx = s.auth.pendingIx ∧
    t.auth.outputAt = s.auth.outputAt

/-- The port is as it was, but for the three queues, the flag of dropped notices and the message on the line. -/
def portKept (s t : State) : Prop :=
  t.port.inbound = s.port.inbound ∧ t.port.inGap = s.port.inGap ∧ t.port.restartPending = s.port.restartPending ∧
    t.port.statusAt = s.port.statusAt ∧ t.port.counters = s.port.counters

/-- The command of an equipment-port kind code (R183). -/
def commandOf (kind : Nat) (t : Time) (payload : List Byte) : Option Instr :=
  match kind with
  | 1 => some (.startPosition t payload)
  | 2 => some (.routeAppend t payload)
  | 3 => some (.routeCut t payload)
  | 4 => some (.proceed t payload)
  | 5 => some (.loadState t payload)
  | 6 => some (.profileSet t payload)
  | 7 => some (.park t payload)
  | 8 => some (.unpark t payload)
  | 9 => some (.resume t payload)
  | 10 => some (.yieldZone t payload)
  | 11 => some (.standClaim t payload)
  | 12 => some (.standRelease t payload)
  | 13 => some (.commit t payload)
  | 14 => some (.statusQuery t payload)
  | 15 => some (.restart t payload)
  | _ => none

/-- A beacon whose fields lie in the ranges a station sends (R46, R182). -/
abbrev Claim.sendable (c : Claim) : Prop :=
  1 ≤ c.zone ∧ c.zone ≤ 4095 ∧ c.urgency ≤ 3 ∧ c.wait ≤ 255 ∧ (c.kind = .req → c.committed = false)

abbrev Beacon.sendable (b : Beacon) : Prop :=
  1 ≤ b.station ∧ b.station ≤ 4094 ∧ b.seq < 65536 ∧ b.periodCode ≤ 2 ∧ b.claims.length ≤ 8 ∧
    (b.claims.map Claim.zone).Nodup ∧ ∀ c ∈ b.claims, c.sendable

end Sys2Proof.Machine
end

