-- ==== Sys2Proof/Certificates/Slice0/Obligations.lean ====
section
/-! DEFINITION. The statements for the provers, one def each. Each is about every state and every operand that meet its
hypotheses; a witness for each stands in Sys2Proof/Tests/Slice0.lean. Throughout, the clock and the time an event carries
are the model's (log 1), a message starts at the end of the event that gives it (log 8), and the lines and relevant flags
are assessed there (log 9); what a statement says of them is derived. -/

open Sys2Proof Sys2Proof.Machine

/-! ### The step, and the start -/

/-- A step runs the command at the front of the queue on the queue's rest; on an empty queue the part idles (log 2). -/
def Obligations.StepRunsTheFrontCommand : Prop :=
  (∀ (c : Instr) (rest : List Instr) (s : State),
    step { s with pending := c :: rest } = exec c { s with pending := rest }) ∧
  ∀ s : State, step { s with pending := [] } = .next { s with pending := [] }

/-- Every command, in every state, answers a next state: none ends in a fault or a refusal. That an event delivered where
it cannot occur is answered too, changing nothing, is the model's choice (log 3), as are the queue that stands through
every command, a reset among them (log 4), and the clock that does not run backwards (log 1). It says of no command what
it does: the statements below do. -/
def Obligations.EveryCommandCompletes : Prop :=
  ∀ (c : Instr) (s : State), ∃ u, exec c s = .next u ∧ u.pending = s.pending ∧ s.now ≤ u.now

/-- The state after a power-on reset, as the owning rules give it. The values the spec does not give (the unseeded
generator, the mode before the configuration is read: log 10; the clock: log 1) are not stated. -/
def Obligations.ResetValues : Prop :=
  let s := State.reset
  (s.station.state = .boot ∧ s.station.cfg = none ∧ s.station.fault = 0 ∧ s.station.listen = .stopped ∧
    s.station.startMark = false ∧ s.station.standstill = 0 ∧ s.station.cause = .powerOn) ∧
  s.route.cells = [] ∧
  (s.window.entries = [] ∧ s.window.full = false ∧ s.window.standing = [] ∧ s.window.conflicts = []) ∧
  (s.table.peers = [] ∧ s.table.overflow = none) ∧
  (s.odo.chA = ⟨false, 0, 0, 0⟩ ∧ s.odo.chB = ⟨false, 0, 0, 0⟩ ∧ s.odo.pos = 0 ∧ s.odo.travel = 0 ∧
    s.odo.history = List.replicate 10 0 ∧ s.odo.vmeas = 0 ∧ s.odo.slip = false ∧ s.odo.slipSeen = false ∧
    s.odo.trim = 65536 ∧ s.odo.lastMarker = none ∧ s.odo.since = 0 ∧ s.odo.rejects = 0 ∧ s.odo.quality = .doubt) ∧
  (s.auth.profiles.unladen = ⟨6500, 1200, 800, 1500, 250, 5000⟩ ∧ s.auth.profiles.laden = ⟨5500, 800, 500, 2000, 250, 8000⟩ ∧
    s.auth.profiles.ladenHigh = ⟨3500, 600, 300, 2500, 300, 10000⟩ ∧ s.auth.active = .ladenHigh ∧
    s.auth.pendingIx = none ∧ s.auth.horizon = 0 ∧ s.auth.ceiling = 0 ∧ s.auth.previous = 0 ∧ s.auth.overrun = false ∧
    s.auth.causes = ⟨true, false, false, false⟩ ∧ s.auth.outputAt = s.now + 50000 ∧ s.auth.pendingWord = none) ∧
  (s.radio.parkedSpacing = false ∧ s.radio.last = none ∧ s.radio.next = none ∧ s.radio.slot = none ∧
    s.radio.limiter = none ∧ s.radio.tx = none ∧ s.radio.seq = 0 ∧ s.radio.fresh = true ∧ s.radio.rx = .hunt ∧
    s.radio.queue = []) ∧
  (s.port.inbound = .hunt ∧ s.port.inGap = none ∧ s.port.restartPending = false ∧ s.port.replies = [] ∧
    s.port.notices = [] ∧ s.port.reportPending = false ∧ s.port.statusAt = none ∧ s.port.out = none ∧
    s.port.dropped = false ∧ s.port.counters = ⟨0, 0, 0, 0, 0⟩) ∧
  s.stopLine = true

/-- A power-on reset, an assertion of the reset line and the completion of the RESTART reply take hold of every block:
the state is the reset state but for the cause, and but for the profiles and the scale trim, which the two restarts
keep. A power-on reset holds the part until supply settles, an assertion of the line until its release, and each leaves
the other hold as it stands. The clock, the queue of commands (log 4) and the counter of drawn channel-clear levels (log 21), which are the
model's own, stand. The reset state's values that the spec does not give are the model's: the effective mode DUAL until
the configuration is read, and the generator, not seeded, 0 (log 10). -/
def Obligations.ResetsTakeEveryBlock : Prop :=
  (∀ (t : Time) (s : State),
    exec (.powerOnReset t) s = .next { State.reset with
      now := max s.now t, pending := s.pending, radio := { State.reset.radio with samples := s.radio.samples }
      station := { State.reset.station with supplyUnsettled := true, lineAsserted := s.station.lineAsserted }
      auth := { State.reset.auth with outputAt := max s.now t + 50000 } }) ∧
  (∀ (t : Time) (s : State),
    exec (.resetLine t) s = .next { State.reset with
      now := max s.now t, pending := s.pending, radio := { State.reset.radio with samples := s.radio.samples }
      station := { State.reset.station with
        supplyUnsettled := s.station.supplyUnsettled, lineAsserted := true, cause := .resetLine }
      odo := { State.reset.odo with trim := s.odo.trim }
      auth := { State.reset.auth with profiles := s.auth.profiles, outputAt := max s.now t + 50000 } }) ∧
  ∀ (s : State) (payload bytes : List Byte) (e : Time),
    s.port.out = some ⟨.reply ⟨0x0F#8, .accept payload⟩, bytes, e⟩ →
    exec .outboundMessageComplete s = .next { State.reset with
      now := max s.now e, pending := s.pending, radio := { State.reset.radio with samples := s.radio.samples }
      station := { State.reset.station with
        supplyUnsettled := s.station.supplyUnsettled, lineAsserted := s.station.lineAsserted, cause := .restartCommand }
      odo := { State.reset.odo with trim := s.odo.trim }
      auth := { State.reset.auth with profiles := s.auth.profiles, outputAt := max s.now e + 50000 } }

/-- While the part is held at its reset values, by supply that has not settled or by the line, it takes no input: only the
clock moves. RESET_RELEASE ends the reason it names; the part runs when neither is left, and its output period starts there.
On a part that is not held it moves only the clock (log 4). -/
def Obligations.HeldPartTakesNoInput : Prop :=
  (∀ (c : Instr) (s : State), s.station.supplyUnsettled = true ∨ s.station.lineAsserted = true → s.port.out = none →
    (∀ t, c ≠ .powerOnReset t ∧ c ≠ .resetLine t) → (∀ e, c ≠ .resetRelease e) →
    ∃ n, s.now ≤ n ∧ exec c s = .next { s with now := n }) ∧
  (∀ (t : Time) (s : State),
    let ends := fun (reason : HoldReason) (station : Station) (runs : Bool) =>
      exec (.resetRelease ⟨t, reason⟩) s = .next { s with
        now := max s.now t, station := station
        auth := { s.auth with outputAt := if runs then max s.now t + 50000 else s.auth.outputAt } }
    (s.station.supplyUnsettled = true → s.station.lineAsserted = false →
      ends .supply { s.station with supplyUnsettled := false } true ∧ ends .line s.station false) ∧
    (s.station.supplyUnsettled = false → s.station.lineAsserted = true →
      ends .line { s.station with lineAsserted := false } true ∧ ends .supply s.station false) ∧
    (s.station.supplyUnsettled = true → s.station.lineAsserted = true →
      ends .supply { s.station with supplyUnsettled := false } false ∧
        ends .line { s.station with lineAsserted := false } false)) ∧
  ∀ (e : HoldEnd) (s : State), s.station.supplyUnsettled = false → s.station.lineAsserted = false →
    exec (.resetRelease e) s = .next { s with now := max s.now e.t }

/-- The completed read of the configuration word locks it and checks it: the first check of R173's table that fails
sets the fault code and takes the station to CONFIG_FAULT; a word that passes takes it to LISTEN with the code 0. -/
def Obligations.ConfigurationWordChecked : Prop :=
  ∀ (t : Time) (w : ConfigWord) (s : State),
    s.station.held = false → s.station.state = .boot → s.station.cfg = none → s.station.fault = 0 →
    ∃ u, exec (.configReadComplete t w) s = .next u ∧ u.station.cfg = some w ∧ u.station.fault = failedCheck w ∧
      u.station.state = if failedCheck w = 0 then .listen else .configFault

/-- Leaving BOOT. For LISTEN: the BOOT cause is withdrawn and the STOP line of a carrier released, the generator seeded
with the station number, the schedule set, the listen timer started. For CONFIG_FAULT: the cause CONFIG_FAULT stands in
place of BOOT and the line stays asserted, the radio as it was. In both a report is pending and the status timer runs
for 1,000 ms. The phases of the first sample and taking instant (log 17) and of the placement point are not stated. On a
FIXED station, which does not read its mode, the mode held is the model's (log 10). -/
def Obligations.LeavingBoot : Prop :=
  ∀ (t : Time) (w : ConfigWord) (s : State),
    s.station.held = false → s.station.state = .boot → s.station.cfg = none → w.wf = true → s.route.cells = [] →
    s.window.entries = [] → s.window.full = false → s.auth.causes = ⟨true, false, false, false⟩ →
    ∃ u, exec (.configReadComplete t w) s = .next u ∧ u.now = max s.now t ∧ u.route = s.route ∧
      u.window = s.window ∧ u.port.statusAt = some (max s.now t + 1000000) ∧ reportComing u ∧
      u.odo = { s.odo with mode := u.odo.mode, nextSample := u.odo.nextSample } ∧
      (w.modeCode = 0 → u.odo.mode = .dual) ∧ (w.modeCode = 1 → u.odo.mode = .aOnly) ∧
      (w.modeCode = 2 → u.odo.mode = .bOnly) ∧
      (failedCheck w = 0 →
        u.station = { s.station with
          state := .listen, cfg := some w, listen := .running (max s.now t + 1600000 * 2 ^ w.listenCode) } ∧
        u.auth = { s.auth with causes := ⟨false, false, false, false⟩ } ∧ u.stopLine = decide (w.cls = .fixed) ∧
        u.radio = { s.radio with
          gen := BitVec.ofNat 16 w.station, last := some (max s.now t)
          next := some (max s.now t + 100000 * 2 ^ w.periodCode), placementOpen := u.radio.placementOpen }) ∧
      (failedCheck w ≠ 0 →
        u.station = { s.station with state := .configFault, cfg := some w, fault := failedCheck w } ∧
        u.auth = { s.auth with causes := ⟨false, true, false, false⟩ } ∧ u.stopLine = true ∧ u.radio = s.radio)

/-- The listen timer runs out. A carrier without a start position stays in LISTEN with the timer expired. A FIXED
station, and a carrier whose start-position mark is set, enters ACTIVE: the timer stopped, the FRESH mark off, the
output period and the status timer started anew, and on a carrier no entry left QUEUED and a tick made, whose ceiling is
at most one rise step. That the horizon is the one of the window as it is left rests on the listing test coming before
the tick (log 34). -/
def Obligations.ListenTimerOutcomes : Prop :=
  ∀ (s : State) (d : Time),
    s.station.held = false → s.station.state = .listen → s.station.listen = .running d → eventEndInv s → ceilingInv s →
    (s.isCarrier = true → s.station.startMark = false →
      exec .listenTimerExpiry s =
        .next { s with now := max s.now d, station := { s.station with listen := .expired } }) ∧
    (s.isCarrier = false ∨ s.station.startMark = true →
      ∃ u, exec .listenTimerExpiry s = .next u ∧ u.now = max s.now d ∧
        u.station = { s.station with state := .active, listen := .stopped } ∧ u.route = s.route ∧ u.odo = s.odo ∧
        u.radio = { s.radio with fresh := false, gen := u.radio.gen, slot := u.radio.slot } ∧ tableKept s u ∧
        u.auth.outputAt = max s.now d + 50000 ∧ u.port.statusAt = some (max s.now d + 200000) ∧ reportComing u ∧
        (s.isCarrier = true →
          (∀ e ∈ u.window.entries, e.state ≠ .queued) ∧ u.auth.active = s.auth.pendingIx.getD s.auth.active ∧
          u.auth.pendingIx = none ∧ u.auth.horizon = grantedHorizon u ∧
          u.auth.ceiling ≤ u.profile.rise * 50 / 1000 ∧ wordSent s u u.auth.ceiling) ∧
        (s.isCarrier = false →
          u.window = s.window ∧ u.auth = { s.auth with outputAt := max s.now d + 50000 } ∧
          (s.window.standing = [] → u.stopLine = true)))

/-! ### Taking a command -/

/-- What the port does before a command reaches its owner: at a full reply queue the message is discarded and counted; a
kind that is no command kind is refused BAD_KIND; a payload of another length than the one fixed is refused
BAD_LENGTH. -/
def Obligations.PortTakesMessages : Prop :=
  ∀ (t : Time) (kind : Byte) (payload : List Byte) (s : State),
    s.station.held = false → s.port.restartPending = false → eventEndInv s →
    (∀ c, commandOf kind.toNat t payload = some c ∨
        (c = .nonCommandMessage t kind payload ∧ ¬(1 ≤ kind.toNat ∧ kind.toNat ≤ 15)) →
      4 ≤ s.port.replies.length →
      exec c s = .next { received t s with port := { (received t s).port with
        counters := { s.port.counters with portBad := min (s.port.counters.portBad + 1) 65535 } } }) ∧
    (¬(1 ≤ kind.toNat ∧ kind.toNat ≤ 15) → s.port.replies.length < 4 →
      turnsAway (.nonCommandMessage t kind payload) t kind .badKind [] s) ∧
    ∀ c n, commandOf kind.toNat t payload = some c → fixedLength kind.toNat = some n → payload.length ≠ n →
      s.port.replies.length < 4 → turnsAway c t kind .badLength [] s

/-! ### START_POSITION -/

/-- The refusals of START_POSITION, in the order of R176's table. That a cell out of range is named also where s lies
outside the last cell, with its own position and not 0, is the model's choice (log 30). -/
def Obligations.StartPositionRefusals : Prop :=
  ∀ (t : Time) (payload : List Byte) (s : State), ready s → eventEndInv s →
    let away := fun code q => turnsAway (.startPosition t payload) t 1#8 code q s
    (s.running = false → away .badState []) ∧
    (s.running = true → s.isCarrier = false → away .wrongClass []) ∧
    (s.running = true → s.isCarrier = true →
      (parseStart payload = none → away .badLength []) ∧
      ∀ x cells, parseStart payload = some (x, cells) →
        (s.station.state ≠ .listen → away .badState []) ∧
        (s.station.state = .listen →
          (∀ before c after, cells = before ++ c :: after → (∀ b ∈ before, b.inRange = true) → c.inRange = false →
            away .badCell [byteOf (before.length + 1)]) ∧
          ((∀ c ∈ cells, c.inRange = true) →
            x < ((cells.dropLast.map RouteCell.length).sum : Nat) ∨ ((cells.map RouteCell.length).sum : Nat) ≤ x →
            away .badCell [byteOf 0])))

/-- An accepted START_POSITION: the store is the given cells laid from 0, s is the given position with the grade DOUBT,
every zone of the cells is HELD and committed unless the window is full, an entry keeping its wait. Of the entries whose
zones the cells do not name, a HELD one is RELEASING with its mark clear, an unheld one withdrawn, and a RELEASING one stays
so. The horizon is the new one, and a carrier whose listen timer has expired enters ACTIVE, its listing test before its
tick (log 34). -/
def Obligations.StartPositionAccepted : Prop :=
  ∀ (t : Time) (payload : List Byte) (s : State) (x : Int) (cells : List RouteCell),
    ready s → s.station.state = .listen → s.isCarrier = true → windowFits s.window →
    parseStart payload = some (x, cells) → (∀ c ∈ cells, c.inRange = true) →
    ((cells.dropLast.map RouteCell.length).sum : Nat) ≤ x → x < ((cells.map RouteCell.length).sum : Nat) →
    ∃ u, exec (.startPosition t payload) s = .next u ∧ u.now = max s.now t ∧
      u.route.cells = layCells 0 cells ∧
      u.odo = { s.odo with
        pos := x * 1000, lastMarker := none, since := 0, rejects := 0, slipSeen := false, quality := .doubt } ∧
      u.station = { s.station with
        startMark := true
        state := if s.station.listen = .expired then .active else .listen
        listen := if s.station.listen = .expired then .stopped else s.station.listen } ∧
      (∀ c ∈ cells, ∀ z ∈ c.zones,
        (∃ e ∈ u.window.entries, e.zone = z ∧ e.state = .held ∧ e.committed = true) ∨
          8 ≤ u.window.entries.length) ∧
      (let named := fun (z : Nat) => ∃ c ∈ cells, z ∈ c.zones
       ∀ e ∈ s.window.entries,
        (named e.zone → ∃ e' ∈ u.window.entries, e'.zone = e.zone ∧ e'.state = .held ∧ e'.committed = true ∧
          e'.wait = e.wait ∧ (e.state = .releasing → e'.released = 0)) ∧
        (¬named e.zone → e.state = .held →
          { e with state := .releasing, first := none, last := none, committed := false, released := 0 } ∈
            u.window.entries) ∧
        (¬named e.zone → e.unheld = true → e.zone ∉ windowZones u) ∧
        (¬named e.zone → e.state = .releasing → { e with first := none, last := none } ∈ u.window.entries)) ∧
      u.window.standing = s.window.standing ∧ u.auth.horizon = grantedHorizon u ∧
      (s.station.listen ≠ .expired → profilesKept s u ∧ portKept (received t s) u) ∧ u.auth.profiles = s.auth.profiles ∧ tableKept s u ∧
      u.radio = { s.radio with
        gen := u.radio.gen, slot := u.radio.slot
        fresh := if s.station.listen = .expired then false else s.radio.fresh } ∧
      answers s u 1#8 (.accept [byteOf cells.length, byteOf u.station.state.code])

/-! ### Route commands -/

/-- ROUTE_APPEND: the checks of R9 in order, and what an accepted append does. The cells join the end; the position, the
grade and the earlier cells stay; no HELD zone is lost; outside LISTEN the Authority Unit is untouched, and in PARKED no
zone is listed. -/
def Obligations.RouteAppend : Prop :=
  ∀ (t : Time) (payload : List Byte) (s : State), ready s → eventEndInv s → routeInv s →
    let away := fun code q => turnsAway (.routeAppend t payload) t 2#8 code q s
    (s.running = false → away .badState []) ∧
    (s.running = true → s.isCarrier = false → away .wrongClass []) ∧
    (s.running = true → s.isCarrier = true →
      (parseAppend payload = none → away .badLength []) ∧
      ∀ cells, parseAppend payload = some cells →
        (s.route.cells = [] → away .badState []) ∧
        (s.route.cells ≠ [] →
          (∀ before c after, cells = before ++ c :: after → (∀ b ∈ before, b.inRange = true) → c.inRange = false →
            away .badCell [byteOf (before.length + 1)]) ∧
          ((∀ c ∈ cells, c.inRange = true) →
            (64 < s.route.cells.length + cells.length → away .routeFull []) ∧
            (s.route.cells.length + cells.length ≤ 64 →
              ∃ u, exec (.routeAppend t payload) s = .next u ∧ u.now = max s.now t ∧
                u.route.cells = s.route.cells ++ layCells (routeEnd s.route.cells) cells ∧ u.odo = s.odo ∧
                u.station = s.station ∧ (s.station.state ≠ .listen → u.auth = s.auth) ∧ profilesKept s u ∧
                tableKept s u ∧ radioKept s u ∧ portKept (received t s) u ∧ u.window.standing = s.window.standing ∧
                (∀ z, isHeld s z = true → isHeld u z = true) ∧
                (s.station.state = .parked → ∀ z, z ∈ windowZones u ↔ z ∈ windowZones s) ∧
                answers s u 2#8 (.accept [byteOf (s.route.cells.length + cells.length)])))))

/-- ROUTE_CUT: refused as R14 says; otherwise the largest of keep, the front cell and the last cell of a HELD and
committed zone is kept, at most what is stored. A cut that removes nothing changes nothing. One that removes cells keeps
every HELD and committed zone so, and does not raise the ceiling. -/
def Obligations.RouteCut : Prop :=
  ∀ (t : Time) (keep : Byte) (s : State), ready s → eventEndInv s → routeInv s → ceilingInv s →
    let away := fun code => turnsAway (.routeCut t [keep]) t 3#8 code [] s
    (s.running = false → away .badState) ∧
    (s.running = true → s.isCarrier = false → away .wrongClass) ∧
    (s.running = true → s.isCarrier = true →
      (s.route.cells = [] → away .badState) ∧
      (s.route.cells ≠ [] →
        ∀ last, (∀ e ∈ s.window.entries, e.state = .held → e.committed = true →
            ∀ k, lastNeeding e.zone s.route.cells = some k → k ≤ last) →
          (last = 0 ∨ ∃ e ∈ s.window.entries, e.state = .held ∧ e.committed = true ∧
            lastNeeding e.zone s.route.cells = some last) →
          let kept := min (max keep.toNat (max s.front last)) s.route.cells.length
          (kept = s.route.cells.length →
            exec (.routeCut t [keep]) s = .next (answered 3#8 (.accept [byteOf kept]) (received t s))) ∧
          (kept < s.route.cells.length →
            ∃ u, exec (.routeCut t [keep]) s = .next u ∧ u.now = max s.now t ∧
              u.route.cells = s.route.cells.take kept ∧ u.odo = s.odo ∧ u.station = s.station ∧
              (∀ e ∈ s.window.entries, e.state = .held → e.committed = true →
                ∃ e' ∈ u.window.entries, e'.zone = e.zone ∧ e'.state = .held ∧ e'.committed = true ∧
                  e'.wait = e.wait) ∧
              u.auth.ceiling ≤ s.auth.ceiling ∧ u.auth.horizon ≤ hZone u ∧ profilesKept s u ∧ tableKept s u ∧
              radioKept s u ∧ portKept (received t s) u ∧ u.window.standing = s.window.standing ∧
              answers s u 3#8 (.accept [byteOf kept]))))

/-- PROCEED: refused as R17 says, or UNKNOWN_CELL; otherwise the first cell from the front cell on with the identifier,
a stop point and a clear mark gets its mark, and nothing else changes. -/
def Obligations.Proceed : Prop :=
  ∀ (t : Time) (hi lo : Byte) (s : State), ready s → eventEndInv s →
    let away := fun code => turnsAway (.proceed t [hi, lo]) t 4#8 code [] s
    let named := fun (p : Nat) => s.front ≤ p ∧ 1 ≤ p ∧ ∃ c, s.route.cells[p - 1]? = some c ∧
      c.cell.ident = hi.toNat * 256 + lo.toNat ∧ c.cell.stop ≠ none ∧ c.released = false
    (s.running = false → away .badState) ∧
    (s.running = true → s.isCarrier = false → away .wrongClass) ∧
    (s.running = true → s.isCarrier = true →
      ((∀ p, ¬named p) → away .unknownCell) ∧
      ∀ p, named p → (∀ q, named q → p ≤ q) →
        exec (.proceed t [hi, lo]) s = .next (answered 4#8 (.accept [hi, lo, byteOf p])
          { received t s with route := ⟨s.route.cells.modify (p - 1) (fun c => { c with released := true })⟩ }))

/-! ### Load commands -/

/-- LOAD_STATE by R103's table: an accepted index becomes the pending index, and nothing else changes. PROFILE_SET by
R104's table: in PARKED each field is limited to its range, the named profile is overwritten, the reply carries what is
stored, and nothing else changes. -/
def Obligations.LoadCommands : Prop :=
  (∀ (t : Time) (payload : List Byte) (s : State), ready s → eventEndInv s →
    let away := fun code => turnsAway (.loadState t payload) t 5#8 code [] s
    (s.running = false → away .badState) ∧
    (s.running = true → s.isCarrier = false → away .wrongClass) ∧
    (s.running = true → s.isCarrier = true →
      ((∀ ix : LoadIndex, payload ≠ [byteOf ix.code]) → away .badLength) ∧
      ∀ ix : LoadIndex, payload = [byteOf ix.code] →
        exec (.loadState t payload) s = .next (answered 5#8 (.accept [byteOf ix.code])
          { received t s with auth := { s.auth with pendingIx := some ix } }))) ∧
  ∀ (t : Time) (payload : List Byte) (s : State), ready s → eventEndInv s →
    let away := fun code => turnsAway (.profileSet t payload) t 6#8 code [] s
    (s.running = false → away .badState) ∧
    (s.running = true → s.isCarrier = false → away .wrongClass) ∧
    (s.running = true → s.isCarrier = true →
      (payload.length ≠ 13 ∨ 2 < (payload.headD 0).toNat → away .badLength) ∧
      ∀ (ix : LoadIndex) (p : Profile),
        p.cap < 65536 → p.decel < 65536 → p.rise < 65536 → p.margin < 65536 → p.reaction < 65536 → p.leadExtra < 65536 →
        payload = profileRecord ix p →
        (s.station.state ≠ .parked → away .notParked) ∧
        (s.station.state = .parked →
          let stored : Profile :=
            ⟨max 500 (min p.cap 8000), max 200 (min p.decel 3000), max 100 (min p.rise 2000),
              max 500 (min p.margin 5000), max 50 (min p.reaction 1000), min p.leadExtra 30000⟩
          exec (.profileSet t payload) s = .next (answered 6#8 (.accept (profileRecord ix stored))
            { received t s with auth := { s.auth with profiles :=
              match ix with
              | .unladen => { s.auth.profiles with unladen := stored }
              | .laden => { s.auth.profiles with laden := stored }
              | .ladenHigh => { s.auth.profiles with ladenHigh := stored } } })))

/-! ### Station commands -/

/-- PARK: refused outside ACTIVE and, on a carrier, before standstill. On a carrier the ceiling is 0 and the word 0 sent,
the zones of no occupied cell are given up (HELD ones RELEASING, unheld ones withdrawn, RELEASING ones untouched), HELD
zones of occupied cells stay, the beacons go to the parked spacing, and the STOP causes stay. -/
def Obligations.ParkCarrier : Prop :=
  ∀ (t : Time) (s : State), ready s → eventEndInv s → windowFits s.window →
    (s.station.state ≠ .active → turnsAway (.park t []) t 7#8 .badState [] s) ∧
    (s.station.state = .active → s.isCarrier = true → s.station.standstill ≠ 50 →
      turnsAway (.park t []) t 7#8 .notStopped [] s) ∧
    (s.station.state = .active → s.isCarrier = true → s.station.standstill = 50 →
      ∃ u, exec (.park t []) s = .next u ∧ u.now = max s.now t ∧ u.station = { s.station with state := .parked } ∧
        u.route = s.route ∧ u.odo = s.odo ∧ u.auth.ceiling = 0 ∧ u.auth.previous = 0 ∧ wordSent s u 0 ∧
        u.auth.causes = s.auth.causes ∧ u.auth.overrun = s.auth.overrun ∧ u.stopLine = s.stopLine ∧
        u.auth.horizon ≤ s.auth.horizon ∧ profilesKept s u ∧ tableKept s u ∧
        (∀ e ∈ s.window.entries, isOccupied s e.zone = true → e.state = .held → e ∈ u.window.entries) ∧
        (∀ e ∈ s.window.entries, e.state = .releasing → e ∈ u.window.entries) ∧
        (∀ e ∈ s.window.entries, isOccupied s e.zone = false → e.state = .held →
          { e with state := .releasing, committed := false, released := 0 } ∈ u.window.entries) ∧
        (∀ e ∈ s.window.entries, isOccupied s e.zone = false → e.unheld = true → e.zone ∉ windowZones u) ∧
        u.window.standing = s.window.standing ∧ u.window.conflicts = s.window.conflicts ∧
        u.radio = { s.radio with
          parkedSpacing := true, next := u.radio.next, placementOpen := u.radio.placementOpen, gen := u.radio.gen
          slot := u.radio.slot } ∧
        (∀ l, s.radio.last = some l → u.radio.next = some (l + 8 * s.period * 1000)) ∧
        u.port.statusAt = some (max s.now t + 1000000) ∧ reportComing u ∧ answers s u 7#8 (.accept []))

/-- STAND_RELEASE by R150, and PARK on a FIXED station: the list is emptied, HELD entries enter RELEASING, unheld ones
are withdrawn, RELEASING ones and the conflict list stay, and the hold-off line is asserted, with its notice when it was
released. -/
def Obligations.StandingClaimsGivenUp : Prop :=
  ∀ (t : Time) (s : State), ready s → eventEndInv s → windowFits s.window →
    (s.running = false → turnsAway (.standRelease t []) t 0x0C#8 .badState [] s) ∧
    (s.running = true → s.isCarrier = true → turnsAway (.standRelease t []) t 0x0C#8 .wrongClass [] s) ∧
    (s.running = true → s.isCarrier = false →
      let givenUp : Window := { s.window with
        standing := []
        entries := (s.window.entries.filter (fun e => !e.unheld)).map (fun e =>
          if e.state = .held then { e with state := .releasing, committed := false, released := 0 } else e) }
      (∃ u, exec (.standRelease t []) s = .next u ∧ u.now = max s.now t ∧ u.window = givenUp ∧
        u.station = s.station ∧ u.route = s.route ∧ u.odo = s.odo ∧ u.auth = s.auth ∧ tableKept s u ∧
        ((∃ e ∈ s.window.entries, e.state = .held) → u.radio = (urgentRequest (s.reach t)).radio) ∧
        ((∀ e ∈ s.window.entries, e.state ≠ .held) → u.radio = s.radio) ∧ u.stopLine = true ∧
        (s.stopLine = false → noticeGiven s u (.holdOff .released 0 0)) ∧ portKept (received t s) u ∧
        answers s u 0x0C#8 (.accept [byteOf s.window.standing.length])) ∧
      (s.station.state = .active →
        ∃ u, exec (.park t []) s = .next u ∧ u.now = max s.now t ∧ u.window = givenUp ∧
          u.station = { s.station with state := .parked } ∧ u.route = s.route ∧ u.odo = s.odo ∧ u.auth = s.auth ∧
          tableKept s u ∧ u.radio.parkedSpacing = true ∧
          (∀ l, s.radio.last = some l → u.radio.next = some (l + 8 * s.period * 1000)) ∧ u.stopLine = true ∧
          (s.stopLine = false → noticeGiven s u (.holdOff .state 0 0)) ∧
          u.port.statusAt = some (max s.now t + 1000000) ∧ reportComing u ∧ answers s u 7#8 (.accept [])))

/-- UNPARK: refused outside PARKED; otherwise the station enters ACTIVE, the beacons return to the spacing P in phase, and
on a carrier a tick is made whose ceiling is at most one rise step. A placement point that is not ahead is made here, and
a beacon due at once may start, before the window takes the change (log 20), at a channel-clear level that is free
(log 21). The listing test comes before the tick (log 34). -/
def Obligations.Unpark : Prop :=
  ∀ (t : Time) (s : State), ready s → eventEndInv s → ceilingInv s → windowFits s.window →
    (s.station.state ≠ .parked → turnsAway (.unpark t []) t 8#8 .badState [] s) ∧
    (s.station.state = .parked →
      ∃ u, exec (.unpark t []) s = .next u ∧ u.now = max s.now t ∧
        u.station = { s.station with state := .active, listen := .stopped } ∧ u.route = s.route ∧ u.odo = s.odo ∧
        u.auth.outputAt = max s.now t + 50000 ∧ u.port.statusAt = some (max s.now t + 200000) ∧ reportComing u ∧
        tableKept s u ∧
        u.radio = { s.radio with
          parkedSpacing := false, next := u.radio.next, placementOpen := u.radio.placementOpen, gen := u.radio.gen
          slot := u.radio.slot, samples := u.radio.samples, seq := u.radio.seq, tx := u.radio.tx, rx := u.radio.rx
          rxGap := u.radio.rxGap } ∧
        ((u.radio.seq = s.radio.seq ∧ u.radio.tx = s.radio.tx ∧ u.radio.rx = s.radio.rx ∧
            u.radio.rxGap = s.radio.rxGap) ∨
          (s.radio.tx = none ∧ s.radio.slot = none ∧ Config.channelClear s.radio.samples = true ∧
            u.radio.seq = (s.radio.seq + 1) % 65536 ∧ u.radio.rx = .hunt ∧ u.radio.rxGap = none ∧
            ∃ x, u.radio.tx = some x ∧ x.phase = .sending ∧
              x.endsAt = max s.now t + 2000 + (9 + 3 * x.content.length) * 250)) ∧
        (∀ n, s.radio.last ≠ none → u.radio.next = some n → u.radio.placementOpen = true →
          max s.now t + s.period * 250 < n) ∧
        (∀ l, s.radio.last = some l → l ≤ max s.now t →
          ∃ n k, u.radio.next = some n ∧ 1 ≤ k ∧ n = l + k * (s.period * 1000) ∧ max s.now t < n ∧
            n ≤ max s.now t + s.period * 1000) ∧
        (s.isCarrier = true →
          u.auth.active = s.auth.pendingIx.getD s.auth.active ∧ u.auth.pendingIx = none ∧
          u.auth.horizon = grantedHorizon u ∧ u.auth.ceiling ≤ u.profile.rise * 50 / 1000 ∧
          wordSent s u u.auth.ceiling ∧ ∀ z, isHeld s z = true → isHeld u z = true) ∧
        (s.isCarrier = false →
          u.window = { s.window with entries := u.window.entries } ∧
          u.window.entries.map (fun e => { e with air := .none }) =
            s.window.entries.map (fun e => { e with air := .none }) ∧
          u.auth = { s.auth with outputAt := max s.now t + 50000 }) ∧
        answers s u 8#8 (.accept []))

/-- STATUS_QUERY is refused in BOOT and otherwise sets report pending; RESTART is accepted in every state and sets restart
pending. Nothing else changes. -/
def Obligations.StatusQueryAndRestart : Prop :=
  ∀ (t : Time) (s : State), ready s → eventEndInv s →
    (s.station.state = .boot → turnsAway (.statusQuery t []) t 0x0E#8 .badState [] s) ∧
    (s.station.state ≠ .boot →
      exec (.statusQuery t []) s = .next (answered 0x0E#8 (.accept [])
        { received t s with port := { (received t s).port with reportPending := true } })) ∧
    exec (.restart t []) s = .next (answered 0x0F#8 (.accept [])
      { received t s with port := { (received t s).port with restartPending := true } })

/-! ### Claim commands -/

/-- RESUME by R78's table. An accepted one empties the conflict list and clears its cause, and clears OVERRUN when s does
not exceed the horizon; the line takes the level of what still stands, with GRANT when a hold-off line is released. -/
def Obligations.Resume : Prop :=
  ∀ (t : Time) (s : State), ready s → eventEndInv s →
    let away := fun code q => turnsAway (.resume t []) t 9#8 code q s
    (s.running = false → away .badState []) ∧
    (s.running = true →
      (s.window.conflicts = [] → s.auth.overrun = false → away .notConflict []) ∧
      (s.window.conflicts ≠ [] ∨ s.auth.overrun = true →
        (∀ before r after n, s.window.conflicts = before ++ r :: after →
          (∀ b ∈ before, ∀ p ∈ s.table.peers, p.holds b.zone = false) → lowestHolding r.zone n s →
          r.zone < 65536 → n < 65536 → away .stillConflict (beBytes 2 r.zone ++ beBytes 2 n)) ∧
        ((∀ r ∈ s.window.conflicts, ∀ p ∈ s.table.peers, p.holds r.zone = false) →
          let stays := s.auth.overrun && decide (s.auth.horizon < s.s)
          let after : State := { received t s with
            window := { s.window with conflicts := [] }
            auth := { s.auth with
              overrun := stays
              causes := { s.auth.causes with
                conflict := false, overrun := s.auth.causes.overrun && decide (s.auth.horizon < s.s) } } }
          (s.isCarrier = true →
            let up := after.auth.causes.any
            exec (.resume t []) s = .next (answered 9#8 (.accept [stopByte after]) { after with stopLine := up })) ∧
          (s.isCarrier = false →
            ∃ u, exec (.resume t []) s = .next u ∧ u.now = after.now ∧ u.station = s.station ∧ u.route = s.route ∧
              u.window = after.window ∧ u.odo = s.odo ∧ u.auth = after.auth ∧ u.radio = s.radio ∧ u.table = s.table ∧
              u.stopLine = holdOffAsserted after ∧
              (s.stopLine = true → u.stopLine = false → noticeGiven s u (.grant s.window.standing.length)) ∧
              portKept (received t s) u ∧ answers s u 9#8 (.accept [stopByte after])))))

/-- YIELD_ZONE by R41's table. A HELD zone of no occupied cell enters RELEASING with its mark clear, an urgent beacon is
requested, a DOUBLE_HOLD notice carries station 0, and the horizon and ceiling are recomputed at once (at every release:
log 11). That the notice is given whenever fewer than 16 wait rests on its coming before the recompute (log 16). -/
def Obligations.YieldZone : Prop :=
  ∀ (t : Time) (hi lo : Byte) (s : State), ready s → eventEndInv s → windowFits s.window → ceilingInv s →
    let z := hi.toNat * 256 + lo.toNat
    let away := fun code => turnsAway (.yieldZone t [hi, lo]) t 0x0A#8 code [] s
    (s.running = false → away .badState) ∧
    (s.running = true → s.isCarrier = false → away .wrongClass) ∧
    (s.running = true → s.isCarrier = true →
      (z ∉ windowZones s → away .unknownZone) ∧
      ∀ e ∈ s.window.entries, e.zone = z →
        (e.state = .held → isOccupied s z = true → away .occupied) ∧
        (e.unheld = true → away .notGranted) ∧
        (e.state = .releasing →
          exec (.yieldZone t [hi, lo]) s = .next (answered 0x0A#8 (.accept []) (received t s))) ∧
        (e.state = .held → isOccupied s z = false →
          ∃ u, exec (.yieldZone t [hi, lo]) s = .next u ∧ u.now = max s.now t ∧ u.station = s.station ∧
            u.route = s.route ∧ u.odo = s.odo ∧
            { e with state := .releasing, committed := false, released := 0 } ∈ u.window.entries ∧
            (∀ y, y ≠ z → isHeld s y = true → isHeld u y = true) ∧
            u.radio = (urgentRequest (s.reach t)).radio ∧ noticeGiven s u (.doubleHold z 0) ∧
            u.auth.ceiling ≤ s.auth.ceiling ∧
            (u.auth.overrun = s.auth.overrun → u.auth.horizon = min s.auth.horizon (grantedHorizon u)) ∧
            profilesKept s u ∧ tableKept s u ∧ portKept (received t s) u ∧ answers s u 0x0A#8 (.accept [])))

/-- STAND_CLAIM by R147's table. An accepted one writes the list and makes one entry for each record, in list order,
announced from wait 0 with a fresh settle timer, and WAITING at once where a blocker stands. -/
def Obligations.StandClaim : Prop :=
  ∀ (t : Time) (payload : List Byte) (s : State), ready s → eventEndInv s →
    let away := fun code => turnsAway (.standClaim t payload) t 0x0B#8 code [] s
    (s.running = false → away .badState) ∧
    (s.running = true → s.isCarrier = true → away .wrongClass) ∧
    (s.running = true → s.isCarrier = false →
      (parseStanding payload = none → away .badLength) ∧
      ∀ rs, parseStanding payload = some rs →
        (s.station.state ≠ .active → away .badState) ∧
        (s.station.state = .active → s.window.entries ≠ [] → away .badState) ∧
        (s.station.state = .active → s.window.entries = [] →
          let now := max s.now t
          let fresh := fun (r : Standing) => ({
            zone := r.zone, state := .announced, first := none, last := none, urgency := r.urgency, wait := 0
            carried := 0, settle := .running (now + settleLength s), announce := 0, committed := false, released := 0
            blockedSince := none, gridlock := false, air := .none } : ClaimEntry)
          let blocked := fun (r : Standing) => { fresh r with
            state := .waiting, settle := .stopped
            blockedSince := if holdStands s r.zone then some now else none }
          ∃ u, exec (.standClaim t payload) s = .next u ∧ u.now = now ∧ u.station = s.station ∧ u.route = s.route ∧
            u.odo = s.odo ∧ u.auth = s.auth ∧ tableKept s u ∧
            u.window = { s.window with
              standing := rs
              entries := rs.map (fun r => if isBlocked s (fresh r) then blocked r else fresh r) } ∧
            u.radio = (urgentRequest (s.reach t)).radio ∧ u.stopLine = s.stopLine ∧
            portKept (received t s) u ∧ answers s u 0x0B#8 (.accept [byteOf rs.length])))

/-- COMMIT by R149's table: with every standing claim HELD, the marks of their entries are set; an urgent beacon is
requested when one was newly set, and nothing else changes. -/
def Obligations.Commit : Prop :=
  ∀ (t : Time) (s : State), ready s → eventEndInv s →
    let away := fun code => turnsAway (.commit t []) t 0x0D#8 code [] s
    let standing := fun (e : ClaimEntry) => e.state = .held ∧ e.zone ∈ s.window.standing.map Standing.zone
    (s.running = false → away .badState) ∧
    (s.running = true → s.isCarrier = true → away .wrongClass) ∧
    (s.running = true → s.isCarrier = false →
      (s.window.standing = [] → away .notGranted) ∧
      (∀ r ∈ s.window.standing, isHeld s r.zone = false → away .notGranted) ∧
      (s.window.standing ≠ [] → (∀ r ∈ s.window.standing, isHeld s r.zone = true) →
        let marked : State := { received t s with window := { s.window with
          entries := s.window.entries.map (fun e => if standing e then { e with committed := true } else e) } }
        let reply := Answer.accept [byteOf s.window.standing.length]
        ((∃ e ∈ s.window.entries, standing e ∧ e.committed = false) →
          exec (.commit t []) s = .next (answered 0x0D#8 reply
            { marked with radio := (urgentRequest (s.reach t)).radio })) ∧
        ((∀ e ∈ s.window.entries, standing e → e.committed = true) →
          exec (.commit t []) s = .next (answered 0x0D#8 reply (received t s)))))

/-! ### The equipment port's lines -/

/-- Bad messages: a wrong CRC, a length byte above 250 and a gap of 5 ms inside a message each count one bad message,
give no reply and leave the assembler in HUNT; bytes outside a message, and every byte while a restart is pending, change
nothing. That the bytes of one chunk all arrive at its time t, the gap then running out at t + 5 ms, and that a BAD_MESSAGE
may carry bytes that make no bad message, is the model's reading of the rows (log 7). -/
def Obligations.BadMessagesAreCounted : Prop :=
  ∀ (t : Time) (s : State), s.station.held = false → eventEndInv s →
    let counted : State := { s.reach t with port := { s.port with
      inbound := .hunt, inGap := none
      counters := { s.port.counters with portBad := min (s.port.counters.portBad + 1) 65535 } } }
    (s.port.restartPending = true → ∀ bytes, exec (.badMessage t bytes) s = .next (s.reach t)) ∧
    (s.port.restartPending = false → s.port.inbound = .hunt →
      (∀ bytes : List Byte, 0xC3#8 ∉ bytes → exec (.badMessage t bytes) s = .next (s.reach t)) ∧
      (∀ (kind : Byte) (payload check : List Byte), payload.length ≤ 250 → check.length = 2 →
        check ≠ crcBytes (kind :: byteOf payload.length :: payload) →
        exec (.badMessage t (0xC3#8 :: kind :: byteOf payload.length :: (payload ++ check))) s = .next counted) ∧
      (∀ kind len : Byte, 250 < len.toNat → exec (.badMessage t [0xC3#8, kind, len]) s = .next counted) ∧
      ∀ (kind len : Byte) (got : List Byte), len.toNat ≤ 250 → got.length < len.toNat + 2 →
        ∀ part ∈ [[0xC3#8], [0xC3#8, kind], 0xC3#8 :: kind :: len :: got],
          exec (.inboundGapTimeout t part) s = .next { counted with now := max s.now t + 5000 }) ∧
    (s.port.inbound ≠ .hunt → ∀ g, s.port.inGap = some g →
      exec (.inboundGapTimeout t []) s = .next { counted with now := max (max s.now t) g })

/-- The completion of a message frees the outbound line, and the next message starts by R164's table: the oldest reply;
none while a restart is pending; the oldest notice; a pending status report, which takes its content and clears the
dropped flag. A message of L payload bytes takes (L + 5) × 40 µs. -/
def Obligations.OutboundArbitration : Prop :=
  ∀ (s : State) (m : OutMessage), s.port.out = some m → (∀ p, m.content ≠ .reply ⟨0x0F#8, .accept p⟩) → eventEndInv s →
    let v : State := { s.reach m.endsAt with port := { s.port with out := none } }
    let sends := fun (content : OutContent) (kind : Byte) (payload : List Byte) (port : Port) =>
      exec .outboundMessageComplete s = .next { v with port := { port with
        out := some ⟨content, envelope kind payload, v.now + (payload.length + 5) * 40⟩ } }
    (∀ r rs, s.port.replies = r :: rs → sends (.reply r) 0x81#8 r.payload { s.port with replies := rs }) ∧
    (s.port.replies = [] →
      (s.port.restartPending = true → exec .outboundMessageComplete s = .next v) ∧
      (s.port.restartPending = false →
        (∀ n ns, s.port.notices = n :: ns → sends (.notice n) 0x83#8 n.payload { s.port with notices := ns }) ∧
        (s.port.notices = [] →
          (s.port.reportPending = true →
            sends .status 0x82#8 (statusPayload v) { s.port with reportPending := false, dropped := false }) ∧
          (s.port.reportPending = false → exec .outboundMessageComplete s = .next v))))

/-- The status timer runs out: report pending is set and the timer runs again with the period of the state, 200 ms in
ACTIVE and 1,000 ms otherwise (from its own expiry time: log 26); on a free line the report starts. -/
def Obligations.StatusTimer : Prop :=
  ∀ (s : State) (d : Time), s.station.held = false → s.port.statusAt = some d → eventEndInv s →
    let next := d + if s.station.state = .active then 200000 else 1000000
    (s.port.out.isSome = true ∨ s.port.restartPending = true →
      exec .statusTimerExpiry s =
        .next { s.reach d with port := { s.port with statusAt := some next, reportPending := true } }) ∧
    (s.port.out = none → s.port.restartPending = false →
      exec .statusTimerExpiry s = .next { s.reach d with port := { s.port with
        statusAt := some next, reportPending := false, dropped := false
        out := some ⟨.status, envelope 0x82#8 (statusPayload (s.reach d)),
          max s.now d + ((statusPayload s).length + 5) * 40⟩ } })

/-- The bytes of a message in its envelope, arriving on the inbound line, are the command they spell: the byte assembler
and the command rows of the table agree. Bytes that follow in the same chunk find the part as that command's own event
leaves it, its reply started on a free line. That a BAD_MESSAGE may carry the bytes of a good message, and that all bytes
of a chunk arrive at its time, is the model's reading of the rows (log 7). -/
def Obligations.MessageBytesAreTheCommand : Prop :=
  ∀ (t : Time) (kind : Byte) (payload rest : List Byte) (c : Instr) (s : State),
    commandOf kind.toNat t payload = some c ∨
      (c = .nonCommandMessage t kind payload ∧ ¬(1 ≤ kind.toNat ∧ kind.toNat ≤ 15)) →
    payload.length ≤ 250 → s.port.inbound = .hunt → s.port.restartPending = false → eventEndInv s →
    exec (.badMessage t (envelope kind payload)) s = exec c s ∧
    ∃ v, exec c s = .next v ∧
      exec (.badMessage t (envelope kind payload ++ rest)) s = exec (.badMessage t rest) v ∧
      exec (.inboundGapTimeout t (envelope kind payload ++ rest)) s = exec (.inboundGapTimeout t rest) v

/-! ### Motion -/

/-- An odometry sample: each channel in use is scaled with its remainder, the increments combined, the result applied to
the position, the travel reading, the distance since the marker and the history, the speed and the standstill count
taken; then every rear cell the carrier has passed leaves, and each removal shifts every route distance by its length: the
boundaries, s, the last marker's position and the granted horizon, which a release in the same event may lower further
(at every release: log 11). The next sample comes 20 ms after this one (log 26). -/
def Obligations.OdometrySample : Prop :=
  ∀ (pulsesA pulsesB : Nat) (s : State) (d : Time) (w : ConfigWord),
    s.station.held = false → s.isCarrier = true → s.running = true → s.station.cfg = some w → s.odo.nextSample = some d →
    let product := fun (p : Nat) (c : ChannelState) => min p 65535 * 1000 * w.num * s.odo.trim + c.remainder
    let a := product pulsesA s.odo.chA / (w.den * 65536)
    let b := product pulsesB s.odo.chB / (w.den * 65536)
    let d' : Nat := match s.odo.mode with
      | .dual => if max 10000 (max a b / 8) < max a b - min a b then min a b else (a + b) / 2
      | .aOnly => a
      | .bOnly => b
    ∃ u k, exec (.odometrySample pulsesA pulsesB) s = .next u ∧ u.now = max s.now d ∧
      (let history := s.odo.history.drop 1 ++ [d']
       let speed := min (history.sum / 1000 * 5) 10000
       let gone := ((s.route.cells.take k).map (fun c => c.cell.length)).sum
       u.odo.travel = (s.odo.travel + d') % 2 ^ 48 ∧ u.odo.since = min (s.odo.since + d') 1000000000 ∧
       u.odo.history = history ∧ u.odo.vmeas = speed ∧ u.odo.trim = s.odo.trim ∧ u.odo.rejects = s.odo.rejects ∧
       u.odo.chA.remainder = (if s.odo.mode = .bOnly then s.odo.chA.remainder
         else product pulsesA s.odo.chA % (w.den * 65536)) ∧
       u.odo.chB.remainder = (if s.odo.mode = .aOnly then s.odo.chB.remainder
         else product pulsesB s.odo.chB % (w.den * 65536)) ∧
       u.odo.nextSample = some (d + 20000) ∧
       u.station = { s.station with standstill := if speed = 0 then min (s.station.standstill + 1) 50 else 0 } ∧
       u.odo.pos = s.odo.pos + d' - gone * 1000 ∧
       u.odo.lastMarker = s.odo.lastMarker.map (fun m => { m with surveyed := m.surveyed - gone }) ∧
       u.route.cells = (s.route.cells.drop k).map (fun c => { c with entry := c.entry - gone }) ∧
       (u.auth.overrun = s.auth.overrun → u.auth.horizon ≤ s.auth.horizon - gone) ∧
       (k ≤ 1 → s.station.state ≠ .listen →
         (∀ e ∈ s.window.entries, e.state = .held → isNeeded e.zone u.route.cells = true) →
         u.auth.horizon = s.auth.horizon - gone) ∧
       (k ≠ 0 → k < s.route.cells.length) ∧
       (∀ j < k, (((s.route.cells.take (j + 1)).map (fun c => c.cell.length)).sum : Int) <
         (s.odo.pos + d') / 1000 - s.carrierLength) ∧
       (2 ≤ u.route.cells.length → ∀ c, u.route.cells.head? = some c → u.s - s.carrierLength ≤ c.cell.length) ∧
       tableKept s u ∧ radioKept s u ∧ profilesKept s u ∧ portKept s u)

/-- The judgements of a sample. In DUAL: slip with its notice at its first sample, the silent runs and partner distances,
the failed channel with its notice and the single mode; in A_ONLY and B_ONLY these stay as they are. In every mode: the
grade by the distance since the marker, LOST before DOUBT, with the ceiling limited to 300 on entry into LOST. -/
def Obligations.SampleJudgements : Prop :=
  ∀ (pulsesA pulsesB : Nat) (s : State) (d : Time) (w : ConfigWord),
    s.station.held = false → s.isCarrier = true → s.running = true → s.station.cfg = some w → s.odo.nextSample = some d →
    s.port.notices.length ≤ 12 → ceilingInv s →
    let dual := decide (s.odo.mode = .dual)
    let inc := fun (p : Nat) (c : ChannelState) =>
      (min p 65535 * 1000 * w.num * s.odo.trim + c.remainder) / (w.den * 65536)
    let a := inc pulsesA s.odo.chA
    let b := inc pulsesB s.odo.chB
    let slips := dual && decide (max 10000 (max a b / 8) < max a b - min a b)
    let d' : Nat := match s.odo.mode with
      | .dual => if slips then min a b else (a + b) / 2
      | .aOnly => a
      | .bOnly => b
    let silent := fun (p : Nat) (c : ChannelState) => if p = 0 then min (c.silent + 1) 65535 else 0
    let partner := fun (p other : Nat) (c : ChannelState) => if p = 0 then min (c.partner + other) 4294967295 else 0
    let dead := fun (p other : Nat) (c : ChannelState) =>
      dual && decide (100 ≤ silent p c) && decide (500000 < partner p other c)
    let deadA := dead pulsesA b s.odo.chA
    let deadB := dead pulsesB a s.odo.chB && !deadA
    let far := min (s.odo.since + d') 1000000000
    ∃ u, exec (.odometrySample pulsesA pulsesB) s = .next u ∧
      (dual = true →
        u.odo.chA.silent = silent pulsesA s.odo.chA ∧ u.odo.chA.partner = partner pulsesA b s.odo.chA ∧
        u.odo.chB.silent = silent pulsesB s.odo.chB ∧ u.odo.chB.partner = partner pulsesB a s.odo.chB ∧
        u.odo.slip = (slips && !deadA && !deadB)) ∧
      (dual = false →
        u.odo.chA = { s.odo.chA with remainder := u.odo.chA.remainder } ∧
        u.odo.chB = { s.odo.chB with remainder := u.odo.chB.remainder } ∧ u.odo.slip = s.odo.slip) ∧
      u.odo.chA.failed = (s.odo.chA.failed || deadA) ∧ u.odo.chB.failed = (s.odo.chB.failed || deadB) ∧
      u.odo.mode = (if deadA then .bOnly else if deadB then .aOnly else s.odo.mode) ∧
      u.odo.slipSeen = (s.odo.slipSeen || slips || deadA || deadB) ∧
      (slips = true → s.odo.slip = false →
        noticeGiven s u (.slip (if b < a then .a else .b) ((max a b - min a b) / 1000))) ∧
      (deadA = true → noticeGiven s u (.channelFail .a)) ∧ (deadB = true → noticeGiven s u (.channelFail .b)) ∧
      u.odo.quality = (if 80000000 < far then .lost
        else if s.odo.quality = .good ∧ (40000000 < far ∨ deadA = true ∨ deadB = true) then .doubt
        else s.odo.quality) ∧
      (80000000 < far → s.odo.quality ≠ .lost →
        noticeGiven s u (.positionLost ((s.odo.pos + d') / 1000)) ∧ u.auth.ceiling ≤ 300) ∧
      (40000000 < far → far ≤ 80000000 → s.odo.quality = .good → deadA = false → deadB = false →
        noticeGiven s u (.positionDoubt .distance ((s.odo.pos + d') / 1000)))

/-- A marker arrival: a stray is counted and changes nothing else; the matched marker is the one nearest the reader
estimate, the lower of two equally near; within the window it corrects the position by at most 300 mm, may move the trim
a quarter of the way (at most 256), writes the record and makes the grade GOOD; outside the window it is rejected with
its notice, and the second rejection takes GOOD to DOUBT. -/
def Obligations.MarkerArrivals : Prop :=
  ∀ (t : Time) (ident pulsesA pulsesB : Nat) (s : State) (w : ConfigWord),
    s.station.held = false → s.isCarrier = true → s.running = true → s.station.cfg = some w → eventEndInv s → routeLaid s →
    let inc := fun (p : Nat) (c : ChannelState) =>
      (min p 65535 * 1000 * w.num * s.odo.trim + c.remainder) / (w.den * 65536)
    let a := inc pulsesA s.odo.chA
    let b := inc pulsesB s.odo.chB
    let part : Nat := match s.odo.mode with
      | .dual => if max 10000 (max a b / 8) < max a b - min a b then min a b else (a + b) / 2
      | .aOnly => a
      | .bOnly => b
    let estimate : Int := (s.odo.pos + part) / 1000 - 100 * (w.readerOffset : Int)
    let travel := (s.odo.travel + part) % 2 ^ 48
    let outcome := exec (.markerArrival t ident pulsesA pulsesB) s
    let kept := fun (u : State) => u.now = max s.now t ∧ u.route = s.route ∧ u.station = s.station ∧
      (s.station.state ≠ .listen → u.auth = s.auth) ∧ profilesKept s u ∧ tableKept s u ∧ radioKept s u ∧
      portKept s u
    (expectedAt ident s = [] →
      outcome = .next { s.reach t with port := { s.port with
        counters := { s.port.counters with strays := min (s.port.counters.strays + 1) 65535 } } }) ∧
    ∀ p ∈ expectedAt ident s,
      (∀ q ∈ expectedAt ident s, (p - estimate).natAbs < (q - estimate).natAbs ∨
        ((p - estimate).natAbs = (q - estimate).natAbs ∧ p ≤ q)) →
      let e := p - estimate
      let width := if s.odo.quality = .lost then 1200 else 600
      (e.natAbs ≤ width →
        let trim := match s.odo.lastMarker with
          | none => s.odo.trim
          | some m =>
            let far := p - m.surveyed
            let counted : Int := (((travel : Int) - m.travel) % 2 ^ 48) / 1000
            let delta := max (-256) (min (((s.odo.trim : Int) * (far - counted)).tdiv (4 * counted)) 256)
            if 5000 ≤ far ∧ s.odo.slipSeen = false ∧ s.odo.quality ≠ .lost then
              (max 61440 (min (s.odo.trim + delta) 69632)).toNat
            else s.odo.trim
        ∃ u, outcome = .next u ∧ kept u ∧
          u.odo = { s.odo with
            trim := trim, pos := s.odo.pos + max (-300) (min e 300) * 1000, lastMarker := some ⟨ident, p, travel⟩
            since := 0, rejects := 0, slipSeen := false, quality := .good }) ∧
      (width < e.natAbs →
        let falls := decide (1 ≤ s.odo.rejects) && decide (s.odo.quality = .good)
        let grade := if falls then Quality.doubt else s.odo.quality
        ∃ u, outcome = .next u ∧ kept u ∧
          u.odo = { s.odo with lastMarker := none, rejects := min (s.odo.rejects + 1) 2, quality := grade } ∧
          noticeGiven s u (.markerReject ident (max (-32767) (min e 32767)) grade) ∧
          (falls = true → s.port.notices.length < 15 → noticeGiven s u (.positionDoubt .rejects s.s)))

/-! ### Reception and the Neighbour Table -/

/-- Bytes from the modem while the key is released: a frame with its CRC right joins the receive queue, or is discarded and
counted at a full queue; a wrong CRC, a bad length byte and a gap of 2 ms inside a frame count one bad frame; the start
byte in place of the length starts a new frame. Under the key, and in BOOT and CONFIG_FAULT, every byte is ignored. A gap
that follows an earlier chunk runs out at the gap timer's own time. That all bytes of a chunk arrive at its time t, the gap
then running out at t + 2 ms, is the model's reading of the rows (log 7). -/
def Obligations.RadioFrames : Prop :=
  ∀ (t : Time) (s : State), s.station.held = false → eventEndInv s →
    (s.running = false ∨ s.radio.tx.isSome = true →
      ∀ bytes, exec (.radioFrameReceived t bytes) s = .next (s.reach t) ∧
        exec (.radioBadLengthByte t bytes) s = .next (s.reach t)) ∧
    (s.running = true → s.radio.tx = none → s.radio.rx = .hunt →
      let idle : Radio := { s.radio with rxGap := none }
      let bad : State := { s.reach t with
        radio := idle
        port := { s.port with
          counters := { s.port.counters with radioBad := min (s.port.counters.radioBad + 1) 65535 } } }
      (∀ (body check : List Byte), 5 ≤ body.length → body.length ≤ 29 → check.length = 2 →
        let covered := byteOf body.length :: body
        let outcome := exec (.radioFrameReceived t (0xA5#8 :: (covered ++ check))) s
        (check = crcBytes covered → s.radio.queue.length < 6 →
          outcome = .next { s.reach t with radio := { idle with queue := s.radio.queue ++ [body] } }) ∧
        (check = crcBytes covered → 6 ≤ s.radio.queue.length →
          outcome = .next { s.reach t with
            radio := idle
            port := { s.port with
              counters := { s.port.counters with queueDrops := min (s.port.counters.queueDrops + 1) 65535 } } }) ∧
        (check ≠ crcBytes covered → outcome = .next bad)) ∧
      (∀ x : Byte, ¬(5 ≤ x.toNat ∧ x.toNat ≤ 29) → x ≠ 0xA5#8 →
        exec (.radioBadLengthByte t [0xA5#8, x]) s = .next bad) ∧
      exec (.radioBadLengthByte t [0xA5#8, 0xA5#8]) s =
        .next { bad with radio := { idle with rx := .length, rxGap := some (max s.now t + 2000) } } ∧
      ∀ (len : Byte) (got : List Byte), 5 ≤ len.toNat → len.toNat ≤ 29 → got.length < len.toNat + 2 →
        ∀ part ∈ [[0xA5#8], 0xA5#8 :: len :: got],
          exec (.radioGapTimeout t part) s = .next { bad with now := max s.now t + 2000 }) ∧
    (s.running = true → s.radio.tx = none → s.radio.rx ≠ .hunt → ∀ g, s.radio.rxGap = some g →
      exec (.radioGapTimeout t []) s = .next { s with
        now := max (max s.now t) g
        radio := { s.radio with rx := .hunt, rxGap := none }
        port := { s.port with
          counters := { s.port.counters with radioBad := min (s.port.counters.radioBad + 1) 65535 } } })

/-- The taking instants at which no entry changes: an empty queue; a malformed frame, which is counted; a frame of the own
number, with its DUPLICATE_ID notice; an old beacon of a known station; an irrelevant beacon of an unknown one. The next
taking instant comes 4 ms after this one (log 26). -/
def Obligations.FramesDiscarded : Prop :=
  ∀ (s : State) (d : Time),
    s.station.held = false → s.running = true → s.table.nextTake = some d → eventEndInv s →
    let idle : State := { s.reach d with table := { s.table with nextTake := some (d + 4000) } }
    (s.radio.queue = [] → exec .takeFrame s = .next idle) ∧
    ∀ frame rest, s.radio.queue = frame :: rest →
      let taken : State := { idle with radio := { s.radio with queue := rest } }
      (parseBeacon frame = none →
        exec .takeFrame s = .next { taken with port := { s.port with
          counters := { s.port.counters with radioBad := min (s.port.counters.radioBad + 1) 65535 } } }) ∧
      ∀ b, parseBeacon frame = some b →
        (b.station = s.ownNumber →
          ∃ u, exec .takeFrame s = .next u ∧ u = { taken with port := u.port } ∧ portKept s u ∧
            noticeGiven s u (.duplicateId b.seq b.cls)) ∧
        (b.station ≠ s.ownNumber →
          (∀ p, findPeer b.station s = some p → b.fresh = false →
            ¬(1 ≤ (b.seq + 65536 - p.seq) % 65536 ∧ (b.seq + 65536 - p.seq) % 65536 ≤ 32767) →
            exec .takeFrame s = .next taken) ∧
          ((∀ p ∈ s.table.peers, p.station ≠ b.station) → (∀ c ∈ b.claims, c.zone ∉ ownZones s) →
            exec .takeFrame s = .next taken))

/-- An accepted beacon: of a known station when FRESH or newer; of an unknown station when relevant, at a free place or in
the place of the entry R57 evicts (the least recently heard STALE one that is not relevant, else the least recently
heard one that is not relevant). Its entry stands last in the last-heard order, LIVE, with its claims, and with the limit
of its period code and parked mark. A HELD zone on which the beacon carries no HOLD stays HELD. A HOLD on the zone of an
ANNOUNCED own entry sends it to WAITING (but for a zone that an OVERRUN of the same event takes); a HOLD on the zone of a
HELD one gets the double-hold test, with the outcome of R72's table. The next taking instant comes 4 ms after this one
(log 26). A frame on the air no longer counts as an announcement of an entry sent to WAITING (marked in the entry:
log 23). -/
def Obligations.BeaconAccepted : Prop :=
  ∀ (s : State) (d : Time) (frame : List Byte) (rest : List (List Byte)) (b : Beacon) (kept : List Peer),
    s.station.held = false → s.running = true → s.table.nextTake = some d → s.radio.queue = frame :: rest →
    parseBeacon frame = some b → b.station ≠ s.ownNumber → tableFits s → windowFits s.window →
    ((∃ before p after, s.table.peers = before ++ p :: after ∧ p.station = b.station ∧ kept = before ++ after ∧
        (b.fresh = true ∨ (1 ≤ (b.seq + 65536 - p.seq) % 65536 ∧ (b.seq + 65536 - p.seq) % 65536 ≤ 32767))) ∨
      ((∀ p ∈ s.table.peers, p.station ≠ b.station) ∧ (∃ c ∈ b.claims, c.zone ∈ ownZones s) ∧
        ((s.table.peers.length < 24 ∧ kept = s.table.peers) ∨
          (24 ≤ s.table.peers.length ∧ ∃ before p after, s.table.peers = before ++ p :: after ∧
            kept = before ++ after ∧ p.relevant = false ∧
            ((p.freshness = .stale ∧ ∀ q ∈ before, ¬(q.freshness = .stale ∧ q.relevant = false)) ∨
              ((∀ q ∈ s.table.peers, ¬(q.freshness = .stale ∧ q.relevant = false)) ∧
                ∀ q ∈ before, q.relevant = true)))))) →
    ∃ u, exec .takeFrame s = .next u ∧ u.now = max s.now d ∧
      (let limit := 3 * (100000 * 2 ^ b.periodCode) * (if b.parked then 8 else 1)
       let entry : Peer :=
         { station := b.station, cls := b.cls, periodCode := b.periodCode, parked := b.parked, seq := b.seq
           freshness := .live, expiry := max s.now d + limit, claims := b.claims, relevant := true }
       u.table = { s.table with
         nextTake := some (d + 4000)
         peers := (kept ++ [entry]).map (fun p => { p with relevant := touches (ownZones u) p.claims }) }) ∧
      u.radio = { s.radio with queue := rest, gen := u.radio.gen, slot := u.radio.slot } ∧ u.route = s.route ∧
      u.odo = s.odo ∧ u.station = s.station ∧ profilesKept s u ∧ portKept s u ∧
      u.window.standing = s.window.standing ∧
      (∀ z, isHeld s z = true → (∀ c ∈ b.claims, c.kind = .hold → c.zone ≠ z) → isHeld u z = true) ∧
      (∀ e ∈ s.window.entries, ∀ c ∈ b.claims, c.kind = .hold → c.zone = e.zone →
        (e.state = .announced →
          (∀ p ∈ s.table.peers, p.station = b.station → p.freshness = .live → c ∉ p.claims) →
          { e with
            state := .waiting, settle := .stopped, gridlock := false, blockedSince := some (max s.now d)
            air := e.air.uncounted } ∈ u.window.entries ∨
          (s.auth.overrun = false ∧ u.auth.overrun = true ∧ e.zone ∈ frontZones s ∧ isHeld u e.zone = true)) ∧
        (e.state = .held → e.first = firstNeeding e.zone s.route.cells →
          let own := e.committed || (s.isCarrier && commitPasses s e)
          let peerAbove := outranks c.urgency c.wait b.station e.urgency e.wait s.ownNumber
          (own = true → { e with committed := true } ∈ u.window.entries) ∧
          (own = true → c.committed = true → u.auth.causes.conflict = true) ∧
          (own = false → c.committed = false → peerAbove = false → e ∈ u.window.entries) ∧
          (own = false → c.committed = true ∨ peerAbove = true →
            { e with
              state := .waiting, settle := .stopped, announce := 0, gridlock := false
              blockedSince := some (max s.now d) } ∈ u.window.entries)))

/-- The overflow condition. A relevant beacon with no place and nothing to evict is dropped: the condition stands for
3 × P, with a notice and every requested entry WAITING when it did not stand before. When the timer runs out it clears,
and a WAITING entry without another blocker is ANNOUNCED again with a fresh settle timer. The next taking instant comes
4 ms after this one (log 26). -/
def Obligations.Overflow : Prop :=
  (∀ (s : State) (d : Time) (frame : List Byte) (rest : List (List Byte)) (b : Beacon),
    s.station.held = false → s.running = true → s.table.nextTake = some d → s.radio.queue = frame :: rest →
    parseBeacon frame = some b → b.station ≠ s.ownNumber → windowFits s.window →
    (∀ p ∈ s.table.peers, p.station ≠ b.station ∧ p.relevant = true) → (∃ c ∈ b.claims, c.zone ∈ ownZones s) →
    24 ≤ s.table.peers.length →
    ∃ u, exec .takeFrame s = .next u ∧ u.now = max s.now d ∧
      u.table.overflow = some (max s.now d + 3 * s.period * 1000) ∧ u.table.nextTake = some (d + 4000) ∧
      u.table.peers.map Peer.station = s.table.peers.map Peer.station ∧ u.radio = { s.radio with queue := rest } ∧
      u.route = s.route ∧ u.odo = s.odo ∧ u.auth = s.auth ∧ u.station = s.station ∧ portKept s u ∧
      (s.table.overflow.isSome = true → u.window = s.window) ∧
      (s.table.overflow = none →
        noticeGiven s u (.tableOverflow b.station) ∧
        ∀ e ∈ s.window.entries,
          (e.requested = true → ∃ e' ∈ u.window.entries, e'.zone = e.zone ∧ e'.state = .waiting ∧ e'.wait = e.wait) ∧
          (e.requested = false → e ∈ u.window.entries))) ∧
  ∀ (s : State) (d : Time), s.station.held = false → s.table.overflow = some d → windowFits s.window →
    ∃ u, exec .overflowClear s = .next u ∧ u.now = max s.now d ∧ u.table.overflow = none ∧
      u.route = s.route ∧ u.odo = s.odo ∧ u.auth = s.auth ∧ u.station = s.station ∧ u.radio = s.radio ∧ portKept s u ∧
      ∀ e ∈ s.window.entries,
        (e.state = .waiting → isBlocked u e = false →
          ∃ e' ∈ u.window.entries, e'.zone = e.zone ∧ e'.state = .announced ∧ e'.wait = e.wait ∧
            e'.settle = .running (max s.now d + settleLength s) ∧ e'.announce = 0) ∧
        (e.state = .waiting → isBlocked u e = true →
          ∃ e' ∈ u.window.entries, e'.zone = e.zone ∧ e'.state = .waiting ∧ e'.wait = e.wait) ∧
        (e.state ≠ .waiting → e ∈ u.window.entries)

/-- Ageing. The first expiry makes a LIVE entry STALE, its claims kept and its counter reloaded with the same limit (from
its own expiry time: log 26). The second removes the entry, with its PEER_LOST notice. In both, a WAITING own entry on a
zone handed over returns to ANNOUNCED when no blocker is left, and HELD entries stay. -/
def Obligations.PeerAgeing : Prop :=
  ∀ (n : Nat) (s : State) (p : Peer),
    s.station.held = false → findPeer n s = some p → windowFits s.window → tableFits s →
    let kept := fun (u : State) => u.now = max s.now p.expiry ∧ u.station = s.station ∧ u.route = s.route ∧
      u.odo = s.odo ∧ u.auth = s.auth ∧ radioKept s u ∧ portKept s u ∧ u.window.standing = s.window.standing ∧
      u.window.conflicts = s.window.conflicts ∧ (∀ e ∈ s.window.entries, e.state = .held → e ∈ u.window.entries)
    let returns := fun (u : State) (zones : List Nat) => ∀ e ∈ s.window.entries, e.state = .waiting →
      e.zone ∈ zones → isBlocked u e = false →
      ∃ e' ∈ u.window.entries, e'.zone = e.zone ∧ e'.state = .announced ∧ e'.wait = e.wait
    (p.freshness = .live →
      ∃ u, exec (.peerStale n) s = .next u ∧ kept u ∧
        u.table = { s.table with peers := s.table.peers.map (fun q =>
          let aged := if q.station = n then
            { q with freshness := .stale,
                     expiry := p.expiry + 3 * periodMs p.periodCode * 1000 * (if p.parked then 8 else 1) } else q
          { aged with relevant := touches (ownZones u) q.claims }) } ∧
        returns u ((p.claims.filter (fun c => c.kind = .req)).map Claim.zone)) ∧
    (p.freshness = .stale →
      ∃ u, exec (.peerLost n) s = .next u ∧ kept u ∧
        u.table = { s.table with peers := (s.table.peers.filter (fun q => q.station != n)).map (fun q =>
          { q with relevant := touches (ownZones u) q.claims }) } ∧
        noticeGiven s u (.peerLost n p.cls) ∧ returns u (p.claims.map Claim.zone))

/-! ### Claims: rank, blockers, double holds, timers -/

/-- The blockers of an own entry and the rank of two claims: overflow; a HOLD of any peer on its zone; a REQ of a LIVE peer
on its zone that outranks it by lower urgency number, then higher wait, then lower station number. Of two claims of
different stations exactly one outranks the other. -/
def Obligations.BlockersAndRank : Prop :=
  (∀ (s : State) (e : ClaimEntry), isBlocked s e = true ↔
    s.table.overflow.isSome = true ∨
      ∃ p ∈ s.table.peers, ∃ c ∈ p.claims, c.zone = e.zone ∧
        (c.kind = .hold ∨ (c.kind = .req ∧ p.freshness = .live ∧
          (c.urgency < e.urgency ∨ (c.urgency = e.urgency ∧
            (e.carried < c.wait ∨ (e.carried = c.wait ∧ p.station < s.ownNumber))))))) ∧
  ∀ u w n u' w' n' : Nat, n ≠ n' → outranks u w n u' w' n' = !outranks u' w' n' u w n

/-- The double-hold test, by R72's table, on an own HELD entry whose mark is first set if the commit test passes: both
committed, a conflict record names the zone and the peer, the cause stands and the ceiling is 0; own committed alone, or
neither and the own entry outranks, the entry keeps; otherwise it yields to WAITING with its wait kept, blocked from now,
a DOUBLE_HOLD notice and an urgent request, the horizon and ceiling recomputed at every yield (log 11). That a notice is
given whenever fewer than 16 wait rests on its coming before the recompute (log 16). -/
def Obligations.DoubleHoldOutcomes : Prop :=
  ∀ (s : State) (z n : Nat) (c : Claim) (e : ClaimEntry),
    s.running = true → windowFits s.window → ceilingInv s → findEntry z s = some e → e.state = .held →
    e.first = firstNeeding z s.route.cells →
    let v := doubleHoldTest z n c s
    let own := e.committed || (s.isCarrier && commitPasses s e)
    let peerAbove := outranks c.urgency c.wait n e.urgency e.wait s.ownNumber
    (own = true → c.committed = true →
      (∃ e' ∈ v.window.entries, e'.zone = z ∧ e'.state = .held ∧ e'.committed = true) ∧
      v.auth.causes.conflict = true ∧ v.auth.ceiling = 0 ∧
      ((∀ r ∈ s.window.conflicts, r.zone ≠ z) → s.window.conflicts.length < 8 →
        (⟨z, [n]⟩ : ConflictRecord) ∈ v.window.conflicts ∨ ∃ r ∈ v.window.conflicts, r.zone = z ∧ n ∈ r.peers) ∧
      ((∀ r ∈ s.window.conflicts, r.zone = z → n ∉ r.peers) → s.port.notices.length < 16 →
        .conflict z n ∈ v.port.notices)) ∧
    ((own = true ∧ c.committed = false) ∨ (own = false ∧ c.committed = false ∧ peerAbove = false) →
      v = { s with window := v.window, radio := v.radio } ∧
      (∃ e' ∈ v.window.entries, e' = { e with committed := own }) ∧ v.window.conflicts = s.window.conflicts) ∧
    (own = false → c.committed = true ∨ peerAbove = true →
      { e with
        state := .waiting, committed := false, settle := .stopped, announce := 0, gridlock := false
        blockedSince := some s.now } ∈ v.window.entries ∧
      v.radio = (urgentRequest s).radio ∧ (s.port.notices.length < 16 → .doubleHold z n ∈ v.port.notices) ∧
      v.auth.ceiling ≤ s.auth.ceiling ∧
      (s.isCarrier = true → v.auth.overrun = s.auth.overrun → v.auth.horizon = min s.auth.horizon (grantedHorizon v)))

/-- The listing walk. It runs on a carrier in LISTEN and ACTIVE, over the zones of the cells whose entry boundary is at
most s + lead. Each of them has an entry after it, or the window holds 8 and WINDOW_FULL stands; the condition stands after
it exactly when a zone was held back, and raising it gives one notice with the first such zone. A zone without an entry is
announced in ACTIVE, WAITING at once where a blocker stands; in LISTEN it is an occupant claim if an occupied cell names
it, and QUEUED otherwise. A RELEASING entry that no completed beacon has omitted, with no peer claim on its zone, no
overflow and every earlier entry HELD, is HELD again; one that fails any of these stays as it is (where the earlier entries
decide, this speaks of a walk that lists and revives nothing before it), as does every entry that is neither RELEASING nor
ANNOUNCED. An announcement and a revival request an urgent beacon. -/
def Obligations.ListingTest : Prop :=
  ∀ s : State, windowFits s.window →
    let u := listingTest s
    let listing := s.isCarrier = true ∧ (s.station.state = .listen ∨ s.station.state = .active)
    let walk := (s.route.cells.takeWhile (fun c => decide (c.entry ≤ s.s + lead s))).flatMap (fun c => c.cell.zones)
    let urged := u.radio.slot ≠ none ∨ ∃ l, s.radio.limiter = some l ∧ s.now < l + s.period * 250
    (¬listing → u = s) ∧
    (listing →
      (∀ z ∈ walk, z ∈ windowZones u ∨ (8 ≤ u.window.entries.length ∧ u.window.full = true)) ∧
      (u.window.full = true ↔ ∃ z ∈ walk, z ∉ windowZones u) ∧
      (s.window.full = false → ∀ z, walk.find? (fun z => decide (z ∉ windowZones u)) = some z →
        .windowFull z ∈ u.port.notices ∨ (16 ≤ u.port.notices.length ∧ u.port.dropped = true)) ∧
      (s.station.state = .active →
        u = { s with
          window := { s.window with entries := u.window.entries, full := u.window.full }
          radio := { s.radio with gen := u.radio.gen, slot := u.radio.slot }
          port := { s.port with notices := u.port.notices, dropped := u.port.dropped } } ∧
        (s.window.full = true ∨ u.window.full = false → u.port = s.port) ∧
        (s.port.notices.length < 16 → u.port.dropped = s.port.dropped)) ∧
      (∀ z ∈ walk, z ∉ windowZones s → z ∈ windowZones u →
        let queued : ClaimEntry :=
          { zone := z, state := .queued, first := firstNeeding z s.route.cells, last := lastNeeding z s.route.cells
            urgency := (needUrgency z s.route.cells).getD 0, wait := 0, carried := 0, settle := .stopped, announce := 0
            committed := false, released := 0, blockedSince := none, gridlock := false, air := .none }
        let fresh := { queued with state := .announced, settle := .running (s.now + settleLength s) }
        (s.station.state = .active →
          (isBlocked s fresh = false → fresh ∈ u.window.entries) ∧
          (isBlocked s fresh = true →
            { queued with
              state := .waiting, blockedSince := if holdStands s z then some s.now else none } ∈ u.window.entries) ∧
          urged) ∧
        (s.station.state = .listen → isOccupied s z = true →
          { queued with state := .held, committed := true } ∈ u.window.entries ∧ urged) ∧
        (s.station.state = .listen → isOccupied s z = false → queued ∈ u.window.entries)) ∧
      (∀ e ∈ s.window.entries, e.state = .releasing →
        let comes := e.released = 0 ∧ (∀ p ∈ s.table.peers, ∀ c ∈ p.claims, c.zone ≠ e.zone) ∧ s.table.overflow = none
        (¬comes ∨ e.zone ∉ walk → e ∈ u.window.entries) ∧
        (∀ before after earlier later, s.window.entries = earlier ++ e :: later → (∃ f ∈ earlier, f.state ≠ .held) →
          walk = before ++ e.zone :: after → (∀ y ∈ before, y ∈ windowZones s) →
          (∀ f ∈ s.window.entries, f.zone ∈ before → f.state ≠ .releasing) → e ∈ u.window.entries) ∧
        (∀ before after, comes → allEarlierHeld e.zone s = true → walk = before ++ e.zone :: after →
          (∀ y ∈ before, y ∈ windowZones s) → (∀ f ∈ s.window.entries, f.zone ∈ before → f.state ≠ .releasing) →
          let back := { e with
            state := .held, first := firstNeeding e.zone s.route.cells, last := lastNeeding e.zone s.route.cells
            urgency := (needUrgency e.zone s.route.cells).getD e.urgency }
          { back with committed := commitPasses s back } ∈ u.window.entries ∧ urged)) ∧
      ∀ e ∈ s.window.entries, e.state ≠ .releasing → e.state ≠ .announced → e ∈ u.window.entries)

/-- A settle timer runs out: an entry with a blocker is WAITING, one that meets every condition of R35 is HELD with its
wait frozen, committed if the commit test passes, and an urgent beacon requested; otherwise it stays ANNOUNCED and
settled. A frame on the air no longer counts as an announcement of an entry sent to WAITING (marked in the entry:
log 23). -/
def Obligations.SettleExpiry : Prop :=
  ∀ (z : Nat) (s : State) (e : ClaimEntry) (d : Time),
    s.station.held = false → findEntry z s = some e → e.state = .announced → e.settle = .running d → windowFits s.window →
    ∃ u, exec (.settleExpiry z) s = .next u ∧ u.now = max s.now d ∧ u.station = s.station ∧ u.route = s.route ∧
      u.odo = s.odo ∧ u.auth = s.auth ∧ tableKept s u ∧ portKept s u ∧ u.window.standing = s.window.standing ∧
      u.window.conflicts = s.window.conflicts ∧
      (isBlocked s e = true →
        { e with
          state := .waiting, settle := .stopped, gridlock := false
          blockedSince := if holdStands s z then some (max s.now d) else none
          air := e.air.uncounted } ∈ u.window.entries ∧
        u.radio = s.radio) ∧
      (isBlocked s e = false → e.announce = 2 → allEarlierHeld z s = true →
        { e with state := .held, settle := .expired, committed := s.isCarrier && commitPasses s e } ∈ u.window.entries ∧
        u.radio = (urgentRequest (s.reach d)).radio) ∧
      (isBlocked s e = false → e.announce ≠ 2 ∨ allEarlierHeld z s = false →
        { e with settle := .expired } ∈ u.window.entries ∧ u.radio = s.radio)

/-- 30,000 ms after blocked-since, a WAITING entry without its gridlock mark gives one GRIDLOCK notice with the lowest
station that shows HOLD on the zone, and gets the mark. -/
def Obligations.Gridlock : Prop :=
  ∀ (z n : Nat) (s : State) (e : ClaimEntry) (b : Time),
    s.station.held = false → findEntry z s = some e → e.state = .waiting → e.gridlock = false →
    e.blockedSince = some b → lowestHolding z n s → windowFits s.window → eventEndInv s →
    ∃ u, exec (.gridlock z) s = .next u ∧ u.now = max s.now (b + 30000000) ∧
      { e with gridlock := true } ∈ u.window.entries ∧ (∀ f ∈ s.window.entries, f.zone ≠ z → f ∈ u.window.entries) ∧
      noticeGiven s u (.gridlock z n) ∧ u.station = s.station ∧ u.route = s.route ∧ u.odo = s.odo ∧ u.auth = s.auth ∧
      u.table = s.table ∧ u.radio = s.radio ∧ u.stopLine = s.stopLine ∧ portKept s u

/-! ### Authority -/

/-- The effective margin, the reaction distance and the lead, and the ranges they lie in. -/
def Obligations.MarginReactionAndLead : Prop :=
  ∀ s : State,
    effectiveMargin s = (if s.odo.quality = .good then s.profile.margin else 2 * s.profile.margin) ∧
    reactionDistance s = s.odo.vmeas * s.profile.reaction / 1000 ∧
    lead s = s.profile.cap ^ 2 / (2 * s.profile.decel) + effectiveMargin s + s.profile.leadExtra ∧
    (profilesInRange s → s.odo.vmeas ≤ 10000 →
      500 ≤ effectiveMargin s ∧ effectiveMargin s ≤ 10000 ∧ reactionDistance s ≤ 10000 ∧ 500 ≤ lead s ∧
        lead s ≤ 200000)

/-- The zone candidate and the stop candidate are 0 at or beyond their points, and otherwise the greatest whole number
whose square is at most 2 × a × d. The raw ceiling is the greatest number that is at most the zone candidate, the stop
candidate when there is one, each look-ahead candidate, the front cell's limit, the cap, and 300 while LOST; a number is
at most a look-ahead candidate when its square is at most L² + 2 × a × max(0, d). The look-ahead goes up to the stored
horizon. The model's root is for arguments below 2^64; the spec's largest lies below 2^35. -/
def Obligations.BrakingCandidates : Prop :=
  ∀ s : State,
    let a := s.profile.decel
    let root := fun (c : Nat) (d : Int) => (d ≤ 0 → c = 0) ∧
      (0 < d → 2 * a * d < 2 ^ 64 → (c : Int) ^ 2 ≤ 2 * a * d ∧ 2 * a * d < ((c : Int) + 1) ^ 2)
    let ahead := fun (c : StoredCell) => ∃ i, s.front ≤ i ∧ i < s.front + 4 ∧ s.route.cells[i]? = some c ∧
      ∀ j b, s.front ≤ j → j ≤ i → s.route.cells[j]? = some b → b.entry ≤ s.auth.horizon
    let square := fun (c : StoredCell) =>
      (c.cell.limit : Int) ^ 2 + 2 * a * max 0 (c.entry - s.s - reactionDistance s)
    let within := fun (v : Nat) =>
      v ≤ zoneCandidate s ∧ (∀ c, stopCandidate s = some c → v ≤ c) ∧ (∀ c, ahead c → (v : Int) ^ 2 ≤ square c) ∧
        (∀ c, frontCell s = some c → v ≤ c.cell.limit) ∧ v ≤ s.profile.cap ∧ (s.odo.quality = .lost → v ≤ 300)
    root (zoneCandidate s) (hZone s - s.s - effectiveMargin s - reactionDistance s) ∧
    (hStop s = none → stopCandidate s = none) ∧
    (∀ h, hStop s = some h → ∃ c, stopCandidate s = some c ∧ root c (h - s.s - reactionDistance s)) ∧
    ((∀ c, ahead c → square c < 2 ^ 64) → within (rawCeiling s) ∧ ∀ v, within v → v ≤ rawCeiling s)

/-- An authority tick: the pending index is taken, the horizon is the smaller of h_zone and h_stop, OVERRUN stands if s
passes h_zone and is not raised while s does not, raising it gives its notice and makes the zones of the front cell HELD and
committed where the window has room, the ceiling is 0 under a STOP cause and otherwise the smaller of the raw ceiling and one rise step above
the last, the word carries it, and every HELD entry that passes the commit test is committed. The next expiry comes 50 ms after
this one (log 26). -/
def Obligations.AuthorityTick : Prop :=
  ∀ s : State,
    s.station.held = false → s.isCarrier = true → s.station.state = .active → windowFits s.window → routeLaid s →
    ceilingInv s →
    ∃ u, exec .authorityTick s = .next u ∧ u.now = max s.now s.auth.outputAt ∧
      u.auth.outputAt = s.auth.outputAt + 50000 ∧ u.auth.profiles = s.auth.profiles ∧
      u.auth.active = s.auth.pendingIx.getD s.auth.active ∧ u.auth.pendingIx = none ∧
      u.auth.horizon = grantedHorizon u ∧ (s.auth.overrun = true → u.auth.overrun = true) ∧
      (hZone u < u.s → u.auth.overrun = true) ∧ (s.s ≤ hZone s → u.auth.overrun = s.auth.overrun) ∧
      (s.auth.pendingIx = none → hZone s < s.s → u.auth.overrun = true) ∧
      (s.auth.overrun = false → u.auth.overrun = true →
        u.auth.causes.overrun = true ∧
        (∀ z ∈ frontZones s, (∃ e ∈ u.window.entries, e.zone = z ∧ e.state = .held ∧ e.committed = true) ∨
          (8 ≤ u.window.entries.length ∧ u.window.full = true)) ∧
        ∃ h, h < s.s ∧ (s.auth.pendingIx = none → h = hZone s) ∧
          (s.port.notices.length < 15 ∨ s.auth.pendingIx = none →
            noticeGiven s u (.overrun s.s h (((frontCell s).map (fun c => c.cell.ident)).getD 0)))) ∧
      u.auth.ceiling = (if u.auth.causes.any then 0
        else min (rawCeiling u) (s.auth.ceiling + u.profile.rise * 50 / 1000)) ∧
      u.auth.previous = u.auth.ceiling ∧ wordSent s u u.auth.ceiling ∧ u.stopLine = u.auth.causes.any ∧
      (∀ e ∈ u.window.entries, e.state = .held → commitPasses u e = true → e.committed = true) ∧
      (∀ z, isHeld s z = true → isHeld u z = true) ∧ u.station = s.station ∧ u.route = s.route ∧ u.odo = s.odo ∧
      tableKept s u ∧ radioKept s u ∧ portKept s u

/-- The output refreshes by R106's table, and the completion of a ceiling word, which the pending word follows at once. The
next expiry comes 50 ms after this one (log 26). In BOOT, before the configuration is read, the class is CARRIER, so the
word 0 is sent there (log 18). -/
def Obligations.OutputRefreshAndWords : Prop :=
  ∀ s : State, s.station.held = false → eventEndInv s →
    (¬(s.isCarrier = true ∧ s.station.state = .active) →
      ∃ u, exec .outputRefresh s = .next u ∧ u.now = max s.now s.auth.outputAt ∧
        u.auth.outputAt = s.auth.outputAt + 50000 ∧ u.auth.profiles = s.auth.profiles ∧ u.station = s.station ∧
        u.route = s.route ∧ u.odo = s.odo ∧ u.auth.ceiling = s.auth.ceiling ∧ u.auth.overrun = s.auth.overrun ∧
        tableKept s u ∧ radioKept s u ∧ portKept s u ∧ (s.isCarrier = true → wordSent s u 0) ∧
        (s.isCarrier = false →
          u = { s with now := u.now, auth := { s.auth with outputAt := s.auth.outputAt + 50000 } }) ∧
        (s.isCarrier = true → s.running = true →
          u.auth.active = s.auth.pendingIx.getD s.auth.active ∧ u.auth.pendingIx = none ∧
          (s.route.cells ≠ [] → u.auth.horizon = grantedHorizon u) ∧
          (s.route.cells = [] → u.auth.horizon = s.auth.horizon)) ∧
        (s.isCarrier = true → s.running = false →
          u.window = s.window ∧ u.auth = { s.auth with
            outputAt := s.auth.outputAt + 50000, wordOut := u.auth.wordOut, pendingWord := u.auth.pendingWord })) ∧
    (s.isCarrier = true → ∀ out, s.auth.wordOut = some out →
      exec .ceilingWordComplete s = .next { s.reach out.endsAt with auth := { s.auth with
        wordOut := s.auth.pendingWord.map (fun v => wordOnLine v (max s.now out.endsAt + 80)), pendingWord := none } })

/-! ### The own beacons -/

/-- An urgent request: none in BOOT and CONFIG_FAULT; none while the slot holds a beacon or less than P ÷ 4 has passed since
the last URGENT start; otherwise an URGENT beacon is placed 5..P ÷ 8 ms after the request. The delay is a draw: one step of
the generator, then 5 + (g mod K), K being the number of values in the range. -/
def Obligations.UrgentRequest : Prop :=
  ∀ s : State,
    (s.running = false → urgentRequest s = s) ∧
    (s.radio.slot ≠ none → urgentRequest s = s) ∧
    (∀ l, s.radio.limiter = some l → s.now < l + s.period * 250 → urgentRequest s = s) ∧
    (s.running = true → s.radio.slot = none →
      (∀ l, s.radio.limiter = some l → l + s.period * 250 ≤ s.now) →
      let g := if s.radio.gen.getLsbD 0 then (s.radio.gen >>> 1) ^^^ 46080#16 else s.radio.gen >>> 1
      let d := 5 + g.toNat % (s.period / 8 - 5 + 1)
      5 ≤ d ∧ d ≤ s.period / 8 ∧ urgentRequest s = { s with radio := { s.radio with
        gen := g, slot := some ⟨.urgent, s.now + d * 1000, 0, false⟩ } })

/-- A nominal instant: it becomes the last, the next lies one nominal spacing later, and the wait count of every ANNOUNCED
or WAITING entry rises by one, up to 255. -/
def Obligations.NominalInstant : Prop :=
  ∀ (s : State) (n : Time), s.station.held = false → s.radio.next = some n → windowFits s.window →
    ∃ u, exec .nominalInstant s = .next u ∧ u.now = max s.now n ∧ u.station = s.station ∧ u.route = s.route ∧
      u.odo = s.odo ∧ u.auth = s.auth ∧ tableKept s u ∧ portKept s u ∧ u.window.standing = s.window.standing ∧
      u.radio = { s.radio with
        last := some n, next := some (n + (if s.radio.parkedSpacing then 8 else 1) * s.period * 1000)
        placementOpen := true, gen := u.radio.gen, slot := u.radio.slot } ∧
      windowZones u = windowZones s ∧
      ∀ e ∈ s.window.entries,
        (e.requested = true → ∃ e' ∈ u.window.entries, e'.zone = e.zone ∧ e'.wait = min (e.wait + 1) 255) ∧
        (e.requested = false → e ∈ u.window.entries)

/-- A placement point with a beacon pending places nothing; otherwise one SCHEDULED beacon is placed, due within P ÷ 4 of
its nominal instant; one due at once acts within the same event as at its due time, with a channel-clear level that is free
(log 21). The due time of the pending beacon: under the key it waits to follow; at a clear sample it starts; at a busy one
it backs off 1..16 ms, and the sixth busy sample drops it. Jitter and backoff are draws: one step of the generator, then
the low end of the range plus g mod the number of its values. -/
def Obligations.PlacementAndDueTime : Prop :=
  let stepped := fun (g : BitVec 16) => if g.getLsbD 0 then (g >>> 1) ^^^ 46080#16 else g >>> 1
  (∀ (s : State) (n : Time), s.station.held = false → s.radio.next = some n → s.radio.placementOpen = true →
    eventEndInv s →
    let v : State := { s.reach (n - s.period * 250) with radio := { s.radio with placementOpen := false } }
    (s.radio.slot ≠ none → exec .placementPoint s = .next v) ∧
    (s.radio.slot = none →
      let g := stepped s.radio.gen
      let jitter := g.toNat % (2 * (s.period / 4) + 1)
      let due := n + jitter * 1000 - s.period / 4 * 1000
      let placed : Radio := { v.radio with gen := g, slot := some ⟨.scheduled, due, 0, false⟩ }
      n - s.period * 250 ≤ due ∧ due ≤ n + s.period * 250 ∧
        (v.now < due → exec .placementPoint s = .next { v with radio := placed }) ∧
        (due ≤ v.now →
          exec .placementPoint s = exec (.beaconDue (Config.channelClear s.radio.samples))
            { v with radio := { placed with samples := s.radio.samples + 1 } }))) ∧
  ∀ (s : State) (b : PendingBeacon) (clear : Bool), s.station.held = false → s.radio.slot = some b → b.arrived = false →
    eventEndInv s →
    let v := s.reach b.due
    let outcome := exec (.beaconDue clear) s
    (s.radio.tx.isSome = true →
      outcome = .next { v with radio := { s.radio with slot := some { b with arrived := true } } }) ∧
    (s.radio.tx = none →
      (clear = true →
        ∃ u, outcome = .next u ∧ u.now = v.now ∧ u.radio.slot = none ∧ u.radio.tx.isSome = true) ∧
      (clear = false → b.busy < 5 →
        let g := stepped s.radio.gen
        outcome = .next { v with radio := { s.radio with
          gen := g, slot := some { b with busy := b.busy + 1, due := v.now + (1 + g.toNat % 16) * 1000 } } }) ∧
      (clear = false → 5 ≤ b.busy →
        outcome = .next { v with
          radio := { s.radio with slot := none }
          port := { s.port with
            counters := { s.port.counters with beaconDrops := min (s.port.counters.beaconDrops + 1) 65535 } } }))

/-- The start of a beacon, at a clear sample (first byte 2 ms later) or at the end of a tail (first byte at once): the frame
carries the station's fields, one claim for each ANNOUNCED, WAITING and HELD entry in window order, and the sequence
number, which then rises; an URGENT beacon sets the limiter; the slot empties; reception is abandoned; each entry is marked
with what the frame carries for it (log 23). The end of a tail
with no beacon to follow releases the key and changes nothing else. A due time equal to the end of a tail counts when its
arrival was taken first (log 22). -/
def Obligations.BeaconStartsAndTailEnds : Prop :=
  (∀ (s : State) (x : Transmission),
    s.station.held = false → s.radio.tx = some x → x.phase = .tail → eventEndInv s →
    (∀ b, s.radio.slot = some b → b.arrived = false ∧ max s.now x.endsAt ≤ b.due) →
    exec .tailEnd s = .next { s.reach x.endsAt with radio := { s.radio with tx := none } }) ∧
  ∀ (s : State) (b : PendingBeacon) (w : ConfigWord),
    s.station.held = false → s.station.cfg = some w → s.radio.slot = some b → eventEndInv s →
    let claim := fun (e : ClaimEntry) => match e.state with
      | .announced | .waiting => some (⟨e.zone, .req, false, e.urgency, e.wait⟩ : Claim)
      | .held => some ⟨e.zone, .hold, e.committed, e.urgency, e.wait⟩
      | .queued | .releasing => none
    let sent : Beacon :=
      { station := w.station, cls := w.cls, fresh := s.radio.fresh, parked := decide (s.station.state = .parked)
        seq := s.radio.seq, periodCode := w.periodCode, claims := s.window.entries.filterMap claim }
    let starts := fun (now gap : Time) (u : State) =>
      u.now = now ∧
      u.radio = { s.radio with
        seq := (s.radio.seq + 1) % 65536
        limiter := if b.kind = .urgent then some now else s.radio.limiter
        slot := none, rx := .hunt, rxGap := none
        tx := some ⟨sent.claims, sent.frame, .sending, now + gap + (9 + 3 * sent.claims.length) * 250⟩ } ∧
      u.station = s.station ∧ u.route = s.route ∧ u.odo = s.odo ∧ u.auth = s.auth ∧ u.table = s.table ∧
      u.port = s.port ∧ u.stopLine = s.stopLine ∧
      u.window = { s.window with entries := s.window.entries.map (fun e => { e with air := match e.state with
        | .announced => .announced e.wait
        | .waiting | .held => .carried e.wait
        | .releasing => .omitted
        | .queued => .none }) }
    (b.arrived = false → s.radio.tx = none →
      ∃ u, exec (.beaconDue true) s = .next u ∧ starts (max s.now b.due) 2000 u) ∧
    ∀ x, s.radio.tx = some x → x.phase = .tail → b.arrived = true ∨ b.due < max s.now x.endsAt →
      ∃ u, exec .tailEnd s = .next u ∧ starts (max s.now x.endsAt) 0 u

/-- The completion of a frame: a tail of 1 ms begins, and each entry takes what the frame carried for it: the carried wait,
one more announcement (up to 2) when it was carried since its latest announcement, one more omission when it was
RELEASING; at the second omission the entry leaves. An announcement counts for an entry that has become HELD since. An
entry carried before its latest announcement, or sent to WAITING by a blocker since, takes the carried wait alone, and one that the frame does not speak of keeps its counts. What the frame carried is counted by entry (log 23). -/
def Obligations.BeaconComplete : Prop :=
  ∀ (s : State) (x : Transmission),
    s.station.held = false → s.radio.tx = some x → x.phase = .sending → windowFits s.window →
    ∃ u, exec .beaconComplete s = .next u ∧ u.now = max s.now x.endsAt ∧
      u.radio = { s.radio with
        tx := some { x with phase := .tail, endsAt := max s.now x.endsAt + 1000 }
        gen := u.radio.gen, slot := u.radio.slot } ∧
      u.station = s.station ∧ u.route = s.route ∧ u.odo = s.odo ∧ profilesKept s u ∧ tableKept s u ∧ portKept s u ∧
      u.window.standing = s.window.standing ∧
      ∀ e ∈ s.window.entries,
        (e.state = .announced ∨ e.state = .held ∨ (e.state = .releasing ∧ e.released < 2) → ∀ w, e.air = .announced w →
          ∃ e' ∈ u.window.entries, e'.zone = e.zone ∧ e'.carried = w ∧ e'.announce = min (e.announce + 1) 2 ∧
            e'.wait = e.wait) ∧
        (e.state = .announced ∨ e.state = .held ∨ (e.state = .releasing ∧ e.released < 2) → ∀ w, e.air = .carried w →
          ∃ e' ∈ u.window.entries, e'.zone = e.zone ∧ e'.carried = w ∧ e'.announce = e.announce ∧ e'.wait = e.wait) ∧
        (e.air = .none → e.released < 2 →
          ∃ e' ∈ u.window.entries, e'.zone = e.zone ∧ e'.carried = e.carried ∧ e'.released = e.released ∧
            e'.wait = e.wait ∧ (e.state ≠ .waiting → e'.announce = e.announce)) ∧
        (e.state = .waiting ∨ e.state = .held → ∀ w, e.air = .announced w ∨ e.air = .carried w →
          ∃ e' ∈ u.window.entries, e'.zone = e.zone ∧ e'.carried = w ∧ e'.wait = e.wait ∧
            (e.state = .held → e'.state = .held)) ∧
        (e.state = .releasing → e.air = .omitted →
          (e.released = 0 → ∃ e' ∈ u.window.entries, e'.zone = e.zone ∧ e'.state = .releasing ∧ e'.released = 1) ∧
          (1 ≤ e.released → ∀ e' ∈ u.window.entries, e'.zone = e.zone → e'.state ≠ .releasing)) ∧
        (e.state = .releasing → e.air ≠ .omitted → e.released < 2 →
          ∃ e' ∈ u.window.entries, e'.zone = e.zone ∧ e'.wait = e.wait)

/-! ### Formats -/

/-- A beacon that a station can send is read back from its frame's bytes as it was, and whatever is read from a received
frame has the length its claim count declares, and lies in the ranges of R46 and R50. A bit that is sent 0 is ignored, and
the committed bit of a REQ is not stored. The payloads of ROUTE_APPEND and START_POSITION parse exactly when they are cells
laid out in records, in the counts allowed, whether or not the cells lie in the ranges of R1, which are a test of their own;
so do those of STAND_CLAIM, in range. -/
def Obligations.FormatsReadBack : Prop :=
  (∀ b : Beacon, b.sendable → parseBeacon b.body = some b) ∧
  (∀ (frame : List Byte) (b : Beacon), parseBeacon frame = some b →
    b.sendable ∧ frame.length = 5 + 3 * b.claims.length) ∧
  (∀ (w1 w0 q1 q0 pc : Byte) (claims : List Byte),
    parseBeacon (w1 :: w0 :: q1 :: q0 :: pc :: claims) =
      parseBeacon (w1 :: (w0 &&& 0xFE#8) :: q1 :: q0 :: (pc &&& 0xFC#8) :: claims)) ∧
  (∀ b : Beacon,
    let stored : Beacon := { b with
      claims := b.claims.map (fun c => if c.kind = .req then { c with committed := false } else c) }
    stored.sendable → parseBeacon b.body = some stored) ∧
  (let laid := fun (c : RouteCell) =>
     c.ident < 65536 ∧ c.length < 65536 ∧ c.limit < 65536 ∧ c.urgency ≤ 3 ∧ (∀ o, c.stop = some o → o < 65536) ∧
       c.zones.length ≤ 3 ∧ (∀ z ∈ c.zones, z < 65536) ∧ c.markers.length ≤ 7 ∧
       ∀ m ∈ c.markers, m.ident < 65536 ∧ m.offset < 65536
   (∀ (cells : List RouteCell) (payload : List Byte),
     parseAppend payload = some cells ↔
       (∀ c ∈ cells, laid c) ∧ 1 ≤ cells.length ∧ cells.length ≤ 8 ∧
         payload = byteOf cells.length :: cells.flatMap RouteCell.record) ∧
   ∀ (cells : List RouteCell) (x : Int) (payload : List Byte),
     parseStart payload = some (x, cells) ↔
       (∀ c ∈ cells, laid c) ∧ 1 ≤ cells.length ∧ cells.length ≤ 4 ∧ -2147483648 ≤ x ∧ x < 2147483648 ∧
         payload = byteOf cells.length :: (signedField 4 x ++ cells.flatMap RouteCell.record)) ∧
  (∀ c : RouteCell, c.inRange = true ↔
    1 ≤ c.ident ∧ c.ident ≤ 65535 ∧ 1000 ≤ c.length ∧ c.length ≤ 60000 ∧ 1 ≤ c.zones.length ∧ c.zones.length ≤ 3 ∧
      (∀ z ∈ c.zones, 1 ≤ z ∧ z ≤ 4095) ∧ c.zones.Nodup ∧ 300 ≤ c.limit ∧ c.limit ≤ 8000 ∧ c.urgency ≤ 3 ∧
      (∀ o, c.stop = some o → o ≤ c.length) ∧ c.markers.length ≤ 4 ∧
      (∀ m ∈ c.markers, 1 ≤ m.ident ∧ m.ident ≤ 65535 ∧ m.offset ≤ c.length) ∧
      (c.markers.map Marker.offset).Pairwise (· < ·)) ∧
  ∀ (rs : List Standing) (payload : List Byte),
    parseStanding payload = some rs ↔
      1 ≤ rs.length ∧ rs.length ≤ 8 ∧ (∀ r ∈ rs, 1 ≤ r.zone ∧ r.zone ≤ 4095 ∧ r.urgency ≤ 3) ∧
        (rs.map Standing.zone).Nodup ∧
        payload = byteOf rs.length :: rs.flatMap (fun r => beBytes 2 r.zone ++ [byteOf r.urgency])

/-- The bytes that go out: a message in its envelope, a beacon in its frame, a reply with its outcome and refusal code, the
fifteen notices, the STOP byte, and the status report; every number that fits its field stands in it high byte first, a
signed one in two's complement. -/
def Obligations.OutgoingLayouts : Prop :=
  let two := fun (n : Nat) => [byteOf (n / 256), byteOf n]
  let four := fun (x : Int) =>
    let n := (x % 4294967296).toNat
    [byteOf (n / 16777216), byteOf (n / 65536), byteOf (n / 256), byteOf n]
  let fits := fun (x : Int) => -2147483648 ≤ x ∧ x < 2147483648
  let one := fun (b : Bool) (weight : Nat) => if b then weight else 0
  (∀ (kind : Byte) (payload : List Byte),
    let covered := kind :: byteOf payload.length :: payload
    envelope kind payload = 0xC3#8 :: (covered ++ two (crc16 covered).toNat)) ∧
  (∀ b : Beacon,
    let word := b.station * 16 + one (decide (b.cls = .fixed)) 8 + one b.fresh 4 + one b.parked 2
    let record := fun (c : Claim) =>
      let n := c.zone * 4096 + one (decide (c.kind = .hold)) 2048 + one c.committed 1024 + c.urgency * 256 + c.wait
      [byteOf (n / 65536), byteOf (n / 256), byteOf n]
    let covered := byteOf (5 + 3 * b.claims.length) ::
      (two word ++ two b.seq ++ [byteOf (b.periodCode * 64 + b.claims.length * 4)] ++ b.claims.flatMap record)
    b.frame = 0xA5#8 :: (covered ++ two (crc16 covered).toNat)) ∧
  (∀ (kind : Byte) (payload : List Byte),
    Reply.payload ⟨kind, .accept payload⟩ = kind :: 0#8 :: payload ∧
    ∀ (k : Nat) (code : RefuseCode),
      [RefuseCode.badKind, .badLength, .badState, .wrongClass, .routeFull, .badCell, .unknownCell, .unknownZone, .notStopped,
        .notParked, .stillConflict, .notConflict, .occupied, .notGranted][k]? = some code →
      Reply.payload ⟨kind, .refuse code payload⟩ = kind :: 1#8 :: byteOf (k + 1) :: payload) ∧
  (∀ (z n m q d : Nat) (x h e : Int) (cls : StationClass) (grade : Quality) (ch : Channel) (why : DoubtCause)
      (off : HoldOffCause),
    z < 65536 → n < 65536 → m < 65536 → q < 65536 → d < 65536 → fits x → fits h → -32768 ≤ e → e < 32768 →
    let cl := byteOf (one (decide (cls = .fixed)) 1)
    let gr := match grade with
      | .good => 0#8
      | .doubt => 1#8
      | .lost => 2#8
    let lane := byteOf (one (decide (ch = .b)) 1)
    Notice.payload (.conflict z n) = 1#8 :: (two z ++ two n) ∧
    Notice.payload (.doubleHold z n) = 2#8 :: (two z ++ two n) ∧
    Notice.payload (.gridlock z n) = 3#8 :: (two z ++ two n) ∧
    Notice.payload (.peerLost n cls) = 4#8 :: (two n ++ [cl]) ∧
    Notice.payload (.tableOverflow n) = 5#8 :: two n ∧
    Notice.payload (.windowFull z) = 6#8 :: two z ∧
    Notice.payload (.markerReject m e grade) = 7#8 :: (two m ++ two (e % 65536).toNat ++ [gr]) ∧
    Notice.payload (.positionDoubt why x) = 8#8 :: ((match why with
      | .distance => 0#8
      | .rejects => 1#8
      | .channel => 2#8) :: four x) ∧
    Notice.payload (.positionLost x) = 9#8 :: four x ∧
    Notice.payload (.slip ch d) = 10#8 :: lane :: two d ∧
    Notice.payload (.channelFail ch) = [11#8, lane] ∧
    Notice.payload (.overrun x h m) = 12#8 :: (four x ++ four h ++ two m) ∧
    Notice.payload (.duplicateId q cls) = 13#8 :: (two q ++ [cl]) ∧
    Notice.payload (.grant n) = [14#8, byteOf n] ∧
    Notice.payload (.holdOff off z n) = 15#8 :: ((match off with
      | .conflict => 0#8
      | .state => 1#8
      | .released => 2#8
      | .unheld => 3#8) :: (two z ++ two n))) ∧
  ∀ s : State,
    let stop := byteOf (one (stopLevel s) 1 + one s.auth.causes.boot 2 + one s.auth.causes.configFault 4 +
      one s.auth.causes.conflict 8 + one s.auth.causes.overrun 16)
    let cellIdent := fun (c : Option StoredCell) => (c.map (fun c => c.cell.ident)).getD 0
    stopByte s = stop ∧ (statusPayload s).length = 37 + 3 * s.window.entries.length ∧
    (fits s.s → fits s.auth.horizon → s.odo.vmeas < 65536 → s.auth.ceiling < 65536 →
      (∀ c ∈ s.route.cells, c.cell.ident < 65536) → s.port.counters.fit → (∀ e ∈ s.window.entries, e.zone < 65536) →
      statusPayload s =
        [(match s.station.state with
          | .boot => 0#8
          | .configFault => 1#8
          | .listen => 2#8
          | .active => 3#8
          | .parked => 4#8),
          byteOf (one (!s.isCarrier) 1),
          (match s.station.cause with
          | .powerOn => 0#8
          | .resetLine => 1#8
          | .restartCommand => 2#8),
          byteOf s.station.fault,
          (match s.odo.quality with
          | .good => 0#8
          | .doubt => 1#8
          | .lost => 2#8)] ++
        four s.s ++ two s.odo.vmeas ++ two s.auth.ceiling ++ four s.auth.horizon ++
        [stop,
          (match s.auth.active with
          | .unladen => 0#8
          | .laden => 1#8
          | .ladenHigh => 2#8),
          byteOf s.route.cells.length] ++
        two (cellIdent s.route.cells.head?) ++ two (cellIdent (frontCell s)) ++
        [byteOf s.table.peers.length,
          byteOf (one s.table.overflow.isSome 1 + one s.window.full 2 + one s.port.dropped 4)] ++
        two s.port.counters.radioBad ++ two s.port.counters.queueDrops ++ two s.port.counters.beaconDrops ++
        two s.port.counters.portBad ++ two s.port.counters.strays ++
        byteOf s.window.entries.length :: s.window.entries.flatMap (fun e =>
          two e.zone ++ [byteOf ((match e.state with
            | .queued => 0
            | .announced => 1
            | .waiting => 2
            | .held => 3
            | .releasing => 4) + one e.committed 8)]))

/-! ### Invariants -/

/-- The Claim Window keeps its places: at most 8 entries, no zone twice, and a committed mark on HELD entries only. -/
def Obligations.StepKeepsWindow : Prop :=
  ∀ s u : State, windowInv s → step s = .next u → windowInv u

/-- The Neighbour Table keeps its bounds: at most 24 entries, no station twice, never the own number, at most 8 claims an
entry and no zone twice, and none in BOOT and CONFIG_FAULT. -/
def Obligations.StepKeepsTable : Prop :=
  ∀ s u : State, tableFits s → step s = .next u → tableFits u

/-- The route stays laid end to end from 0, every entry that is not RELEASING names a needed zone, and the granted horizon
does not pass the held run. -/
def Obligations.StepKeepsRouteAndHorizon : Prop :=
  ∀ s u : State, routeInv s → step s = .next u → routeInv u

/-- The ceiling stays within the cap, at most 300 while LOST, 0 under a STOP cause and outside ACTIVE; the profiles stay in
their ranges. -/
def Obligations.StepKeepsCeiling : Prop :=
  ∀ s u : State, ceilingInv s → step s = .next u → ceilingInv u

/-- The conflict list keeps its bounds, and each STOP cause stands exactly while what raises it does. -/
def Obligations.StepKeepsConflictsAndCauses : Prop :=
  ∀ s u : State, conflictInv s → step s = .next u → conflictInv u

/-- After every step the STOP line (the hold-off line) has the level of its rule, nothing that may start waits for a free
outbound line, and every relevant flag agrees with its claims. -/
def Obligations.StepKeepsLines : Prop :=
  ∀ s u : State, eventEndInv s → step s = .next u → eventEndInv u

/-- Counts, queues and the scale trim stay in their ranges. -/
def Obligations.StepKeepsCounts : Prop :=
  ∀ s u : State, countsInv s → step s = .next u → countsInv u

/-- A zone that a step makes HELD without the committed mark shows no peer HOLD, and the table is not in overflow: exclusion
rests on this (R35). -/
def Obligations.NewHoldIsClear : Prop :=
  ∀ s u : State, step s = .next u → newHoldsClear s u

/-- The reset state has every invariant. -/
def Obligations.ResetHasInvariants : Prop :=
  windowInv State.reset ∧ tableFits State.reset ∧ routeInv State.reset ∧ ceilingInv State.reset ∧
    conflictInv State.reset ∧ eventEndInv State.reset ∧ countsInv State.reset
end

