-- ==== Sys2Proof/Laws/State.lean ====
section
/-! SUPPORT. What each plain update of State leaves in each block: one lemma per field per update, all by rfl. -/

namespace Sys2Proof.Machine

/-! ### reach -/

@[simp] theorem reach_now (t : Time) (s : State) : (s.reach t).now = max s.now t := rfl
@[simp] theorem reach_station (t : Time) (s : State) : (s.reach t).station = s.station := rfl
@[simp] theorem reach_route (t : Time) (s : State) : (s.reach t).route = s.route := rfl
@[simp] theorem reach_window (t : Time) (s : State) : (s.reach t).window = s.window := rfl
@[simp] theorem reach_table (t : Time) (s : State) : (s.reach t).table = s.table := rfl
@[simp] theorem reach_odo (t : Time) (s : State) : (s.reach t).odo = s.odo := rfl
@[simp] theorem reach_auth (t : Time) (s : State) : (s.reach t).auth = s.auth := rfl
@[simp] theorem reach_radio (t : Time) (s : State) : (s.reach t).radio = s.radio := rfl
@[simp] theorem reach_port (t : Time) (s : State) : (s.reach t).port = s.port := rfl
@[simp] theorem reach_stopLine (t : Time) (s : State) : (s.reach t).stopLine = s.stopLine := rfl
@[simp] theorem reach_pending (t : Time) (s : State) : (s.reach t).pending = s.pending := rfl

/-! ### withPending -/

@[simp] theorem withPending_now (q : List Instr) (s : State) : (s.withPending q).now = s.now := rfl
@[simp] theorem withPending_station (q : List Instr) (s : State) : (s.withPending q).station = s.station := rfl
@[simp] theorem withPending_route (q : List Instr) (s : State) : (s.withPending q).route = s.route := rfl
@[simp] theorem withPending_window (q : List Instr) (s : State) : (s.withPending q).window = s.window := rfl
@[simp] theorem withPending_table (q : List Instr) (s : State) : (s.withPending q).table = s.table := rfl
@[simp] theorem withPending_odo (q : List Instr) (s : State) : (s.withPending q).odo = s.odo := rfl
@[simp] theorem withPending_auth (q : List Instr) (s : State) : (s.withPending q).auth = s.auth := rfl
@[simp] theorem withPending_radio (q : List Instr) (s : State) : (s.withPending q).radio = s.radio := rfl
@[simp] theorem withPending_port (q : List Instr) (s : State) : (s.withPending q).port = s.port := rfl
@[simp] theorem withPending_stopLine (q : List Instr) (s : State) : (s.withPending q).stopLine = s.stopLine := rfl
@[simp] theorem withPending_pending (q : List Instr) (s : State) : (s.withPending q).pending = q := rfl

/-! ### setEntries -/

@[simp] theorem setEntries_now (es : List ClaimEntry) (s : State) : (setEntries es s).now = s.now := rfl
@[simp] theorem setEntries_station (es : List ClaimEntry) (s : State) : (setEntries es s).station = s.station := rfl
@[simp] theorem setEntries_route (es : List ClaimEntry) (s : State) : (setEntries es s).route = s.route := rfl
@[simp] theorem setEntries_window (es : List ClaimEntry) (s : State) :
    (setEntries es s).window = { s.window with entries := es } := rfl
@[simp] theorem setEntries_table (es : List ClaimEntry) (s : State) : (setEntries es s).table = s.table := rfl
@[simp] theorem setEntries_odo (es : List ClaimEntry) (s : State) : (setEntries es s).odo = s.odo := rfl
@[simp] theorem setEntries_auth (es : List ClaimEntry) (s : State) : (setEntries es s).auth = s.auth := rfl
@[simp] theorem setEntries_radio (es : List ClaimEntry) (s : State) : (setEntries es s).radio = s.radio := rfl
@[simp] theorem setEntries_port (es : List ClaimEntry) (s : State) : (setEntries es s).port = s.port := rfl
@[simp] theorem setEntries_stopLine (es : List ClaimEntry) (s : State) :
    (setEntries es s).stopLine = s.stopLine := rfl
@[simp] theorem setEntries_pending (es : List ClaimEntry) (s : State) : (setEntries es s).pending = s.pending := rfl

/-! ### modifyEntry -/

@[simp] theorem modifyEntry_now (z : Nat) (f : ClaimEntry → ClaimEntry) (s : State) :
    (modifyEntry z f s).now = s.now := rfl
@[simp] theorem modifyEntry_station (z : Nat) (f : ClaimEntry → ClaimEntry) (s : State) :
    (modifyEntry z f s).station = s.station := rfl
@[simp] theorem modifyEntry_route (z : Nat) (f : ClaimEntry → ClaimEntry) (s : State) :
    (modifyEntry z f s).route = s.route := rfl
@[simp] theorem modifyEntry_window (z : Nat) (f : ClaimEntry → ClaimEntry) (s : State) :
    (modifyEntry z f s).window = { s.window with entries := updateEntry z f s.window.entries } := rfl
@[simp] theorem modifyEntry_table (z : Nat) (f : ClaimEntry → ClaimEntry) (s : State) :
    (modifyEntry z f s).table = s.table := rfl
@[simp] theorem modifyEntry_odo (z : Nat) (f : ClaimEntry → ClaimEntry) (s : State) :
    (modifyEntry z f s).odo = s.odo := rfl
@[simp] theorem modifyEntry_auth (z : Nat) (f : ClaimEntry → ClaimEntry) (s : State) :
    (modifyEntry z f s).auth = s.auth := rfl
@[simp] theorem modifyEntry_radio (z : Nat) (f : ClaimEntry → ClaimEntry) (s : State) :
    (modifyEntry z f s).radio = s.radio := rfl
@[simp] theorem modifyEntry_port (z : Nat) (f : ClaimEntry → ClaimEntry) (s : State) :
    (modifyEntry z f s).port = s.port := rfl
@[simp] theorem modifyEntry_stopLine (z : Nat) (f : ClaimEntry → ClaimEntry) (s : State) :
    (modifyEntry z f s).stopLine = s.stopLine := rfl
@[simp] theorem modifyEntry_pending (z : Nat) (f : ClaimEntry → ClaimEntry) (s : State) :
    (modifyEntry z f s).pending = s.pending := rfl

/-! ### setCells -/

@[simp] theorem setCells_now (cs : List StoredCell) (s : State) : (setCells cs s).now = s.now := rfl
@[simp] theorem setCells_station (cs : List StoredCell) (s : State) : (setCells cs s).station = s.station := rfl
@[simp] theorem setCells_route (cs : List StoredCell) (s : State) :
    (setCells cs s).route = { s.route with cells := cs } := rfl
@[simp] theorem setCells_window (cs : List StoredCell) (s : State) : (setCells cs s).window = s.window := rfl
@[simp] theorem setCells_table (cs : List StoredCell) (s : State) : (setCells cs s).table = s.table := rfl
@[simp] theorem setCells_odo (cs : List StoredCell) (s : State) : (setCells cs s).odo = s.odo := rfl
@[simp] theorem setCells_auth (cs : List StoredCell) (s : State) : (setCells cs s).auth = s.auth := rfl
@[simp] theorem setCells_radio (cs : List StoredCell) (s : State) : (setCells cs s).radio = s.radio := rfl
@[simp] theorem setCells_port (cs : List StoredCell) (s : State) : (setCells cs s).port = s.port := rfl
@[simp] theorem setCells_stopLine (cs : List StoredCell) (s : State) : (setCells cs s).stopLine = s.stopLine := rfl
@[simp] theorem setCells_pending (cs : List StoredCell) (s : State) : (setCells cs s).pending = s.pending := rfl

/-! ### setOdo -/

@[simp] theorem setOdo_now (o : Odometry) (s : State) : (setOdo o s).now = s.now := rfl
@[simp] theorem setOdo_station (o : Odometry) (s : State) : (setOdo o s).station = s.station := rfl
@[simp] theorem setOdo_route (o : Odometry) (s : State) : (setOdo o s).route = s.route := rfl
@[simp] theorem setOdo_window (o : Odometry) (s : State) : (setOdo o s).window = s.window := rfl
@[simp] theorem setOdo_table (o : Odometry) (s : State) : (setOdo o s).table = s.table := rfl
@[simp] theorem setOdo_odo (o : Odometry) (s : State) : (setOdo o s).odo = o := rfl
@[simp] theorem setOdo_auth (o : Odometry) (s : State) : (setOdo o s).auth = s.auth := rfl
@[simp] theorem setOdo_radio (o : Odometry) (s : State) : (setOdo o s).radio = s.radio := rfl
@[simp] theorem setOdo_port (o : Odometry) (s : State) : (setOdo o s).port = s.port := rfl
@[simp] theorem setOdo_stopLine (o : Odometry) (s : State) : (setOdo o s).stopLine = s.stopLine := rfl
@[simp] theorem setOdo_pending (o : Odometry) (s : State) : (setOdo o s).pending = s.pending := rfl

/-! ### setPeers -/

@[simp] theorem setPeers_now (ps : List Peer) (s : State) : (setPeers ps s).now = s.now := rfl
@[simp] theorem setPeers_station (ps : List Peer) (s : State) : (setPeers ps s).station = s.station := rfl
@[simp] theorem setPeers_route (ps : List Peer) (s : State) : (setPeers ps s).route = s.route := rfl
@[simp] theorem setPeers_window (ps : List Peer) (s : State) : (setPeers ps s).window = s.window := rfl
@[simp] theorem setPeers_table (ps : List Peer) (s : State) :
    (setPeers ps s).table = { s.table with peers := ps } := rfl
@[simp] theorem setPeers_odo (ps : List Peer) (s : State) : (setPeers ps s).odo = s.odo := rfl
@[simp] theorem setPeers_auth (ps : List Peer) (s : State) : (setPeers ps s).auth = s.auth := rfl
@[simp] theorem setPeers_radio (ps : List Peer) (s : State) : (setPeers ps s).radio = s.radio := rfl
@[simp] theorem setPeers_port (ps : List Peer) (s : State) : (setPeers ps s).port = s.port := rfl
@[simp] theorem setPeers_stopLine (ps : List Peer) (s : State) : (setPeers ps s).stopLine = s.stopLine := rfl
@[simp] theorem setPeers_pending (ps : List Peer) (s : State) : (setPeers ps s).pending = s.pending := rfl

/-! ### setOverflow -/

@[simp] theorem setOverflow_now (o : Option Time) (s : State) : (setOverflow o s).now = s.now := rfl
@[simp] theorem setOverflow_station (o : Option Time) (s : State) : (setOverflow o s).station = s.station := rfl
@[simp] theorem setOverflow_route (o : Option Time) (s : State) : (setOverflow o s).route = s.route := rfl
@[simp] theorem setOverflow_window (o : Option Time) (s : State) : (setOverflow o s).window = s.window := rfl
@[simp] theorem setOverflow_table (o : Option Time) (s : State) :
    (setOverflow o s).table = { s.table with overflow := o } := rfl
@[simp] theorem setOverflow_odo (o : Option Time) (s : State) : (setOverflow o s).odo = s.odo := rfl
@[simp] theorem setOverflow_auth (o : Option Time) (s : State) : (setOverflow o s).auth = s.auth := rfl
@[simp] theorem setOverflow_radio (o : Option Time) (s : State) : (setOverflow o s).radio = s.radio := rfl
@[simp] theorem setOverflow_port (o : Option Time) (s : State) : (setOverflow o s).port = s.port := rfl
@[simp] theorem setOverflow_stopLine (o : Option Time) (s : State) : (setOverflow o s).stopLine = s.stopLine := rfl
@[simp] theorem setOverflow_pending (o : Option Time) (s : State) : (setOverflow o s).pending = s.pending := rfl

/-! ### refreshRelevance -/

@[simp] theorem refreshRelevance_now (s : State) : (refreshRelevance s).now = s.now := rfl
@[simp] theorem refreshRelevance_station (s : State) : (refreshRelevance s).station = s.station := rfl
@[simp] theorem refreshRelevance_route (s : State) : (refreshRelevance s).route = s.route := rfl
@[simp] theorem refreshRelevance_window (s : State) : (refreshRelevance s).window = s.window := rfl
@[simp] theorem refreshRelevance_table (s : State) :
    (refreshRelevance s).table = { s.table with peers := s.table.peers.map (fun p => { p with relevant := touches (ownZones s) p.claims }) } := rfl
@[simp] theorem refreshRelevance_odo (s : State) : (refreshRelevance s).odo = s.odo := rfl
@[simp] theorem refreshRelevance_auth (s : State) : (refreshRelevance s).auth = s.auth := rfl
@[simp] theorem refreshRelevance_radio (s : State) : (refreshRelevance s).radio = s.radio := rfl
@[simp] theorem refreshRelevance_port (s : State) : (refreshRelevance s).port = s.port := rfl
@[simp] theorem refreshRelevance_stopLine (s : State) : (refreshRelevance s).stopLine = s.stopLine := rfl
@[simp] theorem refreshRelevance_pending (s : State) : (refreshRelevance s).pending = s.pending := rfl

/-! ### setHorizon -/

@[simp] theorem setHorizon_now (h : Int) (s : State) : (setHorizon h s).now = s.now := rfl
@[simp] theorem setHorizon_station (h : Int) (s : State) : (setHorizon h s).station = s.station := rfl
@[simp] theorem setHorizon_route (h : Int) (s : State) : (setHorizon h s).route = s.route := rfl
@[simp] theorem setHorizon_window (h : Int) (s : State) : (setHorizon h s).window = s.window := rfl
@[simp] theorem setHorizon_table (h : Int) (s : State) : (setHorizon h s).table = s.table := rfl
@[simp] theorem setHorizon_odo (h : Int) (s : State) : (setHorizon h s).odo = s.odo := rfl
@[simp] theorem setHorizon_auth (h : Int) (s : State) : (setHorizon h s).auth = { s.auth with horizon := h } := rfl
@[simp] theorem setHorizon_radio (h : Int) (s : State) : (setHorizon h s).radio = s.radio := rfl
@[simp] theorem setHorizon_port (h : Int) (s : State) : (setHorizon h s).port = s.port := rfl
@[simp] theorem setHorizon_stopLine (h : Int) (s : State) : (setHorizon h s).stopLine = s.stopLine := rfl
@[simp] theorem setHorizon_pending (h : Int) (s : State) : (setHorizon h s).pending = s.pending := rfl

/-! ### setCeiling -/

@[simp] theorem setCeiling_now (v : Nat) (s : State) : (setCeiling v s).now = s.now := rfl
@[simp] theorem setCeiling_station (v : Nat) (s : State) : (setCeiling v s).station = s.station := rfl
@[simp] theorem setCeiling_route (v : Nat) (s : State) : (setCeiling v s).route = s.route := rfl
@[simp] theorem setCeiling_window (v : Nat) (s : State) : (setCeiling v s).window = s.window := rfl
@[simp] theorem setCeiling_table (v : Nat) (s : State) : (setCeiling v s).table = s.table := rfl
@[simp] theorem setCeiling_odo (v : Nat) (s : State) : (setCeiling v s).odo = s.odo := rfl
@[simp] theorem setCeiling_auth (v : Nat) (s : State) :
    (setCeiling v s).auth = { s.auth with ceiling := v, previous := v } := rfl
@[simp] theorem setCeiling_radio (v : Nat) (s : State) : (setCeiling v s).radio = s.radio := rfl
@[simp] theorem setCeiling_port (v : Nat) (s : State) : (setCeiling v s).port = s.port := rfl
@[simp] theorem setCeiling_stopLine (v : Nat) (s : State) : (setCeiling v s).stopLine = s.stopLine := rfl
@[simp] theorem setCeiling_pending (v : Nat) (s : State) : (setCeiling v s).pending = s.pending := rfl

/-! ### setOverrun -/

@[simp] theorem setOverrun_now (s : State) : (setOverrun s).now = s.now := rfl
@[simp] theorem setOverrun_station (s : State) : (setOverrun s).station = s.station := rfl
@[simp] theorem setOverrun_route (s : State) : (setOverrun s).route = s.route := rfl
@[simp] theorem setOverrun_window (s : State) : (setOverrun s).window = s.window := rfl
@[simp] theorem setOverrun_table (s : State) : (setOverrun s).table = s.table := rfl
@[simp] theorem setOverrun_odo (s : State) : (setOverrun s).odo = s.odo := rfl
@[simp] theorem setOverrun_auth (s : State) :
    (setOverrun s).auth = { s.auth with overrun := true, causes := { s.auth.causes with overrun := true } } := rfl
@[simp] theorem setOverrun_radio (s : State) : (setOverrun s).radio = s.radio := rfl
@[simp] theorem setOverrun_port (s : State) : (setOverrun s).port = s.port := rfl
@[simp] theorem setOverrun_stopLine (s : State) : (setOverrun s).stopLine = s.stopLine := rfl
@[simp] theorem setOverrun_pending (s : State) : (setOverrun s).pending = s.pending := rfl

/-! ### nextOutput -/

@[simp] theorem nextOutput_now (s : State) : (nextOutput s).now = s.now := rfl
@[simp] theorem nextOutput_station (s : State) : (nextOutput s).station = s.station := rfl
@[simp] theorem nextOutput_route (s : State) : (nextOutput s).route = s.route := rfl
@[simp] theorem nextOutput_window (s : State) : (nextOutput s).window = s.window := rfl
@[simp] theorem nextOutput_table (s : State) : (nextOutput s).table = s.table := rfl
@[simp] theorem nextOutput_odo (s : State) : (nextOutput s).odo = s.odo := rfl
@[simp] theorem nextOutput_auth (s : State) :
    (nextOutput s).auth = { s.auth with outputAt := s.auth.outputAt + outputPeriod } := rfl
@[simp] theorem nextOutput_radio (s : State) : (nextOutput s).radio = s.radio := rfl
@[simp] theorem nextOutput_port (s : State) : (nextOutput s).port = s.port := rfl
@[simp] theorem nextOutput_stopLine (s : State) : (nextOutput s).stopLine = s.stopLine := rfl
@[simp] theorem nextOutput_pending (s : State) : (nextOutput s).pending = s.pending := rfl

/-! ### setRx -/

@[simp] theorem setRx_now (a : RadioAssembler) (g : Option Time) (s : State) : (setRx a g s).now = s.now := rfl
@[simp] theorem setRx_station (a : RadioAssembler) (g : Option Time) (s : State) :
    (setRx a g s).station = s.station := rfl
@[simp] theorem setRx_route (a : RadioAssembler) (g : Option Time) (s : State) : (setRx a g s).route = s.route := rfl
@[simp] theorem setRx_window (a : RadioAssembler) (g : Option Time) (s : State) :
    (setRx a g s).window = s.window := rfl
@[simp] theorem setRx_table (a : RadioAssembler) (g : Option Time) (s : State) : (setRx a g s).table = s.table := rfl
@[simp] theorem setRx_odo (a : RadioAssembler) (g : Option Time) (s : State) : (setRx a g s).odo = s.odo := rfl
@[simp] theorem setRx_auth (a : RadioAssembler) (g : Option Time) (s : State) : (setRx a g s).auth = s.auth := rfl
@[simp] theorem setRx_radio (a : RadioAssembler) (g : Option Time) (s : State) :
    (setRx a g s).radio = { s.radio with rx := a, rxGap := g } := rfl
@[simp] theorem setRx_port (a : RadioAssembler) (g : Option Time) (s : State) : (setRx a g s).port = s.port := rfl
@[simp] theorem setRx_stopLine (a : RadioAssembler) (g : Option Time) (s : State) :
    (setRx a g s).stopLine = s.stopLine := rfl
@[simp] theorem setRx_pending (a : RadioAssembler) (g : Option Time) (s : State) :
    (setRx a g s).pending = s.pending := rfl

/-! ### setInbound -/

@[simp] theorem setInbound_now (a : PortAssembler) (g : Option Time) (s : State) :
    (setInbound a g s).now = s.now := rfl
@[simp] theorem setInbound_station (a : PortAssembler) (g : Option Time) (s : State) :
    (setInbound a g s).station = s.station := rfl
@[simp] theorem setInbound_route (a : PortAssembler) (g : Option Time) (s : State) :
    (setInbound a g s).route = s.route := rfl
@[simp] theorem setInbound_window (a : PortAssembler) (g : Option Time) (s : State) :
    (setInbound a g s).window = s.window := rfl
@[simp] theorem setInbound_table (a : PortAssembler) (g : Option Time) (s : State) :
    (setInbound a g s).table = s.table := rfl
@[simp] theorem setInbound_odo (a : PortAssembler) (g : Option Time) (s : State) :
    (setInbound a g s).odo = s.odo := rfl
@[simp] theorem setInbound_auth (a : PortAssembler) (g : Option Time) (s : State) :
    (setInbound a g s).auth = s.auth := rfl
@[simp] theorem setInbound_radio (a : PortAssembler) (g : Option Time) (s : State) :
    (setInbound a g s).radio = s.radio := rfl
@[simp] theorem setInbound_port (a : PortAssembler) (g : Option Time) (s : State) :
    (setInbound a g s).port = { s.port with inbound := a, inGap := g } := rfl
@[simp] theorem setInbound_stopLine (a : PortAssembler) (g : Option Time) (s : State) :
    (setInbound a g s).stopLine = s.stopLine := rfl
@[simp] theorem setInbound_pending (a : PortAssembler) (g : Option Time) (s : State) :
    (setInbound a g s).pending = s.pending := rfl

/-! ### inboundDone -/

@[simp] theorem inboundDone_now (s : State) : (inboundDone s).now = s.now := rfl
@[simp] theorem inboundDone_station (s : State) : (inboundDone s).station = s.station := rfl
@[simp] theorem inboundDone_route (s : State) : (inboundDone s).route = s.route := rfl
@[simp] theorem inboundDone_window (s : State) : (inboundDone s).window = s.window := rfl
@[simp] theorem inboundDone_table (s : State) : (inboundDone s).table = s.table := rfl
@[simp] theorem inboundDone_odo (s : State) : (inboundDone s).odo = s.odo := rfl
@[simp] theorem inboundDone_auth (s : State) : (inboundDone s).auth = s.auth := rfl
@[simp] theorem inboundDone_radio (s : State) : (inboundDone s).radio = s.radio := rfl
@[simp] theorem inboundDone_port (s : State) :
    (inboundDone s).port = { s.port with inbound := .hunt, inGap := none } := rfl
@[simp] theorem inboundDone_stopLine (s : State) : (inboundDone s).stopLine = s.stopLine := rfl
@[simp] theorem inboundDone_pending (s : State) : (inboundDone s).pending = s.pending := rfl

/-! ### queueReply -/

@[simp] theorem queueReply_now (k : Byte) (a : Answer) (s : State) : (queueReply k a s).now = s.now := rfl
@[simp] theorem queueReply_station (k : Byte) (a : Answer) (s : State) : (queueReply k a s).station = s.station := rfl
@[simp] theorem queueReply_route (k : Byte) (a : Answer) (s : State) : (queueReply k a s).route = s.route := rfl
@[simp] theorem queueReply_window (k : Byte) (a : Answer) (s : State) : (queueReply k a s).window = s.window := rfl
@[simp] theorem queueReply_table (k : Byte) (a : Answer) (s : State) : (queueReply k a s).table = s.table := rfl
@[simp] theorem queueReply_odo (k : Byte) (a : Answer) (s : State) : (queueReply k a s).odo = s.odo := rfl
@[simp] theorem queueReply_auth (k : Byte) (a : Answer) (s : State) : (queueReply k a s).auth = s.auth := rfl
@[simp] theorem queueReply_radio (k : Byte) (a : Answer) (s : State) : (queueReply k a s).radio = s.radio := rfl
@[simp] theorem queueReply_port (k : Byte) (a : Answer) (s : State) :
    (queueReply k a s).port = { s.port with replies := s.port.replies ++ [⟨k, a⟩] } := rfl
@[simp] theorem queueReply_stopLine (k : Byte) (a : Answer) (s : State) :
    (queueReply k a s).stopLine = s.stopLine := rfl
@[simp] theorem queueReply_pending (k : Byte) (a : Answer) (s : State) : (queueReply k a s).pending = s.pending := rfl

/-! ### countRadioBad -/

@[simp] theorem countRadioBad_now (s : State) : (countRadioBad s).now = s.now := rfl
@[simp] theorem countRadioBad_station (s : State) : (countRadioBad s).station = s.station := rfl
@[simp] theorem countRadioBad_route (s : State) : (countRadioBad s).route = s.route := rfl
@[simp] theorem countRadioBad_window (s : State) : (countRadioBad s).window = s.window := rfl
@[simp] theorem countRadioBad_table (s : State) : (countRadioBad s).table = s.table := rfl
@[simp] theorem countRadioBad_odo (s : State) : (countRadioBad s).odo = s.odo := rfl
@[simp] theorem countRadioBad_auth (s : State) : (countRadioBad s).auth = s.auth := rfl
@[simp] theorem countRadioBad_radio (s : State) : (countRadioBad s).radio = s.radio := rfl
@[simp] theorem countRadioBad_port (s : State) :
    (countRadioBad s).port = { s.port with counters := { s.port.counters with radioBad := bump s.port.counters.radioBad } } := rfl
@[simp] theorem countRadioBad_stopLine (s : State) : (countRadioBad s).stopLine = s.stopLine := rfl
@[simp] theorem countRadioBad_pending (s : State) : (countRadioBad s).pending = s.pending := rfl

/-! ### countQueueDrop -/

@[simp] theorem countQueueDrop_now (s : State) : (countQueueDrop s).now = s.now := rfl
@[simp] theorem countQueueDrop_station (s : State) : (countQueueDrop s).station = s.station := rfl
@[simp] theorem countQueueDrop_route (s : State) : (countQueueDrop s).route = s.route := rfl
@[simp] theorem countQueueDrop_window (s : State) : (countQueueDrop s).window = s.window := rfl
@[simp] theorem countQueueDrop_table (s : State) : (countQueueDrop s).table = s.table := rfl
@[simp] theorem countQueueDrop_odo (s : State) : (countQueueDrop s).odo = s.odo := rfl
@[simp] theorem countQueueDrop_auth (s : State) : (countQueueDrop s).auth = s.auth := rfl
@[simp] theorem countQueueDrop_radio (s : State) : (countQueueDrop s).radio = s.radio := rfl
@[simp] theorem countQueueDrop_port (s : State) :
    (countQueueDrop s).port = { s.port with counters := { s.port.counters with queueDrops := bump s.port.counters.queueDrops } } := rfl
@[simp] theorem countQueueDrop_stopLine (s : State) : (countQueueDrop s).stopLine = s.stopLine := rfl
@[simp] theorem countQueueDrop_pending (s : State) : (countQueueDrop s).pending = s.pending := rfl

/-! ### countBeaconDrop -/

@[simp] theorem countBeaconDrop_now (s : State) : (countBeaconDrop s).now = s.now := rfl
@[simp] theorem countBeaconDrop_station (s : State) : (countBeaconDrop s).station = s.station := rfl
@[simp] theorem countBeaconDrop_route (s : State) : (countBeaconDrop s).route = s.route := rfl
@[simp] theorem countBeaconDrop_window (s : State) : (countBeaconDrop s).window = s.window := rfl
@[simp] theorem countBeaconDrop_table (s : State) : (countBeaconDrop s).table = s.table := rfl
@[simp] theorem countBeaconDrop_odo (s : State) : (countBeaconDrop s).odo = s.odo := rfl
@[simp] theorem countBeaconDrop_auth (s : State) : (countBeaconDrop s).auth = s.auth := rfl
@[simp] theorem countBeaconDrop_radio (s : State) : (countBeaconDrop s).radio = s.radio := rfl
@[simp] theorem countBeaconDrop_port (s : State) :
    (countBeaconDrop s).port = { s.port with counters := { s.port.counters with beaconDrops := bump s.port.counters.beaconDrops } } := rfl
@[simp] theorem countBeaconDrop_stopLine (s : State) : (countBeaconDrop s).stopLine = s.stopLine := rfl
@[simp] theorem countBeaconDrop_pending (s : State) : (countBeaconDrop s).pending = s.pending := rfl

/-! ### countPortBad -/

@[simp] theorem countPortBad_now (s : State) : (countPortBad s).now = s.now := rfl
@[simp] theorem countPortBad_station (s : State) : (countPortBad s).station = s.station := rfl
@[simp] theorem countPortBad_route (s : State) : (countPortBad s).route = s.route := rfl
@[simp] theorem countPortBad_window (s : State) : (countPortBad s).window = s.window := rfl
@[simp] theorem countPortBad_table (s : State) : (countPortBad s).table = s.table := rfl
@[simp] theorem countPortBad_odo (s : State) : (countPortBad s).odo = s.odo := rfl
@[simp] theorem countPortBad_auth (s : State) : (countPortBad s).auth = s.auth := rfl
@[simp] theorem countPortBad_radio (s : State) : (countPortBad s).radio = s.radio := rfl
@[simp] theorem countPortBad_port (s : State) :
    (countPortBad s).port = { s.port with counters := { s.port.counters with portBad := bump s.port.counters.portBad } } := rfl
@[simp] theorem countPortBad_stopLine (s : State) : (countPortBad s).stopLine = s.stopLine := rfl
@[simp] theorem countPortBad_pending (s : State) : (countPortBad s).pending = s.pending := rfl

/-! ### countStray -/

@[simp] theorem countStray_now (s : State) : (countStray s).now = s.now := rfl
@[simp] theorem countStray_station (s : State) : (countStray s).station = s.station := rfl
@[simp] theorem countStray_route (s : State) : (countStray s).route = s.route := rfl
@[simp] theorem countStray_window (s : State) : (countStray s).window = s.window := rfl
@[simp] theorem countStray_table (s : State) : (countStray s).table = s.table := rfl
@[simp] theorem countStray_odo (s : State) : (countStray s).odo = s.odo := rfl
@[simp] theorem countStray_auth (s : State) : (countStray s).auth = s.auth := rfl
@[simp] theorem countStray_radio (s : State) : (countStray s).radio = s.radio := rfl
@[simp] theorem countStray_port (s : State) :
    (countStray s).port = { s.port with counters := { s.port.counters with strays := bump s.port.counters.strays } } := rfl
@[simp] theorem countStray_stopLine (s : State) : (countStray s).stopLine = s.stopLine := rfl
@[simp] theorem countStray_pending (s : State) : (countStray s).pending = s.pending := rfl

end Sys2Proof.Machine
end

