-- ==== Sys2Proof/Laws/Entries.lean ====
section
/-! SUPPORT. The Claim Window's entries under the operations that find, change, order and remove them. -/

namespace Sys2Proof.Machine

/-- A change of an entry that keeps its zone. -/
abbrev KeepsZone (f : ClaimEntry → ClaimEntry) : Prop := ∀ e, (f e).zone = e.zone

theorem updateEntry_zones {f : ClaimEntry → ClaimEntry} (hf : KeepsZone f) (z : Nat) (es : List ClaimEntry) :
    (updateEntry z f es).map ClaimEntry.zone = es.map ClaimEntry.zone := by
  simp only [updateEntry, List.map_map]
  apply List.map_congr_left
  intro e _
  simp only [Function.comp]
  split
  · exact hf e
  · rfl

theorem modifyEntry_zones {f : ClaimEntry → ClaimEntry} (hf : KeepsZone f) (z : Nat) (s : State) :
    windowZones (modifyEntry z f s) = windowZones s := updateEntry_zones hf z _

theorem updateEntry_length (z : Nat) (f : ClaimEntry → ClaimEntry) (es : List ClaimEntry) :
    (updateEntry z f es).length = es.length := by simp [updateEntry]

/-- The entry found after a change of the entry for its zone. -/
theorem findEntry_modifyEntry {f : ClaimEntry → ClaimEntry} (hf : KeepsZone f) (z : Nat) (s : State) :
    findEntry z (modifyEntry z f s) = (findEntry z s).map f := by
  simp only [findEntry, modifyEntry_window, updateEntry]
  induction s.window.entries with
  | nil => rfl
  | cons e es ih =>
    simp only [List.map_cons, List.find?_cons]
    by_cases h : e.zone = z
    · simp [h, hf e]
    · have h' : (e.zone == z) = false := by simpa using h
      simp only [h', Bool.false_eq_true, if_false]
      exact ih

/-- The entry of another zone stays. -/
theorem findEntry_modifyEntry_ne {f : ClaimEntry → ClaimEntry} (hf : KeepsZone f) {y z : Nat} (hne : y ≠ z)
    (s : State) : findEntry y (modifyEntry z f s) = findEntry y s := by
  simp only [findEntry, modifyEntry_window, updateEntry]
  induction s.window.entries with
  | nil => rfl
  | cons e es ih =>
    simp only [List.map_cons, List.find?_cons]
    by_cases h : e.zone = z
    · have h1 : (e.zone == z) = true := by simpa using h
      have h2 : ((f e).zone == y) = false := by rw [hf e, h]; simpa using fun he => hne he.symm
      have h3 : (e.zone == y) = false := by rw [h]; simpa using fun he => hne he.symm
      simp only [h1, if_true, h2, h3]
      exact ih
    · have h1 : (e.zone == z) = false := by simpa using h
      simp only [h1, Bool.false_eq_true, if_false]
      split
      · rfl
      · exact ih

theorem findEntry_zone {z : Nat} {s : State} {e : ClaimEntry} (h : findEntry z s = some e) : e.zone = z := by
  simpa using List.find?_some h

theorem findEntry_mem {z : Nat} {s : State} {e : ClaimEntry} (h : findEntry z s = some e) : e ∈ s.window.entries :=
  List.mem_of_find?_eq_some h

/-! ### Every change of an entry keeps its zone -/

theorem announceFirst_zone (now len : Time) : KeepsZone (ClaimEntry.announceFirst now len) := fun _ => rfl
theorem block_zone (now : Time) (b : Bool) : KeepsZone (ClaimEntry.block now b) := fun _ => rfl
theorem unblock_zone (now len : Time) : KeepsZone (ClaimEntry.unblock now len) := fun _ => rfl
theorem trackBlock_zone (now : Time) (b : Bool) : KeepsZone (ClaimEntry.trackBlock now b) := fun _ => rfl
theorem grant_zone : KeepsZone ClaimEntry.grant := fun _ => rfl
theorem release_zone : KeepsZone ClaimEntry.release := fun _ => rfl
theorem yieldTo_zone (now : Time) : KeepsZone (ClaimEntry.yieldTo now) := fun _ => rfl
theorem occupy_zone : KeepsZone ClaimEntry.occupy := fun e => by unfold ClaimEntry.occupy; split <;> rfl
theorem commit_zone : KeepsZone ClaimEntry.commit := fun _ => rfl
theorem updateNeeds_zone (cs : List StoredCell) : KeepsZone (ClaimEntry.updateNeeds cs) := fun _ => rfl
theorem revive_zone (cs : List StoredCell) : KeepsZone (ClaimEntry.revive cs) := fun _ => rfl
theorem settled_zone : KeepsZone ClaimEntry.settled := fun _ => rfl
theorem reported_zone : KeepsZone ClaimEntry.reported := fun _ => rfl

theorem waitMore_zone : KeepsZone ClaimEntry.waitMore := by
  intro e
  unfold ClaimEntry.waitMore
  split <;> rfl

theorem completed_zone : KeepsZone ClaimEntry.completed := by
  intro e
  unfold ClaimEntry.completed
  split <;> rfl

/-! ### Window order -/

theorem insertOrdered_perm (cells : List StoredCell) (e : ClaimEntry) :
    ∀ es : List ClaimEntry, (insertOrdered cells e es).Perm (e :: es)
  | [] => .refl _
  | x :: xs => by
    unfold insertOrdered
    split
    · exact .refl _
    · exact ((insertOrdered_perm cells e xs).cons x).trans (.swap e x xs)

/-- Window order moves entries and changes none. -/
theorem orderEntries_perm (cells : List StoredCell) : ∀ es : List ClaimEntry, (orderEntries cells es).Perm es
  | [] => .refl _
  | e :: es => by
    unfold orderEntries
    exact (insertOrdered_perm cells e _).trans ((orderEntries_perm cells es).cons e)

/-- An entry that joins the window stands beside the others, whatever its place. -/
theorem addEntry_perm (e : ClaimEntry) (s : State) :
    (addEntry e s).window.entries.Perm (e :: s.window.entries) := by
  have h : (s.window.entries ++ [e]).Perm (e :: s.window.entries) := List.perm_append_comm
  unfold addEntry
  simp only [setEntries_window]
  split
  · exact (orderEntries_perm _ _).trans h
  · exact h

end Sys2Proof.Machine
end

