-- ==== Sys2Proof/Laws/Inner.lean ====
section
/-! SUPPORT. What the operations inside one event can do: one relation between the state before and after, and for each
shared operation one lemma that it holds. The Claim Window's and the Authority Unit's operations change entries,
conflict records, the WINDOW_FULL mark, the generator and the pending slot, the horizon, the ceiling, OVERRUN, the STOP
causes and the ceiling line, and raise notices; nothing else. -/

namespace Sys2Proof.Machine

/-- All that an operation inside an event may change, said by what it leaves. -/
structure Inner (s t : State) : Prop where
  now : t.now = s.now
  station : t.station = s.station
  route : t.route = s.route
  table : t.table = s.table
  odo : t.odo = s.odo
  stopLine : t.stopLine = s.stopLine
  pending : t.pending = s.pending
  standing : t.window.standing = s.window.standing
  radio : t.radio = { s.radio with gen := t.radio.gen, slot := t.radio.slot }
  auth : t.auth =
    { s.auth with
      horizon := t.auth.horizon, ceiling := t.auth.ceiling, previous := t.auth.previous, overrun := t.auth.overrun,
      causes := t.auth.causes, wordOut := t.auth.wordOut, pendingWord := t.auth.pendingWord }
  port : t.port = { s.port with notices := t.port.notices, dropped := t.port.dropped }
  notices : s.port.notices <+: t.port.notices
  room : s.port.notices.length ≤ 16 → t.port.notices.length ≤ 16
  boot : t.auth.causes.boot = s.auth.causes.boot
  configFault : t.auth.causes.configFault = s.auth.causes.configFault

namespace Inner

theorem refl (s : State) : Inner s s :=
  ⟨rfl, rfl, rfl, rfl, rfl, rfl, rfl, rfl, rfl, rfl, rfl, List.prefix_refl _, id, rfl, rfl⟩

theorem trans {s t u : State} (h : Inner s t) (k : Inner t u) : Inner s u where
  now := k.now.trans h.now
  station := k.station.trans h.station
  route := k.route.trans h.route
  table := k.table.trans h.table
  odo := k.odo.trans h.odo
  stopLine := k.stopLine.trans h.stopLine
  pending := k.pending.trans h.pending
  standing := k.standing.trans h.standing
  radio := by rw [k.radio, h.radio]
  auth := by rw [k.auth, h.auth]
  port := by rw [k.port, h.port]
  notices := h.notices.trans k.notices
  room := fun x => k.room (h.room x)
  boot := k.boot.trans h.boot
  configFault := k.configFault.trans h.configFault

/-- A fold of operations, each of which is inner. -/
theorem foldl {α : Type} {f : State → α → State} (hf : ∀ s x, Inner s (f s x)) :
    ∀ (xs : List α) (s : State), Inner s (xs.foldl f s)
  | [], s => refl s
  | x :: xs, s => (hf s x).trans (foldl hf xs (f s x))

/-- A choice between two inner results. -/
theorem ite {s t u : State} {p : Prop} [Decidable p] (h : Inner s t) (k : Inner s u) : Inner s (if p then t else u) := by
  split <;> assumption

theorem isCarrier {s t : State} (h : Inner s t) : t.isCarrier = s.isCarrier := by
  unfold State.isCarrier State.cls; rw [h.station]

theorem running {s t : State} (h : Inner s t) : t.running = s.running := by
  unfold State.running; rw [h.station]

theorem period {s t : State} (h : Inner s t) : t.period = s.period := by simp [State.period, h.station]

theorem ownNumber {s t : State} (h : Inner s t) : t.ownNumber = s.ownNumber := by simp [State.ownNumber, h.station]

theorem s_eq {s t : State} (h : Inner s t) : t.s = s.s := by simp [State.s, h.odo]

theorem profile {s t : State} (h : Inner s t) : t.profile = s.profile := by
  have ha := h.auth
  have h1 : t.auth.profiles = s.auth.profiles := by rw [ha]
  have h2 : t.auth.active = s.auth.active := by rw [ha]
  simp [State.profile, h1, h2]

end Inner

/-! ### Plain updates -/

theorem setEntries_inner (es : List ClaimEntry) (s : State) : Inner s (setEntries es s) :=
  ⟨rfl, rfl, rfl, rfl, rfl, rfl, rfl, rfl, rfl, rfl, rfl, List.prefix_refl _, id, rfl, rfl⟩

theorem modifyEntry_inner (z : Nat) (f : ClaimEntry → ClaimEntry) (s : State) : Inner s (modifyEntry z f s) :=
  ⟨rfl, rfl, rfl, rfl, rfl, rfl, rfl, rfl, rfl, rfl, rfl, List.prefix_refl _, id, rfl, rfl⟩

theorem setHorizon_inner (h : Int) (s : State) : Inner s (setHorizon h s) :=
  ⟨rfl, rfl, rfl, rfl, rfl, rfl, rfl, rfl, rfl, rfl, rfl, List.prefix_refl _, id, rfl, rfl⟩

theorem setCeiling_inner (v : Nat) (s : State) : Inner s (setCeiling v s) :=
  ⟨rfl, rfl, rfl, rfl, rfl, rfl, rfl, rfl, rfl, rfl, rfl, List.prefix_refl _, id, rfl, rfl⟩

theorem setOverrun_inner (s : State) : Inner s (setOverrun s) :=
  ⟨rfl, rfl, rfl, rfl, rfl, rfl, rfl, rfl, rfl, rfl, rfl, List.prefix_refl _, id, rfl, rfl⟩

theorem clearFull_inner (s : State) : Inner s (clearFull s) :=
  ⟨rfl, rfl, rfl, rfl, rfl, rfl, rfl, rfl, rfl, rfl, rfl, List.prefix_refl _, id, rfl, rfl⟩

theorem lowerHorizon_inner (s : State) : Inner s (lowerHorizon s) := setHorizon_inner _ s

theorem removeZones_inner (zs : List Nat) (s : State) : Inner s (removeZones zs s) := setEntries_inner _ s

theorem addEntry_inner (e : ClaimEntry) (s : State) : Inner s (addEntry e s) := setEntries_inner _ s

theorem startRecompute_inner (s : State) : Inner s (startRecompute s) := setHorizon_inner _ s

theorem reorder_inner (s : State) : Inner s (reorder s) := by
  unfold reorder; exact .ite (setEntries_inner _ s) (.refl s)

/-! ### Notices, urgent requests, the ceiling line -/

theorem raiseNotice_inner (n : Notice) (s : State) : Inner s (raiseNotice n s) := by
  unfold raiseNotice
  split
  · rename_i h
    refine ⟨rfl, rfl, rfl, rfl, rfl, rfl, rfl, rfl, rfl, rfl, rfl, List.prefix_append _ _, fun _ => ?_, rfl, rfl⟩
    simp only [maxNotices] at h
    simp only [List.length_append, List.length_cons, List.length_nil]
    omega
  · exact ⟨rfl, rfl, rfl, rfl, rfl, rfl, rfl, rfl, rfl, rfl, rfl, List.prefix_refl _, id, rfl, rfl⟩

theorem urgentRequest_inner (s : State) : Inner s (urgentRequest s) := by
  unfold urgentRequest
  split
  · exact .refl s
  · exact ⟨rfl, rfl, rfl, rfl, rfl, rfl, rfl, rfl, rfl, rfl, rfl, List.prefix_refl _, id, rfl, rfl⟩

theorem sendWord_inner (v : Nat) (s : State) : Inner s (sendWord v s) := by
  unfold sendWord
  split
  · split <;> exact ⟨rfl, rfl, rfl, rfl, rfl, rfl, rfl, rfl, rfl, rfl, rfl, List.prefix_refl _, id, rfl, rfl⟩
  · exact .refl s

theorem holdBack_inner (z : Nat) (s : State) : Inner s (holdBack z s) := by
  unfold holdBack
  refine .ite (.refl s) (.trans ?_ (raiseNotice_inner _ _))
  exact ⟨rfl, rfl, rfl, rfl, rfl, rfl, rfl, rfl, rfl, rfl, rfl, List.prefix_refl _, id, rfl, rfl⟩

theorem limitLost_inner (s : State) : Inner s (limitLost s) := by
  unfold limitLost
  exact .ite ((setCeiling_inner _ _).trans (sendWord_inner _ _)) (.refl s)

theorem dropCeiling_inner (s : State) : Inner s (dropCeiling s) := by
  unfold dropCeiling
  exact .ite ((setCeiling_inner _ _).trans (sendWord_inner _ _)) (.refl s)

theorem tickCeiling_inner (s : State) : Inner s (tickCeiling s) := by
  unfold tickCeiling
  exact (setCeiling_inner _ _).trans (sendWord_inner _ _)

/-! ### Commit tests and re-evaluation -/

theorem commitTest_inner (z : Nat) (s : State) : Inner s (commitTest z s) := by
  unfold commitTest
  split
  · exact .refl s
  · exact .ite ((modifyEntry_inner _ _ _).trans (urgentRequest_inner _)) (.refl s)

theorem commitAll_inner (s : State) : Inner s (commitAll s) := Inner.foldl (fun s z => commitTest_inner z s) _ s

theorem reevaluate_inner (z : Nat) (s : State) : Inner s (reevaluate z s).1 := by
  unfold reevaluate
  split
  · exact .refl s
  · split
    · split
      · exact modifyEntry_inner _ _ _
      · split
        · exact (modifyEntry_inner _ _ _).trans ((urgentRequest_inner _).trans (commitTest_inner _ _))
        · exact .refl s
    · split <;> exact modifyEntry_inner _ _ _
    all_goals exact .refl s

theorem reevaluatePass_inner (sel : Nat → Bool) :
    ∀ (zs : List Nat) (granted : Bool) (s : State), Inner s (reevaluatePass sel zs granted s)
  | [], _, s => .refl s
  | z :: zs, granted, s => by
    unfold reevaluatePass
    exact .ite ((reevaluate_inner z s).trans (reevaluatePass_inner sel zs _ _)) (reevaluatePass_inner sel zs _ s)

theorem reevaluateZones_inner (sel : Nat → Bool) (s : State) : Inner s (reevaluateZones sel s) :=
  reevaluatePass_inner _ _ _ _

theorem grantRun_inner (z : Nat) (s : State) : Inner s (grantRun z s) := reevaluatePass_inner _ _ _ _

theorem announce_inner (z : Nat) (s : State) : Inner s (announce z s) :=
  (modifyEntry_inner _ _ _).trans ((urgentRequest_inner _).trans (reevaluate_inner _ _))

theorem announceQueued_inner (s : State) : Inner s (announceQueued s) :=
  Inner.foldl (fun s z => announce_inner z s) _ s

/-! ### Conflict, occupant claims, OVERRUN, recompute -/

theorem recordConflict_inner (z n : Nat) (s : State) : Inner s (recordConflict z n s) := by
  unfold recordConflict
  have h : Inner s { s with
      window := { s.window with conflicts := (conflictRecords z n s.window.conflicts).1 }
      auth := { s.auth with
        causes := { s.auth.causes with conflict := !(conflictRecords z n s.window.conflicts).1.isEmpty } } } :=
    ⟨rfl, rfl, rfl, rfl, rfl, rfl, rfl, rfl, rfl, rfl, rfl, List.prefix_refl _, id, rfl, rfl⟩
  exact .ite (h.trans (raiseNotice_inner _ _)) h

theorem occupantTest_inner (z : Nat) (p : Peer) (s : State) : Inner s (occupantTest z p s) := by
  unfold occupantTest
  split
  · exact .refl s
  · refine .ite (.ite ?_ ?_) (.refl s)
    · exact (recordConflict_inner _ _ _).trans (lowerHorizon_inner _)
    · exact recordConflict_inner _ _ _

theorem occupantTests_inner (z : Nat) (s : State) : Inner s (occupantTests z s) :=
  Inner.foldl (fun s p => occupantTest_inner z p s) _ s

theorem occupantHeld_inner (z : Nat) (s : State) : Inner s (occupantHeld z s) :=
  (urgentRequest_inner s).trans ((occupantTests_inner z _).trans (grantRun_inner z _))

theorem occupantClaim_inner (z : Nat) (s : State) : Inner s (occupantClaim z s) := by
  unfold occupantClaim
  split
  · exact .ite ((addEntry_inner _ _).trans (occupantHeld_inner _ _)) (holdBack_inner _ _)
  · exact .ite (modifyEntry_inner _ _ _) ((modifyEntry_inner _ _ _).trans (occupantHeld_inner _ _))

theorem raiseOverrun_inner (s : State) : Inner s (raiseOverrun s) := by
  unfold raiseOverrun
  have h1 : Inner s (if s.auth.causes.any then setOverrun s else dropCeiling (lowerHorizon (setOverrun s))) :=
    .ite (setOverrun_inner s)
      ((setOverrun_inner s).trans ((lowerHorizon_inner _).trans (dropCeiling_inner _)))
  exact h1.trans ((raiseNotice_inner _ _).trans
    ((Inner.foldl (fun t z => occupantClaim_inner z t) _ _).trans (setHorizon_inner _ _)))

theorem overrunTest_inner (s : State) : Inner s (overrunTest s) := by
  unfold overrunTest
  exact .ite (raiseOverrun_inner s) (.refl s)

theorem recomputeCeiling_inner (s : State) : Inner s (recomputeCeiling s) := by
  unfold recomputeCeiling
  exact (overrunTest_inner s).trans (.ite ((setCeiling_inner _ _).trans (sendWord_inner _ _)) (.refl _))

theorem immediateRecompute_inner (s : State) : Inner s (immediateRecompute s) := by
  unfold immediateRecompute
  refine .ite ?_ (.refl s)
  exact .ite ((lowerHorizon_inner s).trans (recomputeCeiling_inner _)) (lowerHorizon_inner s)

theorem releaseEntry_inner (z : Nat) (s : State) : Inner s (releaseEntry z s) :=
  (modifyEntry_inner _ _ _).trans ((urgentRequest_inner _).trans (immediateRecompute_inner _))

theorem yieldEntry_inner (z n : Nat) (s : State) : Inner s (yieldEntry z n s) :=
  (modifyEntry_inner _ _ _).trans
    ((urgentRequest_inner _).trans ((raiseNotice_inner _ _).trans (immediateRecompute_inner _)))

theorem yieldAtCommand_inner (z : Nat) (s : State) : Inner s (yieldAtCommand z s) :=
  (modifyEntry_inner _ _ _).trans
    ((urgentRequest_inner _).trans ((raiseNotice_inner _ _).trans (immediateRecompute_inner _)))

theorem conflictOutcome_inner (z n : Nat) (s : State) : Inner s (conflictOutcome z n s) := by
  unfold conflictOutcome
  exact .ite (recordConflict_inner _ _ _) ((recordConflict_inner _ _ _).trans (immediateRecompute_inner _))

theorem doubleHoldTest_inner (z n : Nat) (c : Claim) (s : State) : Inner s (doubleHoldTest z n c s) := by
  refine (commitTest_inner z s).trans ?_
  unfold doubleHoldTest
  dsimp only
  split
  · exact .refl _
  · refine .ite (.refl _) ?_
    split
    · exact conflictOutcome_inner _ _ _
    · exact .refl _
    · exact yieldEntry_inner _ _ _
    · exact .ite (yieldEntry_inner _ _ _) (.refl _)

/-! ### Listing and the delivery of needing cells -/

theorem reviveEntry_inner (z : Nat) (s : State) : Inner s (reviveEntry z s) :=
  (modifyEntry_inner _ _ _).trans
    ((reorder_inner _).trans ((urgentRequest_inner _).trans ((commitTest_inner _ _).trans (grantRun_inner _ _))))

theorem listZone_inner (z : Nat) (s : State) : Inner s (listZone z s) := by
  refine (addEntry_inner (entryFor z s.route.cells) s).trans ?_
  unfold listZone
  simp only
  split
  · exact announce_inner _ _
  · exact .ite (occupantClaim_inner _ _) (.refl _)
  all_goals exact .refl _

theorem listZones_inner : ∀ (zs : List Nat) (s : State), Inner s (listZones zs s).1
  | [], s => .refl s
  | z :: zs, s => by
    unfold listZones
    split
    · refine .trans ?_ (listZones_inner zs _)
      exact .ite (reviveEntry_inner _ _) (.refl s)
    · split
      · exact (listZone_inner z s).trans (listZones_inner zs _)
      · exact holdBack_inner _ _

theorem listingTest_inner (s : State) : Inner s (listingTest s) := by
  unfold listingTest
  refine .ite (.ite ?_ ?_) (.refl s)
  · exact listZones_inner _ s
  · exact (listZones_inner _ s).trans (clearFull_inner _)

theorem deliverNeeds_inner (s : State) : Inner s (deliverNeeds s) := by
  unfold deliverNeeds
  exact (setEntries_inner _ _).trans ((Inner.foldl (fun s z => releaseEntry_inner z s) _ _).trans
    ((removeZones_inner _ _).trans (reevaluateZones_inner _ _)))

theorem deliver_inner (s : State) : Inner s (deliver s) := (deliverNeeds_inner s).trans (listingTest_inner _)

theorem giveUpAhead_inner (s : State) : Inner s (giveUpAhead s) := by
  unfold giveUpAhead
  exact (Inner.foldl (fun s z => releaseEntry_inner z s) _ _).trans
    ((removeZones_inner _ _).trans (reevaluateZones_inner _ _))

/-! ### What the Claim Window takes from the other blocks -/

theorem windowTakes_inner (b : Beacon) (zones : List Nat) (s : State) : Inner s (windowTakes b zones s) := by
  refine .trans (Inner.foldl ?_ (doubleHeld b s) s) (reevaluateZones_inner _ _)
  intro s z
  simp only [testAgainst]
  split
  · exact doubleHoldTest_inner _ _ _ _
  · exact .refl s

theorem settleExpires_inner (z : Nat) (s : State) : Inner s (settleExpires z s) :=
  (modifyEntry_inner _ _ _).trans (reevaluateZones_inner _ _)

theorem gridlockOut_inner (z : Nat) (s : State) : Inner s (gridlockOut z s) := by
  unfold gridlockOut
  split
  · exact (raiseNotice_inner _ _).trans (modifyEntry_inner _ _ _)
  · exact .refl s

theorem waitRise_inner (s : State) : Inner s (waitRise s) := (setEntries_inner _ s).trans (reevaluateZones_inner _ _)

theorem windowCompletes_inner (s : State) : Inner s (windowCompletes s) := by
  unfold windowCompletes
  have h := (setEntries_inner (s.window.entries.map ClaimEntry.completed) s).trans ((removeZones_inner
    (((s.window.entries.map ClaimEntry.completed).filter ClaimEntry.departs).map ClaimEntry.zone) _).trans
    (reevaluateZones_inner (fun z =>
      ((s.window.entries.filter (fun e => completionTouches e e.completed)).map ClaimEntry.zone).contains z ||
      (zonesAfter ClaimEntry.departs (s.window.entries.map ClaimEntry.completed)).contains z) _))
  exact .ite h (h.trans (listingTest_inner _))

end Sys2Proof.Machine
end

