-- ==== Sys2Proof/Laws/Events.lean ====
section
/-! SUPPORT. How every event ends (finish), and what the two kinds of event do around their work. -/

namespace Sys2Proof.Machine

/-! ### The outbound line -/

theorem startMessage_eq (c : OutContent) (k : Byte) (p : List Byte) (s : State) :
    startMessage c k p s = { s with port := { s.port with
      out := some ⟨c, envelope k p, s.now + (envelope k p).length * portByteTime⟩ } } := rfl

/-- The next message changes the port only. -/
theorem startNext_eq (s : State) : startNext s = { s with port := (startNext s).port } := by
  unfold startNext
  split
  · rfl
  · split
    · rfl
    · split
      · rfl
      · split <;> rfl

theorem serveOutbound_eq (s : State) : serveOutbound s = { s with port := (serveOutbound s).port } := by
  unfold serveOutbound
  split
  · rfl
  · exact startNext_eq s

/-- What the next message leaves of the port. -/
theorem startNext_port (s : State) :
    (startNext s).port.inbound = s.port.inbound ∧ (startNext s).port.inGap = s.port.inGap ∧
      (startNext s).port.restartPending = s.port.restartPending ∧ (startNext s).port.statusAt = s.port.statusAt ∧
      (startNext s).port.counters = s.port.counters := by
  unfold startNext
  split
  · exact ⟨rfl, rfl, rfl, rfl, rfl⟩
  · split
    · exact ⟨rfl, rfl, rfl, rfl, rfl⟩
    · split
      · exact ⟨rfl, rfl, rfl, rfl, rfl⟩
      · split <;> exact ⟨rfl, rfl, rfl, rfl, rfl⟩

theorem serveOutbound_port (s : State) :
    (serveOutbound s).port.inbound = s.port.inbound ∧ (serveOutbound s).port.inGap = s.port.inGap ∧
      (serveOutbound s).port.restartPending = s.port.restartPending ∧
      (serveOutbound s).port.statusAt = s.port.statusAt ∧ (serveOutbound s).port.counters = s.port.counters := by
  unfold serveOutbound
  split
  · exact ⟨rfl, rfl, rfl, rfl, rfl⟩
  · exact startNext_port s

/-- The line is busy: nothing starts. -/
theorem serveOutbound_busy {s : State} (h : s.port.out.isSome = true) : serveOutbound s = s := by
  simp [serveOutbound, h]

/-- The line is free and a reply waits: the oldest goes out (R164). -/
theorem serveOutbound_reply {s : State} {r : Reply} {rs : List Reply} (h : s.port.out = none)
    (hr : s.port.replies = r :: rs) :
    (serveOutbound s).port = { s.port with
      replies := rs
      out := some ⟨.reply r, envelope kindReply r.payload,
        s.now + (envelope kindReply r.payload).length * portByteTime⟩ } := by
  simp [serveOutbound, startNext, h, hr, startMessage]

/-! ### The STOP line -/

theorem reassessLine_eq (s : State) :
    reassessLine s = { s with stopLine := stopLevel s, port := (reassessLine s).port } := by
  unfold reassessLine raiseNotice
  dsimp only
  repeat' split
  all_goals rfl

theorem reassessLine_carrier {s : State} (h : s.isCarrier = true) :
    reassessLine s = { s with stopLine := stopLevel s } := by
  simp [reassessLine, h]

/-- The reassessment leaves of the port all but the notices. -/
theorem reassessLine_port (s : State) :
    (reassessLine s).port =
      { s.port with notices := (reassessLine s).port.notices, dropped := (reassessLine s).port.dropped } := by
  unfold reassessLine raiseNotice
  dsimp only
  repeat' split
  all_goals rfl

/-! ### The end of an event -/

/-- The end of an event changes relevant flags, the STOP line and the port only. -/
theorem finish_eq (s : State) :
    finish s = { s with
      table := (refreshRelevance s).table, stopLine := stopLevel (refreshRelevance s), port := (finish s).port } := by
  unfold finish
  rw [serveOutbound_eq, reassessLine_eq]
  rfl

@[simp] theorem finish_now (s : State) : (finish s).now = s.now := by rw [finish_eq]
@[simp] theorem finish_station (s : State) : (finish s).station = s.station := by rw [finish_eq]
@[simp] theorem finish_route (s : State) : (finish s).route = s.route := by rw [finish_eq]
@[simp] theorem finish_window (s : State) : (finish s).window = s.window := by rw [finish_eq]
@[simp] theorem finish_odo (s : State) : (finish s).odo = s.odo := by rw [finish_eq]
@[simp] theorem finish_auth (s : State) : (finish s).auth = s.auth := by rw [finish_eq]
@[simp] theorem finish_radio (s : State) : (finish s).radio = s.radio := by rw [finish_eq]
@[simp] theorem finish_pending (s : State) : (finish s).pending = s.pending := by rw [finish_eq]
@[simp] theorem finish_table (s : State) : (finish s).table = (refreshRelevance s).table := by rw [finish_eq]
@[simp] theorem finish_stopLine (s : State) : (finish s).stopLine = stopLevel (refreshRelevance s) := by rw [finish_eq]

/-- The level of the STOP line does not depend on the table or the port. -/
theorem stopLevel_congr {s t : State} (h1 : t.station = s.station) (h2 : t.window = s.window) (h3 : t.auth = s.auth) :
    stopLevel t = stopLevel s := by
  unfold stopLevel State.isCarrier State.cls holdOffAsserted firstUnheldStanding conflictStands isHeld
  rw [h1, h2, h3]

/-- What the end of an event leaves of the port. -/
theorem finish_port (s : State) :
    (finish s).port.inbound = s.port.inbound ∧ (finish s).port.inGap = s.port.inGap ∧
      (finish s).port.restartPending = s.port.restartPending ∧ (finish s).port.statusAt = s.port.statusAt ∧
      (finish s).port.counters = s.port.counters := by
  unfold finish
  have h := serveOutbound_port (reassessLine (refreshRelevance s))
  rw [reassessLine_port] at h
  exact h

/-! ### Events -/

theorem outsideEvent_held {t : Time} {w : State → State} {s : State} (h : s.station.held = true) :
    outsideEvent t w s = s.reach t := by
  simp [outsideEvent, h]

theorem outsideEvent_free {t : Time} {w : State → State} {s : State} (h : s.station.held = false) :
    outsideEvent t w s = finish (w (s.reach t)) := by
  simp [outsideEvent, h]

theorem timedEvent_none (w : State → State) (s : State) : timedEvent none w s = s := rfl

theorem timedEvent_some {t : Time} {w : State → State} {s : State} (h : s.station.held = false) :
    timedEvent (some t) w s = finish (w (s.reach t)) := by
  simp [timedEvent, h]

end Sys2Proof.Machine
end

