-- ==== Sys2Proof/Laws/Isqrt.lean ====
section
/-! SUPPORT. The integer square root is the floor of the square root (00_scope.md section 5). -/

namespace Sys2Proof.Machine

/-- The search keeps the square of its value at most `n`, and ends at the floor of the root when `n` lies below the
square of the first value the steps cannot reach. -/
theorem isqrtFrom_spec (n : Nat) : ∀ (k r : Nat), r * r ≤ n → n < (r + 2 ^ (k + 1)) * (r + 2 ^ (k + 1)) →
    isqrtFrom n k r * isqrtFrom n k r ≤ n ∧ n < (isqrtFrom n k r + 1) * (isqrtFrom n k r + 1)
  | 0, r, h, hn => by
    unfold isqrtFrom
    split
    · rename_i h1
      exact ⟨h1, by simpa using hn⟩
    · rename_i h1
      exact ⟨h, by omega⟩
  | k + 1, r, h, hn => by
    unfold isqrtFrom
    split
    · rename_i h1
      refine isqrtFrom_spec n k _ h1 ?_
      have : r + 2 ^ (k + 1) + 2 ^ (k + 1) = r + 2 ^ (k + 1 + 1) := by rw [Nat.pow_succ 2 (k + 1)]; omega
      rwa [this]
    · rename_i h1
      exact isqrtFrom_spec n k r h (by omega)

theorem isqrt_spec {n : Nat} (h : n < 2 ^ 64) : isqrt n * isqrt n ≤ n ∧ n < (isqrt n + 1) * (isqrt n + 1) := by
  have e : (0 + 2 ^ (31 + 1)) * (0 + 2 ^ (31 + 1)) = 2 ^ 64 := by
    rw [Nat.zero_add, ← Nat.pow_add]
  have h' : n < (0 + 2 ^ (31 + 1)) * (0 + 2 ^ (31 + 1)) := by rw [e]; exact h
  exact isqrtFrom_spec n 31 0 (Nat.zero_le n) h'

theorem isqrt_zero : isqrt 0 = 0 := by
  have h := (isqrt_spec (n := 0) (by decide)).1
  generalize isqrt 0 = x at h ⊢
  cases x with
  | zero => rfl
  | succ k => exact absurd h (by simp)

end Sys2Proof.Machine
end

