-- ==== Sys2Proof/Laws/Radio.lean ====
section
/-! SUPPORT. What a placement, a due time and the start of a beacon do to State: one lemma per outcome. -/

namespace Sys2Proof.Machine

/-! ### The start of a beacon (R134) -/

@[simp] theorem startBeacon_now (b : PendingBeacon) (gap : Time) (s : State) : (startBeacon b gap s).now = s.now := rfl
@[simp] theorem startBeacon_station (b : PendingBeacon) (gap : Time) (s : State) :
    (startBeacon b gap s).station = s.station := rfl
@[simp] theorem startBeacon_route (b : PendingBeacon) (gap : Time) (s : State) :
    (startBeacon b gap s).route = s.route := rfl
@[simp] theorem startBeacon_window (b : PendingBeacon) (gap : Time) (s : State) :
    (startBeacon b gap s).window =
      { s.window with entries := s.window.entries.map (fun e => { e with air := e.airNow }) } := rfl
@[simp] theorem startBeacon_table (b : PendingBeacon) (gap : Time) (s : State) :
    (startBeacon b gap s).table = s.table := rfl
@[simp] theorem startBeacon_odo (b : PendingBeacon) (gap : Time) (s : State) : (startBeacon b gap s).odo = s.odo := rfl
@[simp] theorem startBeacon_auth (b : PendingBeacon) (gap : Time) (s : State) : (startBeacon b gap s).auth = s.auth := rfl
@[simp] theorem startBeacon_port (b : PendingBeacon) (gap : Time) (s : State) : (startBeacon b gap s).port = s.port := rfl
@[simp] theorem startBeacon_stopLine (b : PendingBeacon) (gap : Time) (s : State) :
    (startBeacon b gap s).stopLine = s.stopLine := rfl
@[simp] theorem startBeacon_pending (b : PendingBeacon) (gap : Time) (s : State) :
    (startBeacon b gap s).pending = s.pending := rfl

/-! ### The due time (R133, R136) -/

theorem beaconDueNow_empty {clear : Bool} {s : State} (h : s.radio.slot = none) : beaconDueNow clear s = s := by
  simp [beaconDueNow, h]

theorem beaconDueNow_key {clear : Bool} {s : State} {b : PendingBeacon} (h : s.radio.slot = some b)
    (k : s.radio.tx.isSome = true) :
    beaconDueNow clear s = { s with radio := { s.radio with slot := some { b with arrived := true } } } := by
  simp [beaconDueNow, h, k]

theorem beaconDueNow_clear {s : State} {b : PendingBeacon} (h : s.radio.slot = some b) (k : s.radio.tx = none) :
    beaconDueNow true s = startBeacon b leadTime s := by
  simp [beaconDueNow, h, k]

theorem beaconDueNow_backoff {s : State} {b : PendingBeacon} (h : s.radio.slot = some b) (k : s.radio.tx = none)
    (hb : b.busy < 5) :
    beaconDueNow false s = { s with radio := { s.radio with
      gen := (draw s.radio.gen 1 16).1
      slot := some { b with busy := b.busy + 1, due := s.now + (draw s.radio.gen 1 16).2.toNat * 1000 } } } := by
  simp [beaconDueNow, h, k, hb]

theorem beaconDueNow_drop {s : State} {b : PendingBeacon} (h : s.radio.slot = some b) (k : s.radio.tx = none)
    (hb : ¬b.busy < 5) :
    beaconDueNow false s = countBeaconDrop { s with radio := { s.radio with slot := none } } := by
  simp [beaconDueNow, h, k, hb]

/-! ### Placement (R129) -/

/-- A slot that holds a beacon is left as it is. -/
theorem placeScheduled_full {n : Time} {s : State} (h : s.radio.slot.isSome = true) :
    placeScheduled n s = { s with radio := { s.radio with placementOpen := false } } := by
  simp [placeScheduled, h]

/-- The empty slot is filled; a beacon that is due at once acts as at its due time, with a free level. -/
theorem placeScheduled_empty {n : Time} {s : State} (h : s.radio.slot = none) :
    let q : Int := (s.period / 4 : Nat)
    let due := ((n : Int) + (draw s.radio.gen (-q) q).2 * 1000).toNat
    let placed : Radio := { s.radio with
      placementOpen := false, gen := stepGen s.radio.gen, slot := some ⟨.scheduled, due, 0, false⟩ }
    placeScheduled n s = if due ≤ s.now then
        beaconDueNow (Config.channelClear s.radio.samples)
          { s with radio := { placed with samples := s.radio.samples + 1 } }
      else { s with radio := placed } := by
  simp only [placeScheduled, h, Option.isSome_none, Bool.false_eq_true, if_false]
  rfl

end Sys2Proof.Machine
end

