-- ==== Sys2Proof/Laws/Settled.lean ====
section
/-! SUPPORT. The end of an event on a settled state: it changes nothing, and every end of an event settles. The bytes of a
chunk, each an event with an end of its own, go through these. -/

namespace Sys2Proof.Machine

theorem map_relevant {zones : List Nat} {ps : List Peer} (h : ∀ p ∈ ps, p.relevant = touches zones p.claims) :
    ps.map (fun p => { p with relevant := touches zones p.claims }) = ps := by
  induction ps with
  | nil => rfl
  | cons p ps ih =>
    rw [List.map_cons, ih fun q hq => h q (List.mem_cons_of_mem _ hq), ← h p List.mem_cons_self]

theorem refreshRelevance_agrees {s : State} (h : relevanceAgrees s) : refreshRelevance s = s := by
  unfold refreshRelevance
  rw [map_relevant h]

theorem reassessLine_agrees {s : State} (h : lineAgrees s) : reassessLine s = s := by
  have h' : stopLevel s = s.stopLine := h.symm
  unfold reassessLine
  simp [h']

theorem serveOutbound_served {s : State} (h : lineServed s) : serveOutbound s = s := by
  unfold serveOutbound
  split
  · rfl
  · rename_i ho
    have h' := h (by simpa using ho)
    unfold startNext
    rw [h'.1]
    rcases h'.2 with r | ⟨n, p⟩
    · simp [r]
    · simp [n, p]

/-- The end of an event on a settled state changes nothing. -/
theorem finish_settled {s : State} (h : eventEndInv s) : finish s = s := by
  unfold finish
  rw [refreshRelevance_agrees h.2.2, reassessLine_agrees h.1, serveOutbound_served h.2.1]

/-! ### What the end of an event leaves -/

theorem relevanceAgrees_refresh (s : State) : relevanceAgrees (refreshRelevance s) := by
  intro p hp
  obtain ⟨q, _, rfl⟩ := List.mem_map.1 hp
  rfl

theorem stopLevel_port (s : State) (b : Bool) (x : Port) : stopLevel { s with stopLine := b, port := x } = stopLevel s := rfl

/-- After the arbitration the line carries a message, or nothing that may start waits. -/
theorem lineServed_serveOutbound (s : State) : lineServed (serveOutbound s) := by
  unfold lineServed serveOutbound
  split
  · rename_i h
    intro k
    simp [k] at h
  · rename_i h
    unfold startNext
    split
    · intro k; exact nomatch k
    · rename_i hr
      split
      · rename_i hp
        exact fun _ => ⟨hr, .inl hp⟩
      · split
        · intro k; exact nomatch k
        · rename_i hn
          split
          · intro k; exact nomatch k
          · rename_i hq
            exact fun _ => ⟨hr, .inr ⟨hn, by simpa using hq⟩⟩

/-- Every end of an event settles. -/
theorem eventEndInv_finish (s : State) : eventEndInv (finish s) := by
  refine ⟨?_, lineServed_serveOutbound _, ?_⟩
  · show (finish s).stopLine = stopLevel (finish s)
    rw [finish_eq]
    rfl
  · intro p hp
    rw [finish_table] at hp
    have := relevanceAgrees_refresh s p hp
    rw [this, finish_eq]
    rfl

theorem finish_finish (s : State) : finish (finish s) = finish s := finish_settled (eventEndInv_finish s)

/-! ### Bytes of a chunk (R157) -/

theorem portBytes_nil (s : State) : portBytes [] s = s := rfl

theorem portBytes_cons (x : Byte) (xs : List Byte) (s : State) :
    portBytes (x :: xs) s = portBytes xs (finish (portByte x s)) := rfl

theorem portBytes_append (xs ys : List Byte) (s : State) :
    portBytes (xs ++ ys) s = portBytes ys (portBytes xs s) := by
  simp [portBytes, List.foldl_append]

/-- The assembler and its gap timer have no part in what settles. -/
theorem eventEndInv_setInbound {a : PortAssembler} {g : Option Time} {s : State} (h : eventEndInv s) :
    eventEndInv (setInbound a g s) := h

theorem eventEndInv_reach {t : Time} {s : State} (h : eventEndInv s) : eventEndInv (s.reach t) := h

theorem eventEndInv_countPortBad {s : State} (h : eventEndInv s) : eventEndInv (countPortBad s) := h

/-- A byte that the assembler keeps is an event that changes the assembler alone. -/
theorem finish_setInbound {a : PortAssembler} {g : Option Time} {s : State} (h : eventEndInv s) :
    finish (setInbound a g s) = setInbound a g s := finish_settled (eventEndInv_setInbound h)

end Sys2Proof.Machine
end

