-- ==== Sys2Proof/Tests/Slice0.lean ====
section
/-! SUPPORT. Tests: well-formedness, the spec's worked figures, and for every obligation with hypotheses a state and
operands that meet them, clause by clause. -/

namespace Sys2Proof.Tests

open Sys2Proof Sys2Proof.Machine

/-! ### Small states -/

def carrierWord : ConfigWord := ⟨7, .carrier, 0, 0, 100, 20, 1, 1, 0⟩
def craneWord : ConfigWord := ⟨9, .fixed, 0, 0, 0, 0, 1, 1, 0⟩

/-- A cell of 8 m that needs one zone, with a stop point and a marker in its middle. -/
def cellOf (z : Nat) : RouteCell := ⟨100 + z, 8000, [z], 5000, 1, some 4000, [⟨500 + z, 4000⟩]⟩

def badCell : RouteCell := { cellOf 1 with length := 999 }

def entryOf (z k : Nat) (st : ClaimState) : ClaimEntry :=
  { zone := z, state := st, first := some k, last := some k, urgency := 1, wait := 3, carried := 3, settle := .expired,
    announce := 2, committed := false, released := 0, blockedSince := none, gridlock := false, air := .none }

def claimOf (z : Nat) (kind : ClaimKind) : Claim := ⟨z, kind, false, 1, 3⟩

def peerOf (n : Nat) (claims : List Claim) : Peer := ⟨n, .carrier, 0, false, 5, .live, 300000, claims, true⟩

/-- A station after its start, with the clock at 0 and every timer ahead. -/
def stationAt (w : ConfigWord) (st : StationState) : State := { State.reset with
  station := { State.reset.station with state := st, cfg := some w }
  table := { State.reset.table with nextTake := some 4000 }
  auth := { State.reset.auth with causes := ⟨false, false, false, false⟩ }
  radio := { State.reset.radio with last := some 0, next := some 100000, placementOpen := true, gen := 7 }
  port := { State.reset.port with statusAt := some 200000 }
  stopLine := decide (w.cls = .fixed) }

/-- A carrier at 4 m in a route of three cells, zone 1 HELD under it, zone 2 ANNOUNCED, zone 3 WAITING. -/
def carrier (st : StationState) : State :=
  let base := stationAt carrierWord st
  { base with
    route := ⟨layCells 0 [cellOf 1, cellOf 2, cellOf 3]⟩
    window := { base.window with entries := [entryOf 1 1 .held, entryOf 2 2 .announced, entryOf 3 3 .waiting] }
    odo := { base.odo with pos := 4000000, nextSample := some 20000, quality := .good } }

/-- A FIXED station with standing claims on zones 1 and 2, both HELD. -/
def crane (st : StationState) : State :=
  let base := stationAt craneWord st
  { base with
    window := { base.window with
      standing := [⟨1, 1⟩, ⟨2, 1⟩]
      entries := [entryOf 1 0 .held, entryOf 2 0 .held].map (fun e => { e with first := none, last := none }) }
    stopLine := decide (st ≠ .active) }

/-- A message on the outbound line. -/
def busyLine (s : State) : State := { s with port := { s.port with out := some ⟨.status, [], 1000⟩ } }

def withEntries (es : List ClaimEntry) (s : State) : State := { s with window := { s.window with entries := es } }

def withPeers (ps : List Peer) (s : State) : State := { s with table := { s.table with peers := ps } }

theorem laidFrom_layCells (x : Int) (cs : List RouteCell) : laidFrom x (layCells x cs) := by
  induction cs generalizing x with
  | nil => trivial
  | cons c cs ih => exact ⟨rfl, ih _⟩

/-- The state a command leads to. -/
def after (c : Instr) (s : State) : State :=
  match exec c s with
  | .next t => t
  | _ => s

/-! ### Well-formedness: an ill-formed term for each check -/

theorem test_wf_word : (Instr.configReadComplete 0 carrierWord).wf = true := by decide
theorem test_wf_word_station : (Instr.configReadComplete 0 { carrierWord with station := 4096 }).wf = false := by decide
theorem test_wf_word_period : (Instr.configReadComplete 0 { carrierWord with periodCode := 4 }).wf = false := by decide
theorem test_wf_word_listen : (Instr.configReadComplete 0 { carrierWord with listenCode := 4 }).wf = false := by decide
theorem test_wf_word_length : (Instr.configReadComplete 0 { carrierWord with carrierLength := 256 }).wf = false := by decide
theorem test_wf_word_offset : (Instr.configReadComplete 0 { carrierWord with readerOffset := 256 }).wf = false := by decide
theorem test_wf_word_num : (Instr.configReadComplete 0 { carrierWord with num := 0 }).wf = false ∧
    (Instr.configReadComplete 0 { carrierWord with num := 257 }).wf = false := by decide
theorem test_wf_word_den : (Instr.configReadComplete 0 { carrierWord with den := 0 }).wf = false ∧
    (Instr.configReadComplete 0 { carrierWord with den := 257 }).wf = false := by decide
theorem test_wf_word_mode : (Instr.configReadComplete 0 { carrierWord with modeCode := 4 }).wf = false := by decide
theorem test_wf_payload : (Instr.routeAppend 0 (List.replicate 250 0)).wf = true ∧
    (Instr.routeAppend 0 (List.replicate 251 0)).wf = false := by decide +kernel
theorem test_wf_kind : (Instr.nonCommandMessage 0 16 []).wf = true ∧ (Instr.nonCommandMessage 0 15 []).wf = false ∧
    (Instr.nonCommandMessage 0 1 []).wf = false ∧
    (Instr.nonCommandMessage 0 0 (List.replicate 251 0)).wf = false := by decide +kernel
theorem test_wf_marker : (Instr.markerArrival 0 0 0 0).wf = false ∧ (Instr.markerArrival 0 65536 0 0).wf = false ∧
    (Instr.markerArrival 0 1 0 0).wf = true := by decide
theorem test_wf_station : (Instr.peerStale 0).wf = false ∧ (Instr.peerLost 4095).wf = false := by decide
theorem test_wf_zone : (Instr.settleExpiry 0).wf = false ∧ (Instr.gridlock 4096).wf = false := by decide

/-- No row of the table gives bits. -/
theorem test_no_word_decodes : decodeTableWord 8 0 = none ∧ decodeTableWord 16 65535 = none := by decide

/-! ### Formats: figures of 11_formats.md -/

theorem test_crc_check_value :
    crc16 [0x31, 0x32, 0x33, 0x34, 0x35, 0x36, 0x37, 0x38, 0x39] = 0x29B1#16 := by decide +kernel
theorem test_beacon_frame_bytes :
    (Beacon.frame ⟨7, .carrier, true, false, 1, 1, [⟨201, .hold, true, 2, 0⟩, ⟨202, .hold, true, 2, 0⟩]⟩).take 13 =
      [0xA5, 0x0B, 0x00, 0x74, 0x00, 0x01, 0x48, 0x0C, 0x9E, 0x00, 0x0C, 0xAE, 0x00] := by decide +kernel
theorem test_ceiling_word_bytes : ceilingWordBytes 3885 = [0x9E, 0x2D] ∧ ceilingWordBytes 0 = [0x80, 0x00] := by decide
theorem test_committed_request_is_stored_clear : (Claim.ofBits (201 * 4096 + 1024)).committed = false := by decide

/-! ### Start: figures of 10 -/

theorem test_config_checks :
    failedCheck carrierWord = 0 ∧ failedCheck craneWord = 0 ∧ failedCheck { carrierWord with station := 0 } = 1 ∧
      failedCheck { carrierWord with station := 4095 } = 1 ∧ failedCheck { craneWord with periodCode := 3 } = 2 ∧
      failedCheck { carrierWord with carrierLength := 39 } = 3 ∧
      failedCheck { carrierWord with carrierLength := 161 } = 3 ∧
      failedCheck { carrierWord with readerOffset := 101 } = 4 ∧
      failedCheck { carrierWord with num := 1, den := 65 } = 5 ∧
      failedCheck { carrierWord with num := 65, den := 1 } = 5 ∧
      failedCheck { carrierWord with num := 1, den := 64 } = 0 ∧ failedCheck { carrierWord with modeCode := 3 } = 6 ∧
      failedCheck { craneWord with modeCode := 3 } = 0 := by decide
theorem test_config_faults_set :
    (after (.configReadComplete 10 { carrierWord with modeCode := 3 }) State.reset).station.fault = 6 ∧
      (after (.configReadComplete 10 craneWord) State.reset).station.state = .listen := by decide +kernel

/-! ### Motion: figures of 05 -/

/-- The worked sample at a learned trim: M = 157, N = 200, trim 65,668, 127 and 128 pulses. -/
def learned : State :=
  let base := carrier .active
  { base with
    station := { base.station with cfg := some { carrierWord with num := 157, den := 200 } }
    odo := { base.odo with trim := 65668, pos := 0 } }

def firstSample : State := after (.odometrySample 127 128) learned

theorem test_first_sample :
    firstSample.odo.chA.remainder = 10508000 ∧ firstSample.odo.chB.remainder = 5017600 ∧
      firstSample.odo.travel = 100288 ∧ firstSample.odo.pos = 100288 ∧ firstSample.odo.slip = false := by decide +kernel
theorem test_second_sample_slips :
    (after (.odometrySample 127 166) firstSample).odo.travel = 100288 + 99896 ∧
      (after (.odometrySample 127 166) firstSample).odo.slip = true ∧
      (after (.odometrySample 127 166) firstSample).odo.chB.remainder = 11115200 := by decide +kernel

/-- A second marker on a straight run: the trim before, the surveyed distance and the measured one. -/
def learnedTrim (trim : Nat) (surveyed measured : Nat) : Nat :=
  let base := carrier .active
  let at' : Int := 4000
  (after (.markerArrival 0 501 0 0) { base with
    odo := { base.odo with
      trim := trim, pos := (at' + 2000) * 1000, travel := measured * 1000
      lastMarker := some ⟨500, at' - surveyed, 0⟩ } }).odo.trim

theorem test_trim_learning :
    learnedTrim 65536 20000 19840 = 65668 ∧ learnedTrim 65536 20000 20160 = 65406 ∧ learnedTrim 65536 10000 9000 = 65792 ∧
      learnedTrim 69500 10000 9500 = 69632 ∧ learnedTrim 65536 4999 4000 = 65536 := by decide +kernel

/-! ### Rank, generator, root: figures of 02, 07 and 06 -/

theorem test_rank_table :
    outranks 1 0 7 2 40 3 = true ∧ outranks 2 5 7 2 9 19 = false ∧ outranks 2 9 19 2 9 7 = false ∧
      outranks 3 255 7 2 0 12 = false := by decide
theorem test_generator : ((stepGen 7).toNat, (stepGen (stepGen 7)).toNat, (stepGen (stepGen (stepGen 7))).toNat) =
    (46083, 60929, 49920) := by decide
theorem test_roots : isqrt 43200000 = 6572 ∧ isqrt 15200000 = 3898 ∧ isqrt 62400000 = 7899 ∧ isqrt 0 = 0 := by
  decide +kernel

/-- The worked tick of 06 under the LADEN profile. -/
def worked : State :=
  let base := carrier .active
  let cell := fun (z len limit : Nat) => { cellOf z with length := len, limit := limit, stop := none, markers := [] }
  { base with
    route := ⟨layCells 110000 [cell 1 18000 5000, cell 2 10000 2000, cell 3 12000 5000, cell 4 20000 4000]⟩
    window := { base.window with
      entries := [entryOf 1 1 .held, entryOf 2 2 .held, entryOf 3 3 .held, entryOf 4 4 .announced] }
    odo := { base.odo with pos := 120000000, vmeas := 4000 }
    auth := { base.auth with active := .laden, ceiling := 3860, previous := 3860 } }

theorem test_worked_tick :
    (after .authorityTick worked).auth.ceiling = 3885 ∧ (after .authorityTick worked).auth.horizon = 150000 ∧
      ((after .authorityTick worked).window.entries.map ClaimEntry.committed).take 3 = [true, true, false] ∧
      lead worked = 28906 := by decide +kernel
theorem test_overrun_stops :
    let u := after .authorityTick { worked with odo := { worked.odo with pos := 151000000 } }
    u.auth.overrun = true ∧ u.auth.ceiling = 0 ∧ u.stopLine = true := by decide +kernel


/-! ### Witnesses: start and restart -/

theorem witness_RestartReplyOnTheLine :
    (after (.restart 0 []) (carrier .active)).port.out =
      some ⟨.reply ⟨0x0F#8, .accept []⟩, envelope 0x81#8 [0x0F#8, 0x00#8], 280⟩ := by decide +kernel

def heldPart : State := after (.resetLine 5) (carrier .active)

theorem witness_HeldPartTakesNoInput :
    (heldPart.station.lineAsserted = true ∧ heldPart.station.supplyUnsettled = false ∧ heldPart.port.out = none ∧
      (∀ t, Instr.takeFrame ≠ .powerOnReset t ∧ Instr.takeFrame ≠ .resetLine t) ∧
      ∀ e, Instr.takeFrame ≠ .resetRelease e) ∧
    ((after (.powerOnReset 5) (carrier .active)).station.supplyUnsettled = true ∧
      (after (.powerOnReset 5) (carrier .active)).station.lineAsserted = false) ∧
    ((after (.powerOnReset 6) heldPart).station.supplyUnsettled = true ∧
      (after (.powerOnReset 6) heldPart).station.lineAsserted = true) ∧
    (State.reset.station.supplyUnsettled = false ∧ State.reset.station.lineAsserted = false) :=
  ⟨⟨by decide, by decide, by decide, fun _ => ⟨nofun, nofun⟩, nofun⟩, by decide, by decide, by decide⟩

/-- Held by line and supply: the part runs at the later of the two ends, in either order. -/
theorem test_two_holds :
    let both := after (.powerOnReset 6) heldPart
    (after (.resetRelease ⟨7, .line⟩) both).station.held = true ∧ (after (.resetRelease ⟨7, .supply⟩) both).station.held = true ∧
      (after (.resetRelease ⟨8, .supply⟩) (after (.resetRelease ⟨7, .line⟩) both)).station.held = false ∧
      (after (.resetRelease ⟨8, .line⟩) (after (.resetRelease ⟨7, .supply⟩) both)).auth.outputAt = 50008 := by decide

theorem witness_ConfigurationWordChecked :
    State.reset.station.held = false ∧ State.reset.station.state = .boot ∧ State.reset.station.cfg = none ∧
      State.reset.station.fault = 0 := by decide

theorem witness_LeavingBoot :
    (State.reset.station.held = false ∧ State.reset.station.state = .boot ∧ State.reset.station.cfg = none ∧
      State.reset.route.cells = [] ∧ State.reset.window.entries = [] ∧ State.reset.window.full = false ∧
      State.reset.auth.causes = ⟨true, false, false, false⟩) ∧
    (carrierWord.wf = true ∧ carrierWord.modeCode = 0 ∧ failedCheck carrierWord = 0) ∧
    (ConfigWord.wf { carrierWord with modeCode := 1 } = true ∧ ConfigWord.wf { carrierWord with modeCode := 2 } = true) ∧
    (ConfigWord.wf { carrierWord with station := 0 } = true ∧ failedCheck { carrierWord with station := 0 } ≠ 0) := by
  decide

def listening (w : ConfigWord) (mark : Bool) : State :=
  let base := stationAt w .listen
  { base with station := { base.station with listen := .running 1600000, startMark := mark } }

theorem witness_ListenTimerOutcomes :
    (∀ s ∈ [listening carrierWord false, listening carrierWord true, listening craneWord false],
      s.station.held = false ∧ s.station.state = .listen ∧ s.station.listen = .running 1600000 ∧ eventEndInv s ∧
        ceilingInv s) ∧
    (listening carrierWord false).isCarrier = true ∧ (listening carrierWord true).station.startMark = true ∧
    (listening craneWord false).isCarrier = false ∧ (listening craneWord false).window.standing = [] := by decide +kernel

/-! ### Witnesses: taking a command -/

def fullReplies (s : State) : State :=
  let base := busyLine s
  { base with port := { base.port with replies := List.replicate 4 ⟨0x0E#8, .accept []⟩ } }

theorem witness_PortTakesMessages :
    (∀ s ∈ [carrier .active, fullReplies (carrier .active)],
      s.station.held = false ∧ s.port.restartPending = false ∧ eventEndInv s) ∧
    (commandOf 2 0 [] = some (.routeAppend 0 []) ∧ 4 ≤ (fullReplies (carrier .active)).port.replies.length) ∧
    (¬(1 ≤ (0#8 : Byte).toNat ∧ (0#8 : Byte).toNat ≤ 15) ∧ ¬(1 ≤ (16#8 : Byte).toNat ∧ (16#8 : Byte).toNat ≤ 15) ∧
      (carrier .active).port.replies.length < 4) ∧
    (commandOf 3 0 [] = some (.routeCut 0 []) ∧ fixedLength 3 = some 1 ∧ ([] : List Byte).length ≠ 1) := by
  decide +kernel

/-- Every kind of command is refused in BOOT with BAD_STATE, but for RESTART, which is accepted. -/
theorem test_commands_in_boot :
    (∀ c ∈ [Instr.startPosition 0 [], .routeAppend 0 [], .routeCut 0 [1], .proceed 0 [0, 1], .loadState 0 [], .profileSet 0 [],
        .park 0 [], .unpark 0 [], .resume 0 [], .yieldZone 0 [0, 1], .standClaim 0 [], .standRelease 0 [], .commit 0 [],
        .statusQuery 0 []],
      ((after c State.reset).port.out.map (fun m => (m.bytes.drop 4).take 2)) = some [0x01#8, 0x03#8]) ∧
    ((after (.restart 0 []) State.reset).port.out.map (fun m => (m.bytes.drop 3).take 2)) = some [0x0F#8, 0x00#8] := by
  decide +kernel

def startBytes (x : Int) (cells : List RouteCell) : List Byte :=
  byteOf cells.length :: (beBytes 4 x.toNat ++ cells.flatMap RouteCell.record)

def twoCells : List RouteCell := [cellOf 1, cellOf 2]

theorem witness_StartPositionRefusals :
    (∀ s ∈ [State.reset, stationAt craneWord .listen, stationAt carrierWord .active, stationAt carrierWord .listen],
      ready s ∧ eventEndInv s) ∧
    (State.reset.running = false ∧ (stationAt craneWord .listen).running = true ∧
      (stationAt craneWord .listen).isCarrier = false) ∧
    ((stationAt carrierWord .listen).running = true ∧ (stationAt carrierWord .listen).isCarrier = true ∧
      parseStart [] = none) ∧
    ((stationAt carrierWord .active).running = true ∧ (stationAt carrierWord .active).isCarrier = true ∧
      (stationAt carrierWord .active).station.state ≠ .listen) ∧
    (parseStart (startBytes 8000 [cellOf 1, badCell]) = some (8000, [cellOf 1] ++ badCell :: []) ∧
      (∀ b ∈ [cellOf 1], b.inRange = true) ∧ badCell.inRange = false) ∧
    (parseStart (startBytes 7999 twoCells) = some (7999, twoCells) ∧ (∀ c ∈ twoCells, c.inRange = true) ∧
      (7999 : Int) < ((twoCells.dropLast.map RouteCell.length).sum : Nat)) ∧
    (parseStart (startBytes 16000 twoCells) = some (16000, twoCells) ∧
      ((twoCells.map RouteCell.length).sum : Nat) ≤ (16000 : Int)) := by decide +kernel

theorem witness_StartPositionAccepted :
    (∀ s ∈ [listening carrierWord false,
        after .listenTimerExpiry (listening carrierWord false)],
      ready s ∧ s.station.state = .listen ∧ s.isCarrier = true ∧ windowFits s.window) ∧
    (after .listenTimerExpiry (listening carrierWord false)).station.listen = .expired ∧
    (listening carrierWord false).station.listen ≠ .expired ∧
    (∀ c ∈ twoCells, c.inRange = true) ∧
    ∀ x ∈ [(8000 : Int), 15999],
      parseStart (startBytes x twoCells) = some (x, twoCells) ∧
        ((twoCells.dropLast.map RouteCell.length).sum : Nat) ≤ x ∧ x < ((twoCells.map RouteCell.length).sum : Nat) := by
  decide +kernel

/-- Entries of zones that the two given cells name, RELEASING and QUEUED, and of zones they do not. -/
def claimedBefore : State :=
  withEntries [{ entryOf 1 1 .releasing with released := 1 }, entryOf 2 1 .queued, { entryOf 3 1 .held with committed := true },
    entryOf 4 1 .queued, entryOf 5 1 .releasing] (listening carrierWord false)

theorem witness_StartPositionAccepted_window :
    (ready claimedBefore ∧ claimedBefore.station.state = .listen ∧ claimedBefore.isCarrier = true ∧
      windowFits claimedBefore.window) ∧
    ((after (.startPosition 0 (startBytes 8000 twoCells)) claimedBefore).window.entries.map
        (fun e => (e.zone, e.state, e.committed, e.wait, e.released))) =
      [(1, .held, true, 3, 0), (2, .held, true, 3, 0), (3, .releasing, false, 3, 0), (5, .releasing, false, 3, 0)] := by
  decide +kernel

/-- A route of 64 cells. -/
def fullRoute : State := { carrier .active with
  route := ⟨layCells 0 ([cellOf 1, cellOf 2, cellOf 3] ++ List.replicate 61 (cellOf 1))⟩ }

def withoutRoute : State := withEntries [] { carrier .active with route := ⟨[]⟩ }

theorem routeInv_laid {s : State} (cs : List RouteCell) (h : s.route.cells = layCells 0 cs)
    (r : (s.route.cells.length ≤ 64 ∧ ∀ c ∈ s.route.cells, c.cell.inRange = true) ∧ windowFits s.window ∧
      silentAtStart s ∧ fixedHasNoRoute s ∧ claimsNeeded s ∧ horizonHeld s) : routeInv s :=
  ⟨⟨r.1.1, r.1.2, by rw [h]; exact laidFrom_layCells 0 cs⟩, r.2⟩

def appendBytes (cells : List RouteCell) : List Byte := byteOf cells.length :: cells.flatMap RouteCell.record

theorem witness_RouteAppend :
    (∀ s ∈ [State.reset, crane .active, withoutRoute, fullRoute, carrier .listen, carrier .active, carrier .parked],
      ready s ∧ eventEndInv s) ∧
    (routeInv State.reset ∧ routeInv (crane .active) ∧ routeInv withoutRoute ∧ routeInv fullRoute ∧
      routeInv (carrier .listen) ∧ routeInv (carrier .active) ∧ routeInv (carrier .parked)) ∧
    (State.reset.running = false ∧ (crane .active).running = true ∧ (crane .active).isCarrier = false) ∧
    (∀ s ∈ [withoutRoute, fullRoute, carrier .listen, carrier .active, carrier .parked],
      s.running = true ∧ s.isCarrier = true) ∧
    (parseAppend [] = none ∧ withoutRoute.route.cells = [] ∧ fullRoute.route.cells ≠ []) ∧
    (parseAppend (appendBytes [cellOf 4, badCell]) = some ([cellOf 4] ++ badCell :: []) ∧ badCell.inRange = false) ∧
    (parseAppend (appendBytes [cellOf 4]) = some [cellOf 4] ∧ (cellOf 4).inRange = true) ∧
    (64 < fullRoute.route.cells.length + [cellOf 4].length ∧
      (carrier .active).route.cells.length + [cellOf 4].length ≤ 64) := by
  refine ⟨by decide +kernel, ⟨routeInv_laid [] rfl ?_, routeInv_laid [] rfl ?_, routeInv_laid [] rfl ?_,
    routeInv_laid _ rfl ?_, routeInv_laid _ rfl ?_, routeInv_laid _ rfl ?_, routeInv_laid _ rfl ?_⟩, ?_⟩ <;>
  decide +kernel

/-- The carrier with zone 1, under it, committed. -/
def committedCarrier : State :=
  withEntries [{ entryOf 1 1 .held with committed := true }, entryOf 2 2 .announced, entryOf 3 3 .waiting] (carrier .active)

theorem all_le {o : Option Nat} {n : Nat} (h : o.all (fun k => decide (k ≤ n)) = true) : ∀ k, o = some k → k ≤ n := by
  intro k hk
  simpa [hk] using h

theorem witness_RouteCut :
    (∀ s ∈ [State.reset, crane .active, withoutRoute, carrier .active, committedCarrier],
      ready s ∧ eventEndInv s ∧ ceilingInv s) ∧
    (routeInv State.reset ∧ routeInv (crane .active) ∧ routeInv withoutRoute ∧ routeInv (carrier .active) ∧
      routeInv committedCarrier) ∧
    (withoutRoute.running = true ∧ withoutRoute.isCarrier = true ∧ withoutRoute.route.cells = []) ∧
    (committedCarrier.route.cells ≠ [] ∧
      (∀ e ∈ committedCarrier.window.entries, e.state = .held → e.committed = true →
        ∀ k, lastNeeding e.zone committedCarrier.route.cells = some k → k ≤ 1) ∧
      (∃ e ∈ committedCarrier.window.entries, e.state = .held ∧ e.committed = true ∧
        lastNeeding e.zone committedCarrier.route.cells = some 1)) ∧
    (∀ e ∈ (carrier .active).window.entries, e.state = .held → e.committed = true →
        ∀ k, lastNeeding e.zone (carrier .active).route.cells = some k → k ≤ 0) ∧
    (min (max (3#8 : Byte).toNat (max committedCarrier.front 1)) committedCarrier.route.cells.length =
        committedCarrier.route.cells.length ∧
      min (max (2#8 : Byte).toNat (max committedCarrier.front 1)) committedCarrier.route.cells.length <
        committedCarrier.route.cells.length) := by
  refine ⟨by decide +kernel, ⟨routeInv_laid [] rfl ?_, routeInv_laid [] rfl ?_, routeInv_laid [] rfl ?_,
    routeInv_laid _ rfl ?_, routeInv_laid _ rfl ?_⟩, by decide, ⟨by decide, fun e he hs hc => all_le ?_, by decide⟩,
    fun e he hs hc => all_le ?_, by decide⟩
  any_goals decide +kernel
  · revert e
    decide
  · revert e
    decide

theorem witness_Proceed :
    (∀ s ∈ [State.reset, crane .active, withoutRoute, carrier .active], ready s ∧ eventEndInv s) ∧
    ((carrier .active).running = true ∧ (carrier .active).isCarrier = true) ∧
    (withoutRoute.running = true ∧ withoutRoute.isCarrier = true ∧
      ∀ p, ¬(withoutRoute.front ≤ p ∧ 1 ≤ p ∧ ∃ c, withoutRoute.route.cells[p - 1]? = some c)) ∧
    ((carrier .active).front = 1 ∧ ∃ c, (carrier .active).route.cells[1 - 1]? = some c ∧
      c.cell.ident = (0#8 : Byte).toNat * 256 + (101#8 : Byte).toNat ∧ c.cell.stop ≠ none ∧ c.released = false) :=
  ⟨by decide, by decide, ⟨by decide, by decide, by rintro p ⟨_, _, c, h⟩; exact nomatch h⟩,
    by decide, ⟨cellOf 1, 0, false⟩, by decide⟩

theorem witness_LoadCommands :
    (∀ s ∈ [State.reset, crane .active, carrier .active, carrier .parked], ready s ∧ eventEndInv s) ∧
    (∀ ix : LoadIndex, ([3#8] : List Byte) ≠ [byteOf ix.code]) ∧
    (([2#8] : List Byte) = [byteOf LoadIndex.ladenHigh.code]) ∧
    (([] : List Byte).length ≠ 13 ∧ 2 < ((List.replicate 13 3#8).headD 0).toNat) ∧
    ((carrier .parked).running = true ∧ (carrier .parked).isCarrier = true ∧ (carrier .parked).station.state = .parked) :=
  ⟨by decide, fun ix => by cases ix <;> decide, by decide, by decide, by decide⟩

theorem test_profile_fields_limited :
    (after (.profileSet 0 (profileRecord .laden ⟨499, 199, 99, 499, 49, 30001⟩)) (carrier .parked)).auth.profiles.laden =
      ⟨500, 200, 100, 500, 50, 30000⟩ ∧
    (after (.profileSet 0 (profileRecord .unladen ⟨8001, 3001, 2001, 5001, 1001, 0⟩))
      (carrier .parked)).auth.profiles.unladen = ⟨8000, 3000, 2000, 5000, 1000, 0⟩ := by decide +kernel

def standing (s : State) : State := { s with station := { s.station with standstill := 50 } }

theorem witness_ParkCarrier :
    (∀ s ∈ [carrier .listen, carrier .active, standing (carrier .active)], ready s ∧ eventEndInv s ∧ windowFits s.window) ∧
    (carrier .listen).station.state ≠ .active ∧
    ((carrier .active).isCarrier = true ∧ (carrier .active).station.standstill ≠ 50) ∧
    ((standing (carrier .active)).station.state = .active ∧ (standing (carrier .active)).isCarrier = true ∧
      (standing (carrier .active)).station.standstill = 50 ∧ (standing (carrier .active)).radio.last = some 0) := by decide

/-- The crane with no claim HELD. -/
def waitingCrane : State :=
  let base := crane .active
  { base with
    window := { base.window with
      entries := [entryOf 1 0 .announced, entryOf 2 0 .waiting].map (fun e => { e with first := none, last := none }) }
    stopLine := true }

theorem witness_StandingClaimsGivenUp :
    (∀ s ∈ [State.reset, carrier .active, crane .active, waitingCrane, crane .parked],
      ready s ∧ eventEndInv s ∧ windowFits s.window) ∧
    (State.reset.running = false ∧ (carrier .active).running = true ∧ (carrier .active).isCarrier = true) ∧
    ((crane .active).running = true ∧ (crane .active).isCarrier = false ∧ (crane .active).station.state = .active ∧
      (∃ e ∈ (crane .active).window.entries, e.state = .held) ∧ (crane .active).stopLine = false ∧
      (crane .active).radio.last = some 0) ∧
    (∀ e ∈ waitingCrane.window.entries, e.state ≠ .held) := by decide

/-- Parked at 90 ms with the next nominal instant at 800 ms: at UNPARK the placement point of 100 ms is not ahead. -/
def parkedLate (w : ConfigWord) : State :=
  let base := stationAt w .parked
  { base with
    now := 90000
    radio := { base.radio with parkedSpacing := true, next := some 800000 }
    stopLine := decide (w.cls = .fixed) }

theorem witness_Unpark :
    (∀ s ∈ [carrier .active, carrier .parked, crane .parked, parkedLate carrierWord, parkedLate craneWord],
      ready s ∧ eventEndInv s ∧ ceilingInv s ∧ windowFits s.window) ∧
    ((carrier .parked).station.state = .parked ∧ (carrier .parked).isCarrier = true ∧ (carrier .parked).radio.last = some 0) ∧
    ((crane .parked).station.state = .parked ∧ (crane .parked).isCarrier = false) ∧
    ((parkedLate carrierWord).radio.last = some 0 ∧ (parkedLate carrierWord).radio.slot = none) ∧
    (carrier .active).station.state ≠ .parked := by decide

/-- The placement within UNPARK: due within P ÷ 4 of the instant at 100 ms. -/
theorem test_placement_at_unpark :
    let u := (after (.unpark 0 []) (parkedLate craneWord)).radio
    u.next = some 100000 ∧ u.placementOpen = false ∧ u.slot = some ⟨.scheduled, 105000, 0, false⟩ := by decide +kernel

theorem witness_StatusQueryAndRestart :
    (∀ s ∈ [State.reset, carrier .active], ready s ∧ eventEndInv s) ∧ State.reset.station.state = .boot ∧
      (carrier .active).station.state ≠ .boot := by decide

def inConflict (s : State) : State := { s with
  window := { s.window with conflicts := [⟨1, [5]⟩] }
  auth := { s.auth with causes := { s.auth.causes with conflict := true } }
  stopLine := true }

def holder : Peer := peerOf 5 [claimOf 1 .hold]

/-- An overrun carrier: s at 4,000 mm, the horizon at 0. -/
def overran : State :=
  let base := carrier .active
  { base with
    auth := { base.auth with overrun := true, causes := { base.auth.causes with overrun := true } }
    stopLine := true }

theorem witness_Resume :
    (∀ s ∈ [State.reset, carrier .active, inConflict (carrier .active), inConflict (crane .active),
        withPeers [holder] (inConflict (carrier .active)), overran], ready s ∧ eventEndInv s) ∧
    ((carrier .active).running = true ∧ (carrier .active).window.conflicts = [] ∧ (carrier .active).auth.overrun = false) ∧
    ((withPeers [holder] (inConflict (carrier .active))).window.conflicts = [] ++ ⟨1, [5]⟩ :: [] ∧
      lowestHolding 1 5 (withPeers [holder] (inConflict (carrier .active)))) ∧
    (∀ s ∈ [inConflict (carrier .active), inConflict (crane .active), overran],
      s.running = true ∧ (s.window.conflicts ≠ [] ∨ s.auth.overrun = true) ∧
        ∀ r ∈ s.window.conflicts, ∀ p ∈ s.table.peers, p.holds r.zone = false) ∧
    ((inConflict (carrier .active)).isCarrier = true ∧ (inConflict (crane .active)).isCarrier = false ∧
      (inConflict (crane .active)).stopLine = true) := by decide

def grantedAhead : State := withEntries [entryOf 1 1 .held, entryOf 2 2 .held, entryOf 3 3 .releasing] (carrier .active)

theorem witness_YieldZone :
    (∀ s ∈ [State.reset, crane .active, carrier .active, grantedAhead],
      ready s ∧ eventEndInv s ∧ windowFits s.window ∧ ceilingInv s) ∧
    (grantedAhead.running = true ∧ grantedAhead.isCarrier = true) ∧
    ((0#8 : Byte).toNat * 256 + (4#8 : Byte).toNat ∉ windowZones grantedAhead) ∧
    (entryOf 1 1 .held ∈ grantedAhead.window.entries ∧ isOccupied grantedAhead 1 = true) ∧
    (entryOf 2 2 .announced ∈ (carrier .active).window.entries ∧ (entryOf 2 2 .announced).unheld = true) ∧
    (entryOf 3 3 .releasing ∈ grantedAhead.window.entries) ∧
    (entryOf 2 2 .held ∈ grantedAhead.window.entries ∧ isOccupied grantedAhead 2 = false) := by decide

def idleCrane : State := withPeers [holder] (stationAt craneWord .active)

theorem witness_StandClaim :
    (∀ s ∈ [State.reset, carrier .active, stationAt craneWord .listen, crane .active, stationAt craneWord .active],
      ready s ∧ eventEndInv s) ∧
    parseStanding [] = none ∧
    parseStanding [2, 0, 1, 3, 15, 255, 0] = some [⟨1, 3⟩, ⟨4095, 0⟩] ∧
    ((stationAt craneWord .listen).running = true ∧ (stationAt craneWord .listen).station.state ≠ .active) ∧
    ((crane .active).station.state = .active ∧ (crane .active).window.entries ≠ []) ∧
    ((stationAt craneWord .active).isCarrier = false ∧ (stationAt craneWord .active).station.state = .active ∧
      (stationAt craneWord .active).window.entries = []) := by decide

/-- The third row of R147's table, one payload for each of its conditions. -/
theorem test_standing_payloads_refused :
    ∀ p ∈ ([[0], [9], [1, 0, 1], [1, 0, 1, 0, 0], [1, 0, 0, 0], [1, 0, 1, 4], [2, 0, 1, 0, 0, 1, 1], [1, 16, 0, 0]] : List (List Byte)),
      parseStanding p = none := by decide

theorem test_standing_claim_blocked_at_once :
    ((after (.standClaim 0 [2, 0, 1, 3, 0, 2, 0]) { idleCrane with
      table := { idleCrane.table with peers := [{ holder with relevant := false }] } }).window.entries.map
      ClaimEntry.state) = [.waiting, .announced] := by decide +kernel

def committedCrane : State :=
  withEntries ((crane .active).window.entries.map (fun e => { e with committed := true })) (crane .active)

theorem witness_Commit :
    (∀ s ∈ [State.reset, carrier .active, stationAt craneWord .active, waitingCrane, crane .active, committedCrane],
      ready s ∧ eventEndInv s) ∧
    ((stationAt craneWord .active).running = true ∧ (stationAt craneWord .active).isCarrier = false ∧
      (stationAt craneWord .active).window.standing = []) ∧
    (⟨1, 1⟩ ∈ waitingCrane.window.standing ∧ isHeld waitingCrane 1 = false) ∧
    (∀ s ∈ [crane .active, committedCrane],
      s.window.standing ≠ [] ∧ ∀ r ∈ s.window.standing, isHeld s r.zone = true) ∧
    (∃ e ∈ (crane .active).window.entries, e.state = .held ∧ e.committed = false) ∧
    (∀ e ∈ committedCrane.window.entries, e.committed = true) := by decide

/-! ### Witnesses: the equipment port's lines -/

def restarting (s : State) : State := { s with port := { s.port with restartPending := true } }
def midMessage : State := after (.badMessage 0 [0xC3#8, 0x01#8]) (carrier .active)

theorem witness_BadMessagesAreCounted :
    (∀ s ∈ [restarting (carrier .active), carrier .active, midMessage], s.station.held = false ∧ eventEndInv s) ∧
    ((restarting (carrier .active)).port.restartPending = true ∧ (carrier .active).port.restartPending = false ∧
      (carrier .active).port.inbound = .hunt) ∧
    (0xC3#8 ∉ ([0x00#8, 0xFF#8] : List Byte)) ∧
    (([0#8, 0#8] : List Byte).length = 2 ∧ [0#8, 0#8] ≠ crcBytes (0x0E#8 :: byteOf 0 :: ([] : List Byte))) ∧
    (250 < (251#8 : Byte).toNat) ∧
    ((250#8 : Byte).toNat ≤ 250 ∧ (List.replicate 251 0#8 : List Byte).length < (250#8 : Byte).toNat + 2) ∧
    (midMessage.port.inbound ≠ .hunt ∧ midMessage.port.inGap = some 5000) := by decide +kernel

/-- Bytes of a bad message and of a gap, in one step each. -/
theorem test_bad_messages :
    (after (.badMessage 0 [0xC3#8, 0x0E#8, 0x00#8, 0x00#8, 0x00#8]) (carrier .active)).port.counters.portBad = 1 ∧
      (after (.badMessage 0 [0xC3#8, 0x0E#8, 0xFB#8]) (carrier .active)).port.counters.portBad = 1 ∧
      (after (.inboundGapTimeout 0 []) midMessage).port.counters.portBad = 1 ∧
      (after (.inboundGapTimeout 0 []) midMessage).now = 5000 := by decide +kernel

/-- A message whose reply can start before the next message of the same chunk is taken: four queries and a RESTART. -/
theorem test_messages_of_one_chunk :
    let query := envelope 0x0E#8 []
    let u := after (.badMessage 0 (query ++ query ++ query ++ query ++ envelope 0x0F#8 [])) (carrier .active)
    u.port.counters.portBad = 0 ∧ u.port.restartPending = true ∧ u.port.replies.length = 4 ∧
      u.port.out.isSome = true := by decide +kernel

/-- The reply to a message that a gap follows starts with the message, not with the gap. -/
theorem test_reply_before_a_gap :
    let u := after (.inboundGapTimeout 0 (envelope 0x0E#8 [] ++ [0xC3#8])) (carrier .active)
    u.now = 5000 ∧ u.port.counters.portBad = 1 ∧ (u.port.out.map OutMessage.endsAt) = some 280 := by decide +kernel

def noticeWaiting (s : State) : State :=
  let base := busyLine s
  { base with port := { base.port with notices := [.grant 1], reportPending := true } }

def reportWaiting (s : State) : State :=
  let base := busyLine s
  { base with port := { base.port with reportPending := true } }

theorem witness_OutboundArbitration :
    (∀ s ∈ [fullReplies (carrier .active), restarting (noticeWaiting (carrier .active)), noticeWaiting (carrier .active),
        reportWaiting (carrier .active), busyLine (carrier .active)],
      s.port.out = some ⟨.status, [], 1000⟩ ∧ eventEndInv s) ∧
    (∀ p, OutContent.status ≠ .reply ⟨0x0F#8, .accept p⟩) ∧
    ((fullReplies (carrier .active)).port.replies =
      ⟨0x0E#8, .accept []⟩ :: List.replicate 3 ⟨0x0E#8, .accept []⟩) ∧
    ((restarting (noticeWaiting (carrier .active))).port.replies = [] ∧
      (restarting (noticeWaiting (carrier .active))).port.restartPending = true) ∧
    ((noticeWaiting (carrier .active)).port.restartPending = false ∧
      (noticeWaiting (carrier .active)).port.notices = .grant 1 :: []) ∧
    ((reportWaiting (carrier .active)).port.notices = [] ∧ (reportWaiting (carrier .active)).port.reportPending = true) ∧
    (busyLine (carrier .active)).port.reportPending = false :=
  ⟨by decide, fun _ => nofun, by decide, by decide, by decide, by decide, by decide⟩

theorem witness_StatusTimer :
    (∀ s ∈ [busyLine (carrier .active), restarting (carrier .active), carrier .active],
      s.station.held = false ∧ s.port.statusAt = some 200000 ∧ eventEndInv s) ∧
    ((busyLine (carrier .active)).port.out.isSome = true ∧ (restarting (carrier .active)).port.restartPending = true ∧
      (carrier .active).port.out = none ∧ (carrier .active).port.restartPending = false) := by decide

theorem witness_MessageBytesAreTheCommand :
    commandOf (0x0E#8 : Byte).toNat 0 [] = some (.statusQuery 0 []) ∧ (0x10#8 : Byte).toNat = 16 ∧
      (carrier .active).port.inbound = .hunt ∧ (carrier .active).port.restartPending = false ∧
      eventEndInv (carrier .active) := by decide

/-! ### Witnesses: motion -/

def inMode (m : OdoMode) : State := { carrier .active with odo := { (carrier .active).odo with mode := m } }

theorem witness_OdometrySample :
    ∀ s ∈ [inMode .dual, inMode .aOnly, inMode .bOnly, carrier .listen, carrier .parked],
      s.station.held = false ∧ s.isCarrier = true ∧ s.running = true ∧ s.station.cfg = some carrierWord ∧
        s.odo.nextSample = some 20000 := by decide

/-- A carrier of 4 m at 12,600 mm with zone 2 HELD: its rear cell of 8 m leaves at the sample, and zone 1 with it. -/
def leavingRear (horizon : Int) : State :=
  let base := withEntries [entryOf 2 2 .held] (carrier .active)
  { base with
    station := { base.station with cfg := some { carrierWord with carrierLength := 40 } }
    odo := { base.odo with pos := 12600000 }
    auth := { base.auth with horizon := horizon } }

theorem test_datum_shift :
    let u := after (.odometrySample 0 0) (leavingRear 8000)
    u.route.cells.length = 2 ∧ u.s = 4600 ∧ u.auth.horizon = 0 ∧
      (leavingRear 8000).window.entries.all (fun e => isNeeded e.zone u.route.cells) = true := by decide +kernel

/-- A sample of one pulse on each channel after a given distance since the marker, µm. -/
def gradeAfter (since : Nat) (q : Quality) : Quality :=
  (after (.odometrySample 1 1)
    { carrier .active with odo := { (carrier .active).odo with since := since, quality := q } }).odo.quality

theorem test_grades_at_their_bounds :
    gradeAfter 39999000 .good = .good ∧ gradeAfter 39999001 .good = .doubt ∧ gradeAfter 79999000 .doubt = .doubt ∧
      gradeAfter 79999001 .doubt = .lost ∧ gradeAfter 79999001 .good = .lost := by decide +kernel

/-- The distance grades in the single modes. -/
theorem test_grades_in_single_modes :
    ∀ m ∈ [OdoMode.aOnly, .bOnly],
      let grade := fun since =>
        (after (.odometrySample 1 1) { inMode m with odo := { (inMode m).odo with since := since } }).odo.quality
      grade 39999000 = .good ∧ grade 39999001 = .doubt ∧ grade 79999000 = .doubt ∧ grade 79999001 = .lost := by
  decide +kernel

/-- Channel A silent for 99 samples, its partner's distance so far given. -/
def silentA (partner : Nat) : State :=
  { carrier .active with odo := { (carrier .active).odo with chA := ⟨false, 0, 99, partner⟩ } }

theorem witness_SampleJudgements :
    (∀ s ∈ [carrier .active, silentA 490001, inMode .aOnly, inMode .bOnly],
      s.station.held = false ∧ s.isCarrier = true ∧ s.running = true ∧ s.station.cfg = some carrierWord ∧
        s.odo.nextSample = some 20000 ∧ s.port.notices.length ≤ 12 ∧ ceilingInv s) ∧
    ((carrier .active).odo.mode = .dual ∧ (inMode .aOnly).odo.mode ≠ .dual) ∧
    ((after (.odometrySample 0 10) (silentA 490001)).odo.mode = .bOnly ∧
      (after (.odometrySample 0 10) (silentA 490000)).odo.mode = .dual ∧
      (after (.odometrySample 10 0) { carrier .active with
        odo := { (carrier .active).odo with chB := ⟨false, 0, 99, 490001⟩ } }).odo.mode = .aOnly) ∧
    ((after (.odometrySample 0 10) (carrier .active)).odo.slip = false ∧
      (after (.odometrySample 0 11) (carrier .active)).odo.slip = true) := by decide +kernel

/-- The carrier at the reader's place of marker 501 (4,000 mm), off by an error. -/
def atMarker (error : Int) (q : Quality) : State :=
  { carrier .active with
    odo := { (carrier .active).odo with pos := (4000 + 2000 - error) * 1000, quality := q, rejects := 1, since := 9 } }

theorem witness_MarkerArrivals :
    (∀ s ∈ [atMarker 600 .good, atMarker 601 .good, atMarker 1200 .lost, atMarker 1201 .lost],
      s.station.held = false ∧ s.isCarrier = true ∧ s.running = true ∧ s.station.cfg = some carrierWord ∧ eventEndInv s ∧
        expectedAt 501 s = [4000] ∧ expectedAt 9 s = []) ∧
    (routeLaid (atMarker 600 .good)) ∧
    (∀ x ∈ [((600 : Int), Quality.good, true), (601, .good, false), (1200, .lost, true), (1201, .lost, false),
        (-600, .doubt, true), (-601, .doubt, false)],
      ((after (.markerArrival 0 501 0 0) (atMarker x.1 x.2.1)).odo.since == 0) = x.2.2) :=
  ⟨by decide, ⟨by decide, by decide, laidFrom_layCells 0 [cellOf 1, cellOf 2, cellOf 3]⟩, by decide +kernel⟩

theorem test_marker_outcomes :
    (after (.markerArrival 0 501 0 0) (atMarker 360 .doubt)).odo.pos = 5640000 + 300000 ∧
      (after (.markerArrival 0 501 0 0) (atMarker 601 .good)).odo.quality = .doubt ∧
      (after (.markerArrival 0 9 0 0) (atMarker 0 .good)).port.counters.strays = 1 := by decide +kernel

/-! ### Witnesses: reception and the Neighbour Table -/

def sending (phase : TxPhase) (s : State) : State :=
  { s with radio := { s.radio with tx := some ⟨[], [], phase, 5000⟩ } }

theorem witness_RadioFrames :
    (∀ s ∈ [State.reset, sending .sending (carrier .active), carrier .active], s.station.held = false ∧ eventEndInv s) ∧
    (State.reset.running = false ∧ (sending .sending (carrier .active)).radio.tx.isSome = true) ∧
    ((carrier .active).running = true ∧ (carrier .active).radio.tx = none ∧ (carrier .active).radio.rx = .hunt ∧
      (carrier .active).radio.queue.length < 6) ∧
    (([0#8, 0#8] : List Byte) ≠ crcBytes (byteOf 5 :: List.replicate 5 0#8) ∧
      (crcBytes (byteOf 5 :: List.replicate 5 0#8)).length = 2) ∧
    (¬(5 ≤ (4#8 : Byte).toNat ∧ (4#8 : Byte).toNat ≤ 29) ∧ ¬(5 ≤ (30#8 : Byte).toNat ∧ (30#8 : Byte).toNat ≤ 29)) ∧
    ((29#8 : Byte).toNat ≤ 29 ∧ (List.replicate 30 0#8 : List Byte).length < (29#8 : Byte).toNat + 2) ∧
    (let s := { carrier .active with radio := { (carrier .active).radio with rx := .length, rxGap := some 2000 } }
     s.running = true ∧ s.radio.tx = none ∧ s.radio.rx ≠ .hunt ∧ s.radio.rxGap = some 2000 ∧ eventEndInv s ∧
      s.station.held = false) := by decide +kernel

/-- A frame received whole, at an empty and at a full receive queue; and the start byte in place of the length. -/
theorem test_frames_received :
    let frame := (Beacon.frame ⟨12, .carrier, false, false, 4, 0, [claimOf 2 .req]⟩)
    let full := { carrier .active with radio := { (carrier .active).radio with queue := List.replicate 6 [] } }
    (after (.radioFrameReceived 0 frame) (carrier .active)).radio.queue.length = 1 ∧
      (after (.radioFrameReceived 0 frame) full).port.counters.queueDrops = 1 ∧
      (after (.radioBadLengthByte 0 [0xA5#8, 0xA5#8]) (carrier .active)).radio.rx = .length ∧
      (after (.radioGapTimeout 0 [0xA5#8, 0x05#8]) (carrier .active)).port.counters.radioBad = 1 := by decide +kernel

def heard (n seq : Nat) (fresh : Bool) (claims : List Claim) : Beacon := ⟨n, .carrier, fresh, false, seq, 0, claims⟩

/-- A frame in the receive queue. -/
def queued (frame : List Byte) (s : State) : State := { s with radio := { s.radio with queue := [frame] } }

def oneZone : List Claim := [claimOf 2 .req]
def farZone : List Claim := [claimOf 9 .req]

theorem witness_FramesDiscarded :
    (let s := withPeers [peerOf 12 oneZone] (carrier .active)
     s.station.held = false ∧ s.running = true ∧ s.table.nextTake = some 4000 ∧ eventEndInv s ∧ s.radio.queue = [] ∧
      findPeer 12 s = some (peerOf 12 oneZone) ∧ (∀ p ∈ s.table.peers, p.station ≠ 13) ∧ s.ownNumber = 7 ∧
      ∀ c ∈ farZone, c.zone ∉ ownZones s) ∧
    parseBeacon [0x00#8] = none ∧
    parseBeacon (heard 7 9 false []).body = some (heard 7 9 false []) ∧
    parseBeacon (heard 12 5 false oneZone).body = some (heard 12 5 false oneZone) ∧
    parseBeacon (heard 13 5 false farZone).body = some (heard 13 5 false farZone) ∧
    (∀ seq ∈ [5, 5 + 32768, 4], ¬(1 ≤ (seq + 65536 - (peerOf 12 oneZone).seq) % 65536 ∧
      (seq + 65536 - (peerOf 12 oneZone).seq) % 65536 ≤ 32767)) := by decide +kernel

/-- A table of 24 peers, the first `n` of them relevant. -/
def crowd (n : Nat) : List Peer :=
  (List.range 24).map (fun k => { peerOf (20 + k) (if k < n then oneZone else farZone) with relevant := decide (k < n) })

/-- The crowd with its sixth entry STALE. -/
def staleCrowd : List Peer := (crowd 4).take 5 ++ ({ peerOf 25 farZone with freshness := .stale, relevant := false } :: (crowd 4).drop 6)

theorem witness_BeaconAccepted :
    (∀ ps ∈ [[peerOf 12 oneZone], crowd 4, staleCrowd], ∀ b ∈ [heard 12 6 false oneZone, heard 12 (5 + 32767) false oneZone,
        heard 12 5 true oneZone, heard 13 5 false oneZone],
      let s := queued b.body (withPeers ps (carrier .active))
      s.station.held = false ∧ s.running = true ∧ s.table.nextTake = some 4000 ∧ s.radio.queue = b.body :: [] ∧
        parseBeacon b.body = some b ∧ b.station ≠ s.ownNumber ∧ tableFits s ∧
        windowFits s.window ∧ ∃ c ∈ b.claims, c.zone ∈ ownZones s) ∧
    (∀ seq ∈ [6, 5 + 32767], 1 ≤ (seq + 65536 - (peerOf 12 oneZone).seq) % 65536 ∧
      (seq + 65536 - (peerOf 12 oneZone).seq) % 65536 ≤ 32767) ∧
    ((∀ p ∈ [peerOf 12 oneZone], p.station ≠ 13) ∧ [peerOf 12 oneZone].length < 24) ∧
    (24 ≤ (crowd 4).length ∧ (∀ q ∈ crowd 4, ¬(q.freshness = .stale ∧ q.relevant = false)) ∧
      (∀ q ∈ (crowd 4).take 4, q.relevant = true) ∧ ((crowd 4)[4]?.map Peer.relevant) = some false) ∧
    (24 ≤ staleCrowd.length ∧ (∀ q ∈ staleCrowd.take 5, ¬(q.freshness = .stale ∧ q.relevant = false)) ∧
      (staleCrowd[5]?.map (fun p => (p.freshness, p.relevant))) = some (.stale, false)) := by decide +kernel

/-- A beacon with a HOLD on the zone of an ANNOUNCED and of a HELD own entry. -/
theorem witness_BeaconAccepted_holds :
    (let s := queued (heard 13 5 false [claimOf 2 .hold]).body (carrier .active)
     windowFits s.window ∧ entryOf 2 2 .announced ∈ s.window.entries ∧ (claimOf 2 .hold).kind = .hold ∧
      (∀ p ∈ s.table.peers, p.station ≠ 13) ∧ (∃ c ∈ [claimOf 2 .hold], c.zone ∈ ownZones s) ∧
      ((after .takeFrame s).window.entries.map ClaimEntry.state) = [.held, .waiting, .waiting]) ∧
    (∀ x ∈ [(true, true, ClaimState.held, true), (true, false, .held, false), (false, true, .waiting, false)],
      let c : Claim := { claimOf 2 .hold with committed := x.2.1 }
      let s := queued (heard 13 5 false [c]).body (withEntries [entryOf 1 1 .held, { entryOf 2 2 .held with committed := x.1 }]
        (carrier .active))
      windowFits s.window ∧ (entryOf 2 2 .held).first = firstNeeding 2 s.route.cells ∧ tableFits s ∧
        parseBeacon (heard 13 5 false [c]).body = some (heard 13 5 false [c]) ∧
        ((findEntry 2 (after .takeFrame s)).map ClaimEntry.state) = some x.2.2.1 ∧
        (after .takeFrame s).auth.causes.conflict = x.2.2.2) := by decide +kernel

theorem test_eviction :
    let take := fun ps =>
      (after .takeFrame (queued (heard 13 5 false oneZone).body (withPeers ps (carrier .active)))).table.peers.map Peer.station
    (take (crowd 4)).contains 24 = false ∧ (take staleCrowd).contains 25 = false ∧
      (take staleCrowd).contains 24 = true := by decide +kernel

theorem witness_Overflow :
    (∀ s ∈ [queued (heard 13 5 false oneZone).body (withPeers (crowd 24) (carrier .active))],
      s.station.held = false ∧ s.running = true ∧ s.table.nextTake = some 4000 ∧
        s.radio.queue = (heard 13 5 false oneZone).body :: [] ∧
        parseBeacon (heard 13 5 false oneZone).body = some (heard 13 5 false oneZone) ∧ (13 : Nat) ≠ s.ownNumber ∧
        windowFits s.window ∧ (∀ p ∈ s.table.peers, p.station ≠ 13 ∧ p.relevant = true) ∧
        (∃ c ∈ oneZone, c.zone ∈ ownZones s) ∧ 24 ≤ s.table.peers.length ∧ s.table.overflow = none) ∧
    (let s := { carrier .active with table := { (carrier .active).table with overflow := some 300000 } }
     s.station.held = false ∧ s.table.overflow = some 300000 ∧ windowFits s.window ∧
      entryOf 3 3 .waiting ∈ s.window.entries ∧ isBlocked (after .overflowClear s) (entryOf 3 3 .waiting) = false) := by
  decide +kernel

def stalePeer : Peer := { peerOf 12 [claimOf 3 .req] with freshness := .stale }

theorem witness_PeerAgeing :
    (∀ p ∈ [{ stalePeer with freshness := .live }, stalePeer],
      let s := withPeers [p] (carrier .active)
      s.station.held = false ∧ findPeer 12 s = some p ∧ windowFits s.window ∧ tableFits s ∧
        entryOf 3 3 .waiting ∈ s.window.entries ∧ 3 ∈ (p.claims.filter (fun c => c.kind = .req)).map Claim.zone) ∧
    isBlocked (after (.peerStale 12) (withPeers [{ stalePeer with freshness := .live }] (carrier .active)))
      (entryOf 3 3 .waiting) = false ∧
    isBlocked (after (.peerLost 12) (withPeers [stalePeer] (carrier .active))) (entryOf 3 3 .waiting) = false := by
  decide +kernel

/-! ### Witnesses: claims -/

theorem witness_BlockersAndRank : (7 : Nat) ≠ 3 := by decide

/-- Each way to be blocked, and the two that do not block: a request outranked, and a request of a STALE peer. -/
theorem test_blockers :
    let blockedBy := fun ps => isBlocked (withPeers ps (carrier .active)) (entryOf 2 2 .announced)
    let outranking : Claim := ⟨2, .req, false, 0, 0⟩
    blockedBy [peerOf 12 [claimOf 2 .hold]] = true ∧ blockedBy [peerOf 12 [outranking]] = true ∧
      blockedBy [{ peerOf 12 [outranking] with freshness := .stale }] = false ∧
      blockedBy [peerOf 12 [claimOf 2 .req]] = false ∧ blockedBy [peerOf 3 [claimOf 2 .req]] = true ∧
      isBlocked { carrier .active with table := { (carrier .active).table with overflow := some 1 } }
        (entryOf 2 2 .announced) = true := by decide

def holdOf (committed : Bool) (urgency : Nat) : Claim := ⟨2, .hold, committed, urgency, 3⟩

def committedAhead : State :=
  withEntries [entryOf 1 1 .held, { entryOf 2 2 .held with committed := true }] (carrier .active)

theorem witness_DoubleHoldOutcomes :
    (∀ s ∈ [grantedAhead, committedAhead],
      s.running = true ∧ windowFits s.window ∧ ceilingInv s ∧ s.window.conflicts = [] ∧ s.port.notices.length < 16) ∧
    (findEntry 2 grantedAhead = some (entryOf 2 2 .held) ∧ (entryOf 2 2 .held).state = .held ∧
      (entryOf 2 2 .held).first = firstNeeding 2 grantedAhead.route.cells ∧
      commitPasses grantedAhead (entryOf 2 2 .held) = false) ∧
    (findEntry 2 committedAhead = some { entryOf 2 2 .held with committed := true }) ∧
    (outranks (holdOf false 0).urgency (holdOf false 0).wait 12 1 3 grantedAhead.ownNumber = true ∧
      outranks (holdOf false 2).urgency (holdOf false 2).wait 12 1 3 grantedAhead.ownNumber = false) := by decide +kernel

/-- The four rows of R72's table that differ: the state the entry is in after the test. -/
theorem test_double_hold_table :
    let stateAfter := fun (own : Bool) (c : Claim) =>
      let s := withEntries [entryOf 1 1 .held, { entryOf 2 2 .held with committed := own }] (carrier .active)
      let v := doubleHoldTest 2 12 c s
      ((findEntry 2 v).map ClaimEntry.state, v.window.conflicts.length)
    stateAfter true (holdOf true 0) = (some .held, 1) ∧ stateAfter true (holdOf false 0) = (some .held, 0) ∧
      stateAfter false (holdOf true 2) = (some .waiting, 0) ∧ stateAfter false (holdOf false 2) = (some .held, 0) ∧
      stateAfter false (holdOf false 0) = (some .waiting, 0) := by decide +kernel

/-- An occupant claim discards the settle timer of an unheld entry; an expired one of a RELEASING entry stays expired
(R28, R68, R70). -/
theorem test_occupy_settle :
    ((entryOf 2 2 .announced).occupy.settle = .stopped ∧ (entryOf 2 2 .waiting).occupy.settle = .stopped) ∧
    (entryOf 2 2 .releasing).occupy = { entryOf 2 2 .held with committed := true } := by decide

/-- Zone 2 ANNOUNCED with its settle timer running. -/
def settling (announce : Nat) (first : ClaimState) : State :=
  withEntries [entryOf 1 1 first, { entryOf 2 2 .announced with settle := .running 250000, announce := announce }]
    (carrier .active)

theorem witness_SettleExpiry :
    (∀ s ∈ [settling 2 .held, settling 1 .held, settling 2 .waiting, withPeers [peerOf 12 [claimOf 2 .hold]] (settling 2 .held)],
      s.station.held = false ∧ windowFits s.window ∧
        ((findEntry 2 s).map (fun e => (e.state, e.settle))) = some (.announced, .running 250000)) ∧
    (isBlocked (settling 2 .held) (entryOf 2 2 .announced) = false ∧ allEarlierHeld 2 (settling 2 .held) = true) ∧
    (allEarlierHeld 2 (settling 2 .waiting) = false) ∧
    (isBlocked (withPeers [peerOf 12 [claimOf 2 .hold]] (settling 2 .held)) (entryOf 2 2 .announced) = true) := by decide

def blockedSince : State :=
  withPeers [peerOf 12 [claimOf 2 .hold], peerOf 5 [claimOf 2 .hold]]
    (withEntries [entryOf 1 1 .held, { entryOf 2 2 .waiting with blockedSince := some 7 }] (carrier .active))

theorem witness_Gridlock :
    blockedSince.station.held = false ∧
      findEntry 2 blockedSince = some { entryOf 2 2 .waiting with blockedSince := some 7 } ∧
      lowestHolding 2 5 blockedSince ∧ windowFits blockedSince.window ∧ eventEndInv blockedSince := by decide

/-- Nothing listed yet, at 4 m in a route of three cells; and a window that is full of other zones. -/
def unlisted (st : StationState) : State := withEntries [] (carrier st)
def crammed : State :=
  withEntries ((List.range 8).map (fun k => entryOf (20 + k) 1 .releasing)) (carrier .active)

/-- Zone 2 RELEASING behind a HELD zone 1. -/
def leaving : State := withEntries [entryOf 1 1 .held, entryOf 2 2 .releasing, entryOf 3 3 .queued] (carrier .active)

/-- Zone 2 RELEASING behind a WAITING zone 1. -/
def leavingBehind : State := withEntries [entryOf 1 1 .waiting, entryOf 2 2 .releasing] (carrier .active)

theorem witness_ListingTest :
    (∀ s ∈ [unlisted .active, unlisted .listen, crammed, leaving, crane .active, carrier .parked], windowFits s.window) ∧
    ((unlisted .active).isCarrier = true ∧ (unlisted .active).station.state = .active ∧
      (unlisted .listen).station.state = .listen) ∧
    (isOccupied (unlisted .listen) 1 = true ∧ isOccupied (unlisted .listen) 2 = false) ∧
    (∀ z ∈ [1, 2], z ∉ windowZones (unlisted .active) ∧ z ∈ windowZones (listingTest (unlisted .active)) ∧
      z ∈ windowZones (listingTest (unlisted .listen))) ∧
    (crammed.window.full = false ∧ (listingTest crammed).window.full = true ∧ 1 ∉ windowZones (listingTest crammed)) ∧
    ((entryOf 2 2 .releasing).released = 0 ∧ leaving.table.peers = [] ∧ leaving.table.overflow = none ∧
      allEarlierHeld 2 leaving = true) ∧
    (windowFits leavingBehind.window ∧ leavingBehind.window.entries = [entryOf 1 1 .waiting] ++ entryOf 2 2 .releasing :: [] ∧
      leavingBehind.table.peers = [] ∧ leavingBehind.table.overflow = none ∧ 2 ∈ zonesInReach leavingBehind) := by
  decide +kernel

theorem test_listing :
    let states := fun s => (listingTest s).window.entries.map (fun e => (e.zone, e.state))
    states (unlisted .active) = [(1, .announced), (2, .announced), (3, .announced)] ∧
      states (unlisted .listen) = [(1, .held), (2, .queued), (3, .queued)] ∧
      states leaving = [(1, .held), (2, .held), (3, .queued)] ∧
      (listingTest leavingBehind).window.entries.take 2 = leavingBehind.window.entries ∧
      states (withPeers [peerOf 12 [claimOf 2 .req]] leaving) = [(1, .held), (2, .releasing), (3, .queued)] ∧
      (listingTest crammed).port.notices = [.windowFull 1] ∧
      (listingTest (listingTest crammed)).port.notices = [.windowFull 1] ∧
      (listingTest { unlisted .active with
        window := { (unlisted .active).window with full := true } }).window.full = false := by decide +kernel

/-! ### Witnesses: authority -/

theorem witness_MarginReactionAndLead : profilesInRange (carrier .active) ∧ (carrier .active).odo.vmeas ≤ 10000 := by decide

theorem witness_BrakingCandidates :
    (hZone (carrier .active) - (carrier .active).s - effectiveMargin (carrier .active) - reactionDistance (carrier .active) = 1500 ∧
      2 * (carrier .active).profile.decel * 1500 < 2 ^ 64) ∧
    (hStop (carrier .active) = some 4000 ∧ hStop withoutRoute = none) ∧
    (hZone State.reset - State.reset.s - effectiveMargin State.reset - reactionDistance State.reset ≤ 0) ∧
    (let s := { worked with auth := { worked.auth with horizon := 150000 } }
     lookAheadCells s = s.route.cells.drop 1 ∧
      ∀ c ∈ lookAheadCells s,
        (c.cell.limit : Int) ^ 2 + 2 * s.profile.decel * max 0 (c.entry - s.s - reactionDistance s) < 2 ^ 64) := by
  decide +kernel

/-- One metre beyond the end of the held run. -/
def pastZone (s : State) : State := { s with odo := { s.odo with pos := 151000000 } }

/-- The cells of the worked tick behind two more, laid from 0 to the same boundaries. -/
def workedCells : List RouteCell :=
  let cell := fun (z len limit : Nat) => { cellOf z with length := len, limit := limit, stop := none, markers := [] }
  [cell 1 55000 5000, cell 1 55000 5000, cell 1 18000 5000, cell 2 10000 2000, cell 3 12000 5000, cell 4 20000 4000]

def workedLaid : State := { worked with route := ⟨layCells 0 workedCells⟩ }

theorem witness_AuthorityTick :
    (∀ s ∈ [carrier .active, workedLaid, pastZone workedLaid],
      s.station.held = false ∧ s.isCarrier = true ∧ s.station.state = .active ∧ windowFits s.window ∧ ceilingInv s) ∧
    (routeLaid (carrier .active) ∧ routeLaid workedLaid ∧ routeLaid (pastZone workedLaid)) ∧
    (workedLaid.s ≤ hZone workedLaid ∧ workedLaid.auth.overrun = false) ∧
    (hZone (pastZone workedLaid) < (pastZone workedLaid).s ∧ (pastZone workedLaid).auth.overrun = false ∧
      (pastZone workedLaid).auth.pendingIx = none ∧ (after .authorityTick (pastZone workedLaid)).auth.overrun = true ∧
      (pastZone workedLaid).port.notices.length < 15 ∧ frontZones (pastZone workedLaid) = [4]) :=
  ⟨by decide +kernel,
    ⟨⟨by decide, by decide, laidFrom_layCells 0 [cellOf 1, cellOf 2, cellOf 3]⟩,
      ⟨by decide, by decide, laidFrom_layCells 0 workedCells⟩, ⟨by decide, by decide, laidFrom_layCells 0 workedCells⟩⟩,
    by decide +kernel, by decide +kernel⟩

theorem test_overrun_takes_the_front_cell :
    let u := after .authorityTick (pastZone worked)
    ((findEntry 4 u).map (fun e => (e.state, e.committed))) = some (.held, true) ∧
      (u.port.out.map OutMessage.content) = some (.notice (.overrun 151000 150000 104)) ∧ u.auth.horizon = 170000 ∧
      (after .authorityTick { worked with odo := { worked.odo with pos := 150000000 } }).auth.overrun = false := by
  decide +kernel

def sendingWord : State :=
  { carrier .active with auth := { (carrier .active).auth with wordOut := some ⟨7, [0x80#8, 0x07#8], 80⟩, pendingWord := some 9 } }

theorem witness_OutputRefreshAndWords :
    (∀ s ∈ [State.reset, carrier .listen, carrier .parked, stationAt carrierWord .listen, crane .active],
      s.station.held = false ∧ eventEndInv s ∧ ¬(s.isCarrier = true ∧ s.station.state = .active)) ∧
    ((carrier .listen).route.cells ≠ [] ∧ (stationAt carrierWord .listen).route.cells = [] ∧
      State.reset.isCarrier = true ∧ State.reset.running = false) ∧
    (sendingWord.station.held = false ∧ eventEndInv sendingWord ∧ sendingWord.isCarrier = true ∧
      sendingWord.auth.wordOut = some ⟨7, [0x80#8, 0x07#8], 80⟩) := by decide

/-- The word of the worked tick, and the pending word that follows, as the bytes of R185. -/
theorem test_words_on_the_line :
    (after .authorityTick worked).auth.wordOut = some ⟨3885, [0x9E#8, 0x2D#8], 50080⟩ ∧
      (after .ceilingWordComplete sendingWord).auth.wordOut = some ⟨9, [0x80#8, 0x09#8], 160⟩ := by decide +kernel

/-! ### Witnesses: the own beacons -/

def slotted (kind : BeaconKind) (due : Time) (busy : Nat) (arrived : Bool) (s : State) : State :=
  { s with radio := { s.radio with slot := some ⟨kind, due, busy, arrived⟩ } }

def limited (l : Time) : State := { carrier .active with
  now := 30000
  radio := { (carrier .active).radio with limiter := some l } }

theorem witness_UrgentRequest :
    State.reset.running = false ∧ (slotted .urgent 9 0 false (carrier .active)).radio.slot ≠ none ∧
      (limited 5001).radio.limiter = some 5001 ∧ (limited 5001).now < 5001 + (limited 5001).period * 250 ∧
      (limited 5000).running = true ∧ (limited 5000).radio.slot = none ∧
      5000 + (limited 5000).period * 250 ≤ (limited 5000).now := by decide

theorem test_urgent_limiter_bound :
    (urgentRequest (limited 5001)).radio.slot = none ∧ (urgentRequest (limited 5000)).radio.slot.isSome = true := by
  decide +kernel

theorem witness_NominalInstant :
    (carrier .active).station.held = false ∧ (carrier .active).radio.next = some 100000 ∧
      windowFits (carrier .active).window ∧ entryOf 2 2 .announced ∈ (carrier .active).window.entries ∧
      entryOf 1 1 .held ∈ (carrier .active).window.entries := by decide

theorem test_wait_stops_at_255 :
    ((after .nominalInstant (withEntries [{ entryOf 1 1 .waiting with wait := 254 }, { entryOf 2 2 .waiting with wait := 255 }]
      (carrier .active))).window.entries.map ClaimEntry.wait) = [255, 255] := by decide +kernel

theorem witness_PlacementAndDueTime :
    (∀ s ∈ [carrier .active, slotted .urgent 9 0 false (carrier .active)],
      s.station.held = false ∧ s.radio.next = some 100000 ∧ s.radio.placementOpen = true ∧ eventEndInv s) ∧
    (∀ s ∈ [slotted .urgent 9 4 false (carrier .active), slotted .urgent 9 5 false (carrier .active),
        sending .sending (slotted .urgent 9 0 false (carrier .active))],
      s.station.held = false ∧ eventEndInv s) ∧
    ((slotted .urgent 9 4 false (carrier .active)).radio.slot = some ⟨.urgent, 9, 4, false⟩ ∧
      (slotted .urgent 9 4 false (carrier .active)).radio.tx = none) ∧
    (sending .sending (slotted .urgent 9 0 false (carrier .active))).radio.tx.isSome = true := by decide

/-- A generator value whose next draw is −25 of −25..+25: the beacon is due at its placement point (07 R129). -/
def dueThere (s : State) : State := { s with radio := { s.radio with gen := 102 } }

theorem test_due_at_once_under_the_key :
    (after .placementPoint (dueThere (sending .sending (carrier .active)))).radio.slot =
      some ⟨.scheduled, 75000, 0, true⟩ := by decide +kernel

/-- The two outcomes of a beacon due at once with the key released: a frame starts, or the beacon backs off. -/
theorem test_due_at_once :
    ∀ clear : Bool,
      let u := (beaconDueNow clear (slotted .scheduled 75000 0 false (dueThere (carrier .active)))).radio
      if clear then u.slot = none ∧ u.tx.isSome = true ∧ u.seq = 1
      else (u.slot.map PendingBeacon.busy) = some 1 ∧ u.tx = none := by decide +kernel

theorem test_busy_samples :
    ((after (.beaconDue false) (slotted .urgent 9 4 false (carrier .active))).radio.slot.map PendingBeacon.busy) = some 5 ∧
      (after (.beaconDue false) (slotted .urgent 9 5 false (carrier .active))).radio.slot = none ∧
      (after (.beaconDue false) (slotted .urgent 9 5 false (carrier .active))).port.counters.beaconDrops = 1 := by
  decide +kernel

def tailed (b : Option PendingBeacon) : State :=
  let base := sending .tail (carrier .active)
  { base with radio := { base.radio with slot := b } }

theorem witness_BeaconStartsAndTailEnds :
    (∀ s ∈ [tailed none, tailed (some ⟨.urgent, 5000, 0, false⟩), tailed (some ⟨.urgent, 4999, 0, false⟩),
        tailed (some ⟨.urgent, 5000, 0, true⟩)],
      s.station.held = false ∧ s.station.cfg = some carrierWord ∧ s.radio.tx = some ⟨[], [], .tail, 5000⟩ ∧ eventEndInv s) ∧
    (let s := slotted .urgent 9 0 false (carrier .active)
     s.station.held = false ∧ s.station.cfg = some carrierWord ∧ s.radio.slot = some ⟨.urgent, 9, 0, false⟩ ∧
      s.radio.tx = none ∧ eventEndInv s) := by decide

/-- At the tail's end: a beacon due later does not follow, one due before or one that has arrived does. -/
theorem test_following_frames :
    let follows := fun b => (after .tailEnd (tailed b)).radio.tx.isSome
    follows none = false ∧ follows (some ⟨.urgent, 5000, 0, false⟩) = false ∧
      follows (some ⟨.urgent, 4999, 0, false⟩) = true ∧ follows (some ⟨.urgent, 5000, 0, true⟩) = true := by decide +kernel

def onAir : State :=
  withEntries [{ entryOf 1 1 .held with air := .carried 3 }, { entryOf 2 2 .announced with announce := 1, air := .announced 4 },
    { entryOf 3 3 .releasing with air := .omitted }, { entryOf 4 4 .releasing with air := .omitted, released := 1 },
    { entryOf 5 5 .releasing with air := .carried 2, released := 1 }, { entryOf 6 6 .announced with announce := 0, air := .carried 4 },
    entryOf 7 7 .announced, { entryOf 8 8 .held with announce := 1, air := .announced 5 }] (sending .sending (carrier .active))

theorem witness_BeaconComplete :
    onAir.station.held = false ∧ onAir.radio.tx = some ⟨[], [], .sending, 5000⟩ ∧ windowFits onAir.window ∧
      onAir.window.entries.map (fun e => (e.state, e.air, e.released)) =
        [(.held, .carried 3, 0), (.announced, .announced 4, 0), (.releasing, .omitted, 0), (.releasing, .omitted, 1),
          (.releasing, .carried 2, 1), (.announced, .carried 4, 0), (.announced, .none, 0), (.held, .announced 5, 0)] := by decide

theorem test_completion_counts :
    (after .beaconComplete onAir).window.entries.map (fun e => (e.zone, e.announce, e.carried, e.released)) =
      [(1, 2, 3, 0), (2, 2, 4, 0), (3, 2, 3, 1), (5, 2, 2, 1), (6, 0, 4, 0), (7, 2, 3, 0), (8, 2, 5, 0)] := by decide +kernel

/-- A blocker that comes while the frame is on the air bars the announcement and not the carried wait (R34, R31). -/
theorem test_blocked_on_air :
    (({ entryOf 2 2 .announced with announce := 1, air := .announced 4 }.block 7 true).completed) =
      { entryOf 2 2 .waiting with announce := 1, carried := 4, settle := .stopped, blockedSince := some 7 } := by decide

/-! ### Witnesses: formats -/

theorem witness_FormatsReadBack :
    (Beacon.sendable ⟨4094, .fixed, true, true, 65535, 2, [⟨4095, .hold, true, 3, 255⟩, ⟨1, .req, false, 0, 0⟩]⟩ ∧
      Beacon.sendable ⟨1, .carrier, false, false, 0, 0, []⟩ ∧
      parseBeacon (Beacon.body ⟨1, .carrier, false, false, 0, 0, []⟩) = some ⟨1, .carrier, false, false, 0, 0, []⟩) ∧
    ((cellOf 1).inRange = true ∧
      RouteCell.inRange ⟨65535, 60000, [4095, 1, 2], 8000, 3, some 60000, [⟨1, 0⟩, ⟨65535, 60000⟩]⟩ = true) ∧
    (∀ r ∈ [(⟨1, 0⟩ : Standing), ⟨4095, 3⟩], 1 ≤ r.zone ∧ r.zone ≤ 4095 ∧ r.urgency ≤ 3) ∧
    ([(⟨1, 0⟩ : Standing), ⟨4095, 3⟩].map Standing.zone).Nodup := by decide +kernel

/-- Spare bits and the committed bit of a REQ in a received frame, and cells that parse but lie outside R1. -/
theorem witness_FormatsReadBack_outside :
    parseBeacon [0x00#8, 0x11#8, 0x00#8, 0x06#8, 0x07#8, 0x00#8, 0x24#8, 0x05#8] =
      some ⟨1, .carrier, false, false, 6, 0, [⟨2, .req, false, 0, 5⟩]⟩ ∧
    (∀ c ∈ [{ cellOf 1 with zones := [] }, { cellOf 1 with markers := (cellOf 1).markers ++ List.replicate 6 ⟨9, 9⟩ },
        { cellOf 1 with length := 60001 }, { cellOf 1 with zones := [4096] }],
      parseAppend (byteOf 1 :: c.record) = some [c] ∧ c.inRange = false) := by decide +kernel

theorem witness_OutgoingLayouts :
    (∀ s ∈ [State.reset, carrier .active, crane .active],
      (-2147483648 ≤ s.s ∧ s.s < 2147483648) ∧ (-2147483648 ≤ s.auth.horizon ∧ s.auth.horizon < 2147483648) ∧
        s.odo.vmeas < 65536 ∧ s.auth.ceiling < 65536 ∧ (∀ c ∈ s.route.cells, c.cell.ident < 65536) ∧
        s.port.counters.fit ∧ ∀ e ∈ s.window.entries, e.zone < 65536) ∧
    ([RefuseCode.badKind, .badLength][1]? = some .badLength) ∧
    ((65535 : Nat) < 65536 ∧ (-2147483648 : Int) ≤ -1 ∧ (-1 : Int) < 2147483648 ∧ (-32768 : Int) ≤ -32767) := by decide

/-- Notices and the status report at values that show the sign and the byte order. -/
theorem test_outgoing_bytes :
    Notice.payload (.overrun (-1) 258 772) = [12#8, 255#8, 255#8, 255#8, 255#8, 0#8, 0#8, 1#8, 2#8, 3#8, 4#8] ∧
      Notice.payload (.markerReject 258 (-601) .doubt) = [7#8, 1#8, 2#8, 0xFD#8, 0xA7#8, 1#8] ∧
      Reply.payload ⟨0x0D#8, .refuse .notGranted []⟩ = [0x0D#8, 1#8, 14#8] ∧
      (statusPayload (crane .active)).length = 43 ∧
      (statusPayload (crane .active)).take 5 = [3#8, 1#8, 0#8, 0#8, 1#8] ∧
      (statusPayload (crane .active)).drop 36 = [2#8, 0#8, 1#8, 3#8, 0#8, 2#8, 3#8] := by decide +kernel

theorem test_read_back_at_the_bounds :
    let c : RouteCell := ⟨65535, 60000, [4095, 1, 2], 8000, 3, some 60000, [⟨1, 0⟩, ⟨65535, 60000⟩]⟩
    parseAppend (appendBytes [c, cellOf 1]) = some [c, cellOf 1] ∧
      parseStart (byteOf 1 :: (signedField 4 (-1) ++ c.record)) = some (-1, [c]) := by decide +kernel

/-! ### Witnesses: invariants -/

/-- A state with every invariant, and a step from it: a tick of the carrier. -/
def ticking : State := { carrier .active with pending := [.authorityTick] }

theorem witness_Invariants :
    windowInv ticking ∧ tableFits ticking ∧ ceilingInv ticking ∧ conflictInv ticking ∧ eventEndInv ticking ∧
      countsInv ticking :=
  ⟨by decide, by decide, by decide, by decide, by decide, by decide⟩

theorem witness_RouteInvariant : routeInv ticking := routeInv_laid [cellOf 1, cellOf 2, cellOf 3] rfl (by decide)

theorem witness_Step : step ticking = .next (after .authorityTick (carrier .active)) := rfl

/-- A step that makes a zone HELD without its mark. -/
theorem witness_NewHoldIsClear :
    step { settling 2 .held with pending := [.settleExpiry 2] } = .next (after (.settleExpiry 2) (settling 2 .held)) ∧
      (∃ e ∈ (after (.settleExpiry 2) (settling 2 .held)).window.entries,
        e.zone = 2 ∧ e.state = .held ∧ e.committed = false) ∧ isHeld (settling 2 .held) 2 = false :=
  ⟨rfl, by decide +kernel, by decide⟩

end Sys2Proof.Tests
end

section
/-! The blockers of an own entry and the rank of two claims, said once as propositions (R29, R30). -/

namespace Sys2Proof.Machine

/-! ### Rank (R30): the lexicographic order by urgency, wait downwards, station -/

theorem outranks_iff {u w n u' w' n' : Nat} :
    outranks u w n u' w' n' = true ↔ u < u' ∨ (u = u' ∧ (w' < w ∨ (w' = w ∧ n < n'))) := by
  simp [outranks, eq_comm (a := w')]

/-- Two claims never outrank each other. -/
theorem outranks_asymm {u w n u' w' n' : Nat} (above : outranks u w n u' w' n' = true) :
    outranks u' w' n' u w n = false := by
  rw [outranks_iff] at above
  rw [Bool.eq_false_iff, Ne, outranks_iff]
  omega

/-- The station numbers decide where urgency and wait do not, so of two stations' claims one is above. -/
theorem outranks_of_not_outranks {u w n u' w' n' : Nat} (differ : n ≠ n')
    (notAbove : outranks u w n u' w' n' = false) : outranks u' w' n' u w n = true := by
  rw [Bool.eq_false_iff, Ne, outranks_iff] at notAbove
  rw [outranks_iff]
  omega

theorem outranks_eq_not_outranks {u w n u' w' n' : Nat} (differ : n ≠ n') :
    outranks u w n u' w' n' = !outranks u' w' n' u w n := by
  cases rank : outranks u w n u' w' n' with
  | true => rw [outranks_asymm rank, Bool.not_false]
  | false => rw [outranks_of_not_outranks differ rank, Bool.not_true]

/-! ### Blockers (R29) -/

/-- A claim has one of two kinds: a HOLD blocks by itself, so rank is asked of a REQ alone. -/
theorem hold_or_iff_hold_or_req (k : ClaimKind) (P : Prop) : k = .hold ∨ P ↔ k = .hold ∨ (k = .req ∧ P) := by
  cases k with
  | req => simp
  | hold => simp

theorem peerBlocks_iff {s : State} {e : ClaimEntry} {p : Peer} :
    peerBlocks s e p = true ↔
      ∃ c ∈ p.claims, c.zone = e.zone ∧
        (c.kind = .hold ∨ (c.kind = .req ∧ p.freshness = .live ∧
          outranks c.urgency c.wait p.station e.urgency e.carried s.ownNumber = true)) := by
  simp only [peerBlocks, List.any_eq_true, Bool.and_eq_true, Bool.or_eq_true, beq_iff_eq, decide_eq_true_eq,
    ← hold_or_iff_hold_or_req]

theorem isBlocked_iff {s : State} {e : ClaimEntry} :
    isBlocked s e = true ↔
      s.table.overflow.isSome = true ∨ ∃ p ∈ s.table.peers, peerBlocks s e p = true := by
  simp only [isBlocked, Bool.or_eq_true, List.any_eq_true]

/-- Settles O36: the blockers are those of `isBlocked_iff` and `peerBlocks_iff` with the rank of `outranks_iff`, and that
rank is asymmetric and total between different stations. -/
theorem blockersAndRank : Obligations.BlockersAndRank := by
  unfold Obligations.BlockersAndRank
  refine ⟨fun s e => ?_, fun u w n u' w' n' differ => outranks_eq_not_outranks differ⟩
  simp only [isBlocked_iff, peerBlocks_iff, outranks_iff]

end Sys2Proof.Machine
end

section
/-! The effective margin, the reaction distance and the lead over a profile within its ranges (R101, R109, R111). -/

namespace Sys2Proof.Machine

/-! ### Profiles within their ranges (R101) -/

theorem clamp_eq_self_iff {x lo hi : Nat} (ordered : lo ≤ hi) : clamp x lo hi = x ↔ lo ≤ x ∧ x ≤ hi := by
  unfold clamp
  omega

/-- The table of R101, row by row. -/
theorem Profile.inRange_iff {p : Profile} :
    p.inRange ↔ (500 ≤ p.cap ∧ p.cap ≤ 8000) ∧ (200 ≤ p.decel ∧ p.decel ≤ 3000) ∧ (100 ≤ p.rise ∧ p.rise ≤ 2000) ∧
      (500 ≤ p.margin ∧ p.margin ≤ 5000) ∧ (50 ≤ p.reaction ∧ p.reaction ≤ 1000) ∧
      (0 ≤ p.leadExtra ∧ p.leadExtra ≤ 30000) := by
  obtain ⟨cap, decel, rise, margin, reaction, leadExtra⟩ := p
  simp only [Profile.inRange, Profile.limited, Profile.mk.injEq]
  rw [clamp_eq_self_iff (by decide), clamp_eq_self_iff (by decide), clamp_eq_self_iff (by decide),
    clamp_eq_self_iff (by decide), clamp_eq_self_iff (by decide), clamp_eq_self_iff (by decide)]

/-- The active profile is one of the three stored ones. -/
theorem profile_inRange {s : State} (ranges : profilesInRange s) : s.profile.inRange := by
  obtain ⟨unladen, laden, ladenHigh⟩ := ranges
  unfold State.profile
  cases s.auth.active with
  | unladen => exact unladen
  | laden => exact laden
  | ladenHigh => exact ladenHigh

/-! ### The three distances (R109, R111) -/

theorem effectiveMargin_eq (s : State) :
    effectiveMargin s = if s.odo.quality = .good then s.profile.margin else 2 * s.profile.margin := by
  unfold effectiveMargin
  cases s.odo.quality with
  | good => rfl
  | doubt => rfl
  | lost => rfl

theorem effectiveMargin_bounds {s : State} (margin : 500 ≤ s.profile.margin ∧ s.profile.margin ≤ 5000) :
    500 ≤ effectiveMargin s ∧ effectiveMargin s ≤ 10000 := by
  rw [effectiveMargin_eq]
  split
  case isTrue => omega
  case isFalse => omega

/-- The largest reaction distance is the one at 10 m/s over one second (R109). -/
theorem reactionDistance_le {s : State} (speed : s.odo.vmeas ≤ 10000) (reaction : s.profile.reaction ≤ 1000) :
    reactionDistance s ≤ 10000 :=
  calc s.odo.vmeas * s.profile.reaction / 1000
    _ ≤ 10000 * 1000 / 1000 := Nat.div_le_div_right (Nat.mul_le_mul speed reaction)
    _ = 10000 := rfl

/-- The longest braking distance is the one from the largest cap at the smallest deceleration (R111). -/
theorem brakingDistance_le {cap decel : Nat} (capMost : cap ≤ 8000) (decelLeast : 200 ≤ decel) :
    cap ^ 2 / (2 * decel) ≤ 160000 :=
  calc cap ^ 2 / (2 * decel)
    _ ≤ 8000 ^ 2 / (2 * 200) :=
      Nat.div_le_div (Nat.pow_le_pow_left capMost 2) (Nat.mul_le_mul_left 2 decelLeast) (by decide)
    _ = 160000 := rfl

theorem effectiveMargin_le_lead (s : State) : effectiveMargin s ≤ lead s :=
  Nat.le_trans (Nat.le_add_left _ _) (Nat.le_add_right _ _)

/-- Settles O41: the formulas are the model's, and the ranges follow from those of the active profile (R101), since the
braking distance grows with the cap and falls with the deceleration. -/
theorem marginReactionAndLead : Obligations.MarginReactionAndLead := by
  unfold Obligations.MarginReactionAndLead
  refine fun s => ⟨effectiveMargin_eq s, rfl, rfl, fun ranges speed => ?_⟩
  obtain ⟨⟨-, capMost⟩, ⟨decelLeast, -⟩, -, margin, ⟨-, reactionMost⟩, ⟨-, extraMost⟩⟩ :=
    Profile.inRange_iff.mp (profile_inRange ranges)
  obtain ⟨marginLeast, marginMost⟩ := effectiveMargin_bounds margin
  have braking : s.profile.cap ^ 2 / (2 * s.profile.decel) ≤ 160000 := brakingDistance_le capMost decelLeast
  refine ⟨marginLeast, marginMost, reactionDistance_le speed reactionMost,
    Nat.le_trans marginLeast (effectiveMargin_le_lead s), ?_⟩
  calc lead s
    _ ≤ 160000 + 10000 + 30000 := Nat.add_le_add (Nat.add_le_add braking marginMost) extraMost
    _ = 200000 := rfl

end Sys2Proof.Machine
end

section
/-! Draws of the jitter generator and urgent requests, case by case (R127, R130, R131). -/

namespace Sys2Proof.Machine

/-! ### Draws (R127) -/

/-- A draw from a range of natural numbers is a natural number. -/
theorem draw_natCast {g : BitVec 16} {lo hi : Nat} (ordered : lo ≤ hi) :
    draw g lo hi = (stepGen g, ((lo + (stepGen g).toNat % (hi - lo + 1) : Nat) : Int)) := by
  have count : (hi : Int) - lo + 1 = ((hi - lo + 1 : Nat) : Int) := by omega
  simp only [draw, count, Int.natCast_add, Int.natCast_emod]

theorem add_mod_range_le {lo hi : Nat} (ordered : lo ≤ hi) (x : Nat) : lo + x % (hi - lo + 1) ≤ hi := by
  have below : x % (hi - lo + 1) < hi - lo + 1 := Nat.mod_lt x (Nat.succ_pos _)
  omega

/-! ### The own period (R125) -/

theorem periodMs_ge_hundred (code : Nat) : 100 ≤ periodMs code := by
  unfold periodMs
  split
  all_goals decide

/-- The delay range of R130 is not empty: P is at least 100 ms. -/
theorem five_le_period_div_eight (s : State) : 5 ≤ s.period / 8 := by
  have : 100 ≤ s.period := periodMs_ge_hundred _
  omega

/-! ### Urgent requests (R130, R131) -/

theorem limiterClosed_iff {s : State} :
    limiterClosed s = true ↔ ∃ l, s.radio.limiter = some l ∧ s.now < l + s.period * 250 := by
  unfold limiterClosed
  cases s.radio.limiter with
  | none => simp
  | some l => simp

/-- The three reasons for which a request has no effect. -/
theorem urgentRequest_covered {s : State}
    (covered : s.running = false ∨ s.radio.slot ≠ none ∨ limiterClosed s = true) : urgentRequest s = s := by
  have guard : (!s.running || s.radio.slot.isSome || limiterClosed s) = true := by
    obtain silent | pending | closed := covered
    · simp [silent]
    · simp [Option.isSome_iff_ne_none.mpr pending]
    · simp [closed]
  exact if_pos guard

/-- With none of these reasons the beacon is placed, due a drawn delay after the request. -/
theorem urgentRequest_placed {s : State} (running : s.running = true) (empty : s.radio.slot = none)
    (opened : limiterClosed s = false) :
    urgentRequest s = { s with radio := { s.radio with
      gen := stepGen s.radio.gen
      slot := some ⟨.urgent, s.now + (5 + (stepGen s.radio.gen).toNat % (s.period / 8 - 5 + 1)) * 1000, 0, false⟩ } } := by
  have drawn := draw_natCast (g := s.radio.gen) (five_le_period_div_eight s)
  have guard : ¬(!s.running || s.radio.slot.isSome || limiterClosed s) = true := by simp [running, empty, opened]
  calc urgentRequest s
    _ = { s with radio := { s.radio with
          gen := (draw s.radio.gen (5 : Nat) (s.period / 8 : Nat)).1
          slot := some ⟨.urgent, s.now + (draw s.radio.gen (5 : Nat) (s.period / 8 : Nat)).2.toNat * 1000, 0, false⟩ } } :=
      if_neg guard
    _ = _ := by rw [drawn, Int.toNat_natCast]

end Sys2Proof.Machine

/-! The obligation has the name of the model's own function, so its theorem stands in a namespace apart. -/

namespace Sys2Proof.Proofs

open Sys2Proof.Machine

/-- Settles O45: a covered request is `urgentRequest_covered`, any other is `urgentRequest_placed`, and its delay lies in
the range, which no period leaves empty. -/
theorem urgentRequest : Obligations.UrgentRequest := by
  unfold Obligations.UrgentRequest
  refine fun s => ⟨fun silent => urgentRequest_covered (.inl silent),
    fun pending => urgentRequest_covered (.inr (.inl pending)),
    fun l limiter early => urgentRequest_covered (.inr (.inr (limiterClosed_iff.mpr ⟨l, limiter, early⟩))),
    fun running empty late => ?_⟩
  have opened : limiterClosed s = false := by
    rw [Bool.eq_false_iff, Ne, limiterClosed_iff]
    rintro ⟨l, limiter, early⟩
    exact absurd (late l limiter) (Nat.not_le.mpr early)
  exact ⟨Nat.le_add_right _ _, add_mod_range_le (five_le_period_div_eight s) _,
    urgentRequest_placed running empty opened⟩

end Sys2Proof.Proofs
end

section
/-! The configuration word: R173's list of checks as a chain of tests, and what its read leaves of the station (R172 to
R175). -/

namespace Sys2Proof.Machine

/-! ### The checks (R173) -/

/-- The first check of a list that fails decides the code; the rest of the list is asked only when it passes. -/
theorem firstFailing_cons (code : Nat) (fails : Bool) (checks : List (Nat × Bool)) :
    ((((code, fails) :: checks).find? (fun c => c.2)).map (fun c => c.1)).getD 0 =
      if fails = true then code else ((checks.find? (fun c => c.2)).map (fun c => c.1)).getD 0 := by
  cases fails with
  | true => rfl
  | false => rfl

/-- The model's chain of tests is R173's table: a carrier makes all six checks, a FIXED station the first two. -/
theorem configFault_eq_failedCheck (w : ConfigWord) : configFault w = failedCheck w := by
  simp only [configFault, failedCheck, firstFailing_cons]
  cases w.cls with
  | carrier => simp
  | fixed => simp

/-! ### The read (R172, R174, R175) -/

/-- The fields as they are locked, before the check. -/
def lockWord (w : ConfigWord) (s : State) : State :=
  { s with
    station := { s.station with cfg := some w }
    odo := { s.odo with mode := configuredMode w } }

/-- In BOOT the word is locked once, and the check decides between the two states. -/
theorem configRead_unread {w : ConfigWord} {s : State} (boot : s.station.state = .boot) (unread : s.station.cfg = none) :
    configRead w s = if failedCheck w = 0 then enterListen w (lockWord w s)
      else enterConfigFault (failedCheck w) (lockWord w s) := by
  have guard : (s.station.state = .boot && s.station.cfg.isNone) = true := by simp [boot, unread]
  rw [← configFault_eq_failedCheck]
  exact if_pos guard

/-- The listing test at entry into LISTEN leaves the station as it is. -/
theorem enterListen_station (w : ConfigWord) (s : State) :
    (enterListen w s).station =
      { s.station with state := .listen, listen := .running (s.now + listenInterval w.listenCode) } :=
  (listingTest_inner _).station

theorem enterConfigFault_station (code : Nat) (s : State) :
    (enterConfigFault code s).station = { s.station with state := .configFault, fault := code } := rfl

/-- CONFIG_READ_COMPLETE on a part that runs. -/
theorem exec_configReadComplete {t : Time} {w : ConfigWord} {s : State} (free : s.station.held = false) :
    exec (.configReadComplete t w) s = .next (finish (configRead w (s.reach t))) :=
  congrArg Host.Outcome.next (outsideEvent_free free)

/-- Settles O6: the end of the event leaves the station as the read does, and the read leaves it in the state that R173's
code decides; the code 0 of a word that passes is the one that stood in BOOT. -/
theorem configurationWordChecked : Obligations.ConfigurationWordChecked := by
  unfold Obligations.ConfigurationWordChecked
  intro t w s free boot unread noFault
  refine ⟨_, exec_configReadComplete free, ?_⟩
  have read := configRead_unread (w := w) (s := s.reach t) boot unread
  rw [finish_station, read]
  by_cases passes : failedCheck w = 0
  case pos =>
    rw [if_pos passes, if_pos passes, enterListen_station, passes]
    exact ⟨rfl, noFault, rfl⟩
  case neg =>
    rw [if_neg passes, if_neg passes, enterConfigFault_station]
    exact ⟨rfl, rfl, rfl⟩

end Sys2Proof.Machine
end

section
/-! Chains of steps and facts about lists that core Lean, in which this package stands, does not name. -/

namespace Sys2Proof.Machine

-- One proof after another: many at a time want more threads than the memory limit of a build leaves.
set_option Elab.async false

/-! ### Chains -/

/-- A chain of steps, grown at its end. -/
inductive ReflTransGen {α : Type} (r : α → α → Prop) (a : α) : α → Prop
  | refl : ReflTransGen r a a
  | tail {b c : α} : ReflTransGen r a b → r b c → ReflTransGen r a c

namespace ReflTransGen

variable {α : Type} {r p : α → α → Prop} {a b c : α}

theorem single (h : r a b) : ReflTransGen r a b := .tail .refl h

theorem trans (h : ReflTransGen r a b) (k : ReflTransGen r b c) : ReflTransGen r a c := by
  induction k with
  | refl => exact h
  | tail _ last ih => exact ih.tail last

theorem mono (sub : ∀ x y, r x y → p x y) (h : ReflTransGen r a b) : ReflTransGen p a b := by
  induction h with
  | refl => exact .refl
  | tail _ last ih => exact ih.tail (sub _ _ last)

end ReflTransGen

/-! ### Lists -/

theorem inj_of_nodup_map {α β : Type} {f : α → β} : ∀ {xs : List α} (_ : (xs.map f).Nodup) {x y : α} (_ : x ∈ xs) (_ : y ∈ xs)
    (_ : f x = f y), x = y
  | z :: zs, differ, x, y, hx, hy, same => by
    rw [List.map_cons, List.nodup_cons] at differ
    obtain ⟨apart, rest⟩ := differ
    obtain rfl | laterX := List.mem_cons.mp hx
    · obtain rfl | laterY := List.mem_cons.mp hy
      · rfl
      · exact absurd (same ▸ List.mem_map_of_mem laterY) apart
    · obtain rfl | laterY := List.mem_cons.mp hy
      · exact absurd (same ▸ List.mem_map_of_mem laterX) apart
      · exact inj_of_nodup_map rest laterX laterY same

theorem flatMap_congr {α β : Type} {f g : α → List β} : ∀ {xs : List α} (_ : ∀ x ∈ xs, f x = g x), xs.flatMap f = xs.flatMap g
  | [], _ => rfl
  | x :: xs, same => by
    rw [List.flatMap_cons, List.flatMap_cons, same x List.mem_cons_self,
      flatMap_congr fun y hy => same y (List.mem_cons_of_mem x hy)]

theorem filterMap_congr {α β : Type} {f g : α → Option β} : ∀ {xs : List α} (_ : ∀ x ∈ xs, f x = g x),
    xs.filterMap f = xs.filterMap g
  | [], _ => rfl
  | x :: xs, same => by
    rw [List.filterMap_cons, List.filterMap_cons, same x List.mem_cons_self,
      filterMap_congr fun y hy => same y (List.mem_cons_of_mem x hy)]

theorem exists_pair {α : Type} : ∀ {xs : List α} (_ : xs.length = 2), ∃ x y, xs = [x, y]
  | [x, y], _ => ⟨x, y, rfl⟩

/-- Where a list is cut at a member that stands nowhere else, the part before the cut is the same. -/
theorem before_unique {α : Type} {x y : α} {after after' : List α} : ∀ {before before' : List α} (_ : y ∉ before)
    (_ : y ∉ after) (_ : before ++ x :: after = before' ++ y :: after'), before = before'
  | [], [], _, _, _ => rfl
  | [], z :: zs, _, away, same => by
    obtain ⟨-, rest⟩ := List.cons.inj same
    exact absurd (rest ▸ List.mem_append_right zs List.mem_cons_self) away
  | z :: zs, [], apart, _, same => by
    obtain ⟨first, -⟩ := List.cons.inj same
    exact absurd (first ▸ List.mem_cons_self) apart
  | z :: zs, w :: ws, apart, away, same => by
    obtain ⟨rfl, rest⟩ := List.cons.inj same
    rw [before_unique (fun member => apart (List.mem_cons_of_mem z member)) away rest]

theorem nodup_middle {α : Type} {x : α} {before after : List α} :
    (before ++ x :: after).Nodup ↔ (x :: (before ++ after)).Nodup := List.perm_middle.nodup_iff

end Sys2Proof.Machine
end

section
/-! What one step is made of: small moves, each an update that the clock, the end of an event, a reset or the work of one
event makes. A step is a chain of quiet moves, or one change of the Neighbour Table with the end of its event. -/

namespace Sys2Proof.Machine

-- One proof after another: many at a time want more threads than the memory limit of a build leaves.
set_option Elab.async false


/-- A handler of one of the fifteen command kinds (R159, R183). -/
inductive Owner : Handler → Prop
  | startPosition (p : List Byte) : Owner (startPositionHandler p)
  | routeAppend (p : List Byte) : Owner (routeAppendHandler p)
  | routeCut (p : List Byte) : Owner (routeCutHandler p)
  | proceed (p : List Byte) : Owner (proceedHandler p)
  | loadState (p : List Byte) : Owner (loadStateHandler p)
  | profileSet (p : List Byte) : Owner (profileSetHandler p)
  | park : Owner parkHandler
  | unpark : Owner unparkHandler
  | resume : Owner resumeHandler
  | yieldZone (p : List Byte) : Owner (yieldZoneHandler p)
  | standClaim (p : List Byte) : Owner (standClaimHandler p)
  | standRelease : Owner standReleaseHandler
  | commit : Owner commitHandler
  | statusQuery : Owner statusQueryHandler
  | restart : Owner restartHandler

/-- A move that leaves the claims, the freshness and the overflow condition of the Neighbour Table, or empties the table at
a reset. Each constructor carries the guard under which `exec` makes the move. -/
inductive Quiet : State → State → Prop
  | reach (t : Time) (s : State) : Quiet s (s.reach t)
  | finish (s : State) : Quiet s (finish s)
  | powerOn (s : State) : Quiet s (setHold .supply true (resetBlocks .powerOn .default 65536 s))
  | restart (cause : ResetCause) (s : State) : Quiet s (restartPart cause s)
  | hold (reason : HoldReason) (stands : Bool) (s : State) : Quiet s (setHold reason stands s)
  | release (s : State) : Quiet s (releaseReset s)
  | configRead (w : ConfigWord) (s : State) : Quiet s (configRead w s)
  | listenExpired (s : State) (listening : s.station.state = .listen) : Quiet s (listenExpired s)
  | handled (kind : Byte) {h : Handler} (s : State) (owner : Owner h) (room : s.port.replies.length < 4) :
      Quiet s (queueReply kind (h s).2 (h s).1)
  | replied (kind : Byte) (a : Answer) (s : State) (room : s.port.replies.length < 4) : Quiet s (queueReply kind a s)
  | inbound (a : PortAssembler) (g : Option Time) (s : State) : Quiet s (setInbound a g s)
  | portBad (s : State) : Quiet s (countPortBad s)
  | lineFree (s : State) : Quiet s { s with port := { s.port with out := none } }
  | statusExpiry (s : State) : Quiet s (statusExpiry s)
  | sample (pA pB : Nat) (s : State) (carrier : s.isCarrier = true) (running : s.running = true) :
      Quiet s (sampleWork pA pB s)
  | marker (ident pA pB : Nat) (s : State) (carrier : s.isCarrier = true) (running : s.running = true) :
      Quiet s (markerWork ident pA pB s)
  | assembler (a : RadioAssembler) (g : Option Time) (s : State) (guard : s.running = true ∨ a = .hunt) :
      Quiet s (setRx a g s)
  | radioBad (s : State) : Quiet s (countRadioBad s)
  | frame (bytes : List Byte) (s : State) (running : s.running = true) : Quiet s (enqueueFrame bytes s)
  | settle (z : Nat) (s : State) : Quiet s (settleExpires z s)
  | gridlock (z : Nat) (s : State) : Quiet s (gridlockOut z s)
  | output (s : State) : Quiet s (nextOutput s)
  | tick (s : State) (ticking : ticks s = true) : Quiet s (authorityTickWork s)
  | refresh (s : State) (idle : ticks s = false) : Quiet s (outputRefreshWork s)
  | word (s : State) : Quiet s (wordComplete s)
  | nominal (n : Time) (s : State) (due : s.radio.next = some n) : Quiet s (nominalWork n s)
  | placement (n : Time) (s : State) (due : s.radio.next = some n) : Quiet s (placeScheduled n s)
  | beaconDue (clear : Bool) (s : State) : Quiet s (beaconDueNow clear s)
  | frameComplete (x : Transmission) (s : State) (sending : s.radio.tx = some x) : Quiet s (frameCompletes x s)
  | tailEnd (s : State) : Quiet s (tailEnds s)

/-- A change of the Neighbour Table with what the Claim Window takes from it. -/
inductive TableMove : State → State → Prop
  | take (s : State) (running : s.running = true) : TableMove s (takeInstant s)
  | stale (n : Nat) (s : State) : TableMove s (peerStale n s)
  | lost (n : Nat) (s : State) : TableMove s (peerLost n s)
  | clear (s : State) : TableMove s (overflowClears s)

abbrev QuietChain : State → State → Prop := ReflTransGen Quiet

/-- What a step can do. -/
inductive StepResult (s : State) : State → Prop
  | quiet {u : State} (chain : QuietChain s u) : StepResult s u
  | table (t : Time) {v : State} (move : TableMove (s.reach t) v) : StepResult s (finish v)

theorem QuietChain.one {s t : State} (q : Quiet s t) : QuietChain s t := .single q

/-! ### Bytes and messages -/

theorem handlerFor_owner {kind : Byte} {payload : List Byte} {l : Option Nat} {h : Handler}
    (found : handlerFor kind payload = some (l, h)) : Owner h := by
  unfold handlerFor at found
  split at found
  all_goals first | (injection found with found; injection found with _ found; subst found; constructor) | exact nomatch found

theorem takeCommand_chain {kind : Byte} {l : Option Nat} {payload : List Byte} {h : Handler} (owner : Owner h) (s : State) :
    QuietChain s (takeCommand kind l payload h s) := by
  have done : QuietChain s (inboundDone s) := .one (.inbound .hunt none s)
  unfold takeCommand
  dsimp only
  split
  · exact done
  · split
    · exact done.tail (.portBad _)
    · rename_i room
      have room : (inboundDone s).port.replies.length < 4 := by simpa [maxReplies] using room
      split
      · exact done.tail (.replied _ _ _ room)
      · exact done.tail (.handled _ _ owner room)

theorem takeNonCommand_chain (kind : Byte) (s : State) : QuietChain s (takeNonCommand kind s) := by
  have done : QuietChain s (inboundDone s) := .one (.inbound .hunt none s)
  unfold takeNonCommand
  dsimp only
  split
  · exact done
  · split
    · exact done.tail (.portBad _)
    · rename_i room
      exact done.tail (.replied _ _ _ (by simpa [maxReplies] using room))

theorem takeMessage_chain (kind : Byte) (payload : List Byte) (s : State) : QuietChain s (takeMessage kind payload s) := by
  unfold takeMessage
  split
  · exact takeCommand_chain (handlerFor_owner (by assumption)) s
  · exact takeNonCommand_chain kind s

theorem badMessage_chain (s : State) : QuietChain s (countPortBad (inboundDone s)) :=
  (QuietChain.one (.inbound .hunt none s)).tail (.portBad _)

theorem portByte_chain (x : Byte) (s : State) : QuietChain s (portByte x s) := by
  unfold portByte
  split
  · exact .refl
  · dsimp only
    split
    · split
      · exact .one (.inbound _ _ s)
      · exact .refl
    · exact .one (.inbound _ _ s)
    · split
      · exact .one (.inbound _ _ s)
      · exact badMessage_chain s
    · split
      · exact .one (.inbound _ _ s)
      · split
        · exact takeMessage_chain _ _ s
        · exact badMessage_chain s

theorem portBytes_chain : ∀ (bytes : List Byte) (s : State), QuietChain s (portBytes bytes s)
  | [], _ => .refl
  | x :: xs, s => ((portByte_chain x s).tail (.finish _)).trans (portBytes_chain xs _)

theorem inboundGapOut_chain (s : State) : QuietChain s (inboundGapOut s) := by
  have aborted : QuietChain s (countPortBad (inboundDone (s.reach (s.port.inGap.getD s.now)))) :=
    (QuietChain.one (.reach _ s)).trans (badMessage_chain _)
  unfold inboundGapOut
  split
  · exact .refl
  all_goals exact aborted

theorem radioByte_running (x : Byte) (s : State) : (radioByte x s).running = s.running := by
  unfold radioByte enqueueFrame
  dsimp only
  repeat' split
  all_goals rfl

theorem radioByte_chain {x : Byte} {s : State} (running : s.running = true) : QuietChain s (radioByte x s) := by
  have rx (a : RadioAssembler) (g : Option Time) {t : State} (h : t.running = true) : Quiet t (setRx a g t) :=
    .assembler a g t (.inl h)
  unfold radioByte
  dsimp only
  split
  · split
    · exact .one (rx _ _ running)
    · exact .refl
  · split
    · exact .one (rx _ _ running)
    · split <;> exact (QuietChain.one (.radioBad s)).tail (rx _ _ running)
  · split
    · exact .one (rx _ _ running)
    · split
      · exact (QuietChain.one (rx _ _ running)).tail (.frame _ _ running)
      · exact (QuietChain.one (rx _ _ running)).tail (.radioBad _)

theorem radioBytes_chain (bytes : List Byte) (s : State) : QuietChain s (radioBytes bytes s) := by
  unfold radioBytes
  split
  · rename_i guard
    have running : s.running = true := by simp_all
    clear guard
    induction bytes generalizing s with
    | nil => exact .refl
    | cons x xs ih => exact (radioByte_chain running).trans (ih _ (by rw [radioByte_running]; exact running))
  · exact .refl

theorem radioGapOut_chain (s : State) : QuietChain s (radioGapOut s) := by
  have aborted : QuietChain s (countRadioBad (setRx .hunt none (s.reach (s.radio.rxGap.getD s.now)))) :=
    ((QuietChain.one (.reach _ s)).tail (.assembler .hunt none _ (.inr rfl))).tail (.radioBad _)
  unfold radioGapOut
  split
  · exact .refl
  all_goals exact aborted

/-! ### Events -/

theorem outsideEvent_chain {t : Time} {w : State → State} {s : State} (work : QuietChain (s.reach t) (w (s.reach t))) :
    QuietChain s (outsideEvent t w s) := by
  unfold outsideEvent
  dsimp only
  split
  · exact .one (.reach t s)
  · exact ((QuietChain.one (.reach t s)).trans work).tail (.finish _)

theorem timedEvent_chain {due : Option Time} {w : State → State} {s : State}
    (work : ∀ t, due = some t → QuietChain (s.reach t) (w (s.reach t))) : QuietChain s (timedEvent due w s) := by
  unfold timedEvent
  split
  · exact .refl
  · split
    · exact .refl
    · exact ((QuietChain.one (.reach _ s)).trans (work _ rfl)).tail (.finish _)

theorem timedEvent_table {due : Option Time} {w : State → State} {s : State}
    (work : ∀ t, due = some t → TableMove (s.reach t) (w (s.reach t))) : StepResult s (timedEvent due w s) := by
  unfold timedEvent
  split
  · exact .quiet .refl
  · split
    · exact .quiet .refl
    · exact .table _ (work _ rfl)

theorem listenDue_listening {s : State} {t : Time} (due : listenDue s = some t) : s.station.state = .listen := by
  unfold listenDue at due
  split at due
  · assumption
  · exact nomatch due

theorem outboundComplete_chain (m : OutMessage) (s : State) : QuietChain s (outboundComplete m s) := by
  unfold outboundComplete
  split
  · exact .one (.restart _ s)
  · exact (QuietChain.one (.lineFree s)).tail (.finish _)

theorem exec_outcome (c : Instr) (s : State) : ∃ u, exec c s = .next u ∧ StepResult s u := by
  cases c
  case powerOnReset t => exact ⟨_, rfl, .quiet ((QuietChain.one (.reach t s)).tail (.powerOn _))⟩
  case resetLine t =>
    exact ⟨_, rfl, .quiet (((QuietChain.one (.reach t s)).tail (.restart _ _)).tail (.hold .line true _))⟩
  case resetRelease e =>
    refine ⟨_, rfl, .quiet ?_⟩
    dsimp only
    split
    · exact ((QuietChain.one (.reach e.t s)).tail (.hold _ _ _)).tail (.release _)
    · exact .one (.reach e.t s)
  case configReadComplete t w => exact ⟨_, rfl, .quiet (outsideEvent_chain (.one (.configRead w _)))⟩
  case listenTimerExpiry =>
    exact ⟨_, rfl, .quiet (timedEvent_chain fun t due => .one (.listenExpired _ (listenDue_listening due)))⟩
  case startPosition t p => exact ⟨_, rfl, .quiet (outsideEvent_chain (takeCommand_chain (.startPosition p) _))⟩
  case routeAppend t p => exact ⟨_, rfl, .quiet (outsideEvent_chain (takeCommand_chain (.routeAppend p) _))⟩
  case routeCut t p => exact ⟨_, rfl, .quiet (outsideEvent_chain (takeCommand_chain (.routeCut p) _))⟩
  case proceed t p => exact ⟨_, rfl, .quiet (outsideEvent_chain (takeCommand_chain (.proceed p) _))⟩
  case loadState t p => exact ⟨_, rfl, .quiet (outsideEvent_chain (takeCommand_chain (.loadState p) _))⟩
  case profileSet t p => exact ⟨_, rfl, .quiet (outsideEvent_chain (takeCommand_chain (.profileSet p) _))⟩
  case park t p => exact ⟨_, rfl, .quiet (outsideEvent_chain (takeCommand_chain .park _))⟩
  case unpark t p => exact ⟨_, rfl, .quiet (outsideEvent_chain (takeCommand_chain .unpark _))⟩
  case resume t p => exact ⟨_, rfl, .quiet (outsideEvent_chain (takeCommand_chain .resume _))⟩
  case yieldZone t p => exact ⟨_, rfl, .quiet (outsideEvent_chain (takeCommand_chain (.yieldZone p) _))⟩
  case standClaim t p => exact ⟨_, rfl, .quiet (outsideEvent_chain (takeCommand_chain (.standClaim p) _))⟩
  case standRelease t p => exact ⟨_, rfl, .quiet (outsideEvent_chain (takeCommand_chain .standRelease _))⟩
  case commit t p => exact ⟨_, rfl, .quiet (outsideEvent_chain (takeCommand_chain .commit _))⟩
  case statusQuery t p => exact ⟨_, rfl, .quiet (outsideEvent_chain (takeCommand_chain .statusQuery _))⟩
  case restart t p => exact ⟨_, rfl, .quiet (outsideEvent_chain (takeCommand_chain .restart _))⟩
  case nonCommandMessage t k p => exact ⟨_, rfl, .quiet (outsideEvent_chain (takeNonCommand_chain k _))⟩
  case badMessage t bs => exact ⟨_, rfl, .quiet (outsideEvent_chain (portBytes_chain bs _))⟩
  case inboundGapTimeout t bs =>
    exact ⟨_, rfl, .quiet (outsideEvent_chain ((portBytes_chain bs _).trans (inboundGapOut_chain _)))⟩
  case outboundMessageComplete =>
    refine ⟨_, rfl, .quiet ?_⟩
    split
    · exact .refl
    · exact (QuietChain.one (.reach _ s)).trans (outboundComplete_chain _ _)
  case statusTimerExpiry => exact ⟨_, rfl, .quiet (timedEvent_chain fun t _ => .one (.statusExpiry _))⟩
  case odometrySample pA pB =>
    refine ⟨_, rfl, .quiet (timedEvent_chain fun t due => ?_)⟩
    unfold sampleDue at due
    split at due
    · rename_i guard
      obtain ⟨carrier, running⟩ := Bool.and_eq_true_iff.mp guard
      exact .one (.sample pA pB _ carrier running)
    · exact nomatch due
  case markerArrival t m pA pB =>
    refine ⟨_, rfl, .quiet (outsideEvent_chain ?_)⟩
    split
    · rename_i guard
      obtain ⟨carrier, running⟩ := Bool.and_eq_true_iff.mp guard
      exact .one (.marker m pA pB _ carrier running)
    · exact .refl
  case radioFrameReceived t bs => exact ⟨_, rfl, .quiet (outsideEvent_chain (radioBytes_chain bs _))⟩
  case radioGapTimeout t bs =>
    exact ⟨_, rfl, .quiet (outsideEvent_chain ((radioBytes_chain bs _).trans (radioGapOut_chain _)))⟩
  case radioBadLengthByte t bs => exact ⟨_, rfl, .quiet (outsideEvent_chain (radioBytes_chain bs _))⟩
  case takeFrame =>
    refine ⟨_, rfl, timedEvent_table fun t due => ?_⟩
    unfold takeDue at due
    split at due
    · exact .take _ (by assumption)
    · exact nomatch due
  case peerStale n => exact ⟨_, rfl, timedEvent_table fun t _ => .stale n _⟩
  case peerLost n => exact ⟨_, rfl, timedEvent_table fun t _ => .lost n _⟩
  case overflowClear => exact ⟨_, rfl, timedEvent_table fun t _ => .clear _⟩
  case settleExpiry z => exact ⟨_, rfl, .quiet (timedEvent_chain fun t _ => .one (.settle z _))⟩
  case gridlock z => exact ⟨_, rfl, .quiet (timedEvent_chain fun t _ => .one (.gridlock z _))⟩
  case authorityTick =>
    refine ⟨_, rfl, .quiet (timedEvent_chain fun t due => ?_)⟩
    split at due
    · rename_i ticking
      exact (QuietChain.one (.output _)).tail (.tick _ ticking)
    · exact nomatch due
  case outputRefresh =>
    refine ⟨_, rfl, .quiet (timedEvent_chain fun t due => ?_)⟩
    split at due
    · exact nomatch due
    · rename_i idle
      exact (QuietChain.one (.output _)).tail (.refresh _ (Bool.eq_false_iff.mpr idle))
  case ceilingWordComplete => exact ⟨_, rfl, .quiet (timedEvent_chain fun t _ => .one (.word _))⟩
  case nominalInstant =>
    refine ⟨_, rfl, .quiet ?_⟩
    split
    · exact .refl
    · rename_i n due
      exact timedEvent_chain fun t _ => .one (.nominal n _ due)
  case placementPoint =>
    refine ⟨_, rfl, .quiet ?_⟩
    split
    · exact .refl
    · rename_i n due
      exact timedEvent_chain fun t _ => .one (.placement n _ due)
  case beaconDue b => exact ⟨_, rfl, .quiet (timedEvent_chain fun t _ => .one (.beaconDue b _))⟩
  case beaconComplete =>
    refine ⟨_, rfl, .quiet ?_⟩
    split
    · exact .refl
    · rename_i x sending
      exact timedEvent_chain fun t _ => .one (.frameComplete x _ sending)
  case tailEnd =>
    refine ⟨_, rfl, .quiet ?_⟩
    split
    · exact .refl
    · exact timedEvent_chain fun t _ => .one (.tailEnd _)

/-- Settles O1: a step is defined by the front of the queue. -/
theorem stepRunsTheFrontCommand : Obligations.StepRunsTheFrontCommand := by
  unfold Obligations.StepRunsTheFrontCommand
  exact ⟨fun _ _ _ => rfl, fun _ => rfl⟩

/-- A step runs the front command on the rest of the queue, and that command can do what `exec_outcome` says. -/
theorem step_outcome {s u : State} (h : step s = .next u) :
    u = s ∨ ∃ q, StepResult (s.withPending q) u := by
  unfold step at h
  split at h
  · exact .inl (Host.Outcome.next.inj h).symm
  · rename_i c rest _
    obtain ⟨v, hv, result⟩ := exec_outcome c (s.withPending rest)
    rw [hv] at h
    exact .inr ⟨rest, Host.Outcome.next.inj h ▸ result⟩

/-- The induction over a step: what every move keeps, every step keeps. -/
theorem step_keeps {I : State → Prop} (queue : ∀ q s, I s → I (s.withPending q))
    (quiet : ∀ s t, Quiet s t → I s → I t) (table : ∀ s t, TableMove s t → I s → I t)
    {s u : State} (start : I s) (h : step s = .next u) : I u := by
  obtain rfl | ⟨q, result⟩ := step_outcome h
  · exact start
  · have start := queue q s start
    cases result with
    | quiet chain =>
      clear h
      induction chain with
      | refl => exact start
      | tail _ move ih => exact quiet _ _ move ih
    | table t move => exact quiet _ _ (.finish _) (table _ _ move (quiet _ _ (.reach t _) start))

end Sys2Proof.Machine
end

section
/-! What every piece of work inside an event leaves: the clock, the queue of commands, the STOP line, the message on the
outbound line and the reply queue; notices only join their queue. Resets, and a part held at reset. -/

namespace Sys2Proof.Machine

-- One proof after another: many at a time want more threads than the memory limit of a build leaves.
set_option Elab.async false


/-- What the work of an event leaves, whatever it does in the blocks. -/
structure Within (s t : State) : Prop where
  now : t.now = s.now
  pending : t.pending = s.pending
  stopLine : t.stopLine = s.stopLine
  out : t.port.out = s.port.out
  replies : t.port.replies = s.port.replies
  notices : s.port.notices <+: t.port.notices
  room : s.port.notices.length ≤ 16 → t.port.notices.length ≤ 16

namespace Within

theorem refl (s : State) : Within s s := ⟨rfl, rfl, rfl, rfl, rfl, List.prefix_refl _, id⟩

theorem trans {s t u : State} (h : Within s t) (k : Within t u) : Within s u where
  now := k.now.trans h.now
  pending := k.pending.trans h.pending
  stopLine := k.stopLine.trans h.stopLine
  out := k.out.trans h.out
  replies := k.replies.trans h.replies
  notices := h.notices.trans k.notices
  room := fun x => k.room (h.room x)

/-- Composition with the later piece first, so that it fixes the state between. -/
theorem behind {s t u : State} (k : Within t u) (h : Within s t) : Within s u := h.trans k

theorem ite {s t u : State} {p : Prop} [Decidable p] (h : Within s t) (k : Within s u) : Within s (if p then t else u) := by
  split <;> assumption

end Within

theorem Inner.within {s t : State} (h : Inner s t) : Within s t where
  now := h.now
  pending := h.pending
  stopLine := h.stopLine
  out := by rw [h.port]
  replies := by rw [h.port]
  notices := h.notices
  room := h.room

/-- A change of the blocks that leaves the port, but for its assembler, its counters, its timers and its two flags. -/
theorem within_of_eq {s t : State} (now : t.now = s.now) (pending : t.pending = s.pending)
    (stopLine : t.stopLine = s.stopLine) (out : t.port.out = s.port.out) (replies : t.port.replies = s.port.replies)
    (notices : t.port.notices = s.port.notices) : Within s t :=
  ⟨now, pending, stopLine, out, replies, notices ▸ List.prefix_refl _, fun h => notices ▸ h⟩

/-! ### The works, from the small to the whole -/

theorem setOdo_within (o : Odometry) (s : State) : Within s (setOdo o s) := within_of_eq rfl rfl rfl rfl rfl rfl
theorem setCells_within (cs : List StoredCell) (s : State) : Within s (setCells cs s) := within_of_eq rfl rfl rfl rfl rfl rfl
theorem setPeers_within (ps : List Peer) (s : State) : Within s (setPeers ps s) := within_of_eq rfl rfl rfl rfl rfl rfl
theorem setOverflow_within (o : Option Time) (s : State) : Within s (setOverflow o s) := within_of_eq rfl rfl rfl rfl rfl rfl
theorem changeState_within (st : StationState) (s : State) : Within s (changeState st s) := within_of_eq rfl rfl rfl rfl rfl rfl
theorem countStray_within (s : State) : Within s (countStray s) := within_of_eq rfl rfl rfl rfl rfl rfl
theorem countRadioBad_within (s : State) : Within s (countRadioBad s) := within_of_eq rfl rfl rfl rfl rfl rfl
theorem countQueueDrop_within (s : State) : Within s (countQueueDrop s) := within_of_eq rfl rfl rfl rfl rfl rfl
theorem setRx_within (a : RadioAssembler) (g : Option Time) (s : State) : Within s (setRx a g s) :=
  within_of_eq rfl rfl rfl rfl rfl rfl
theorem nextOutput_within (s : State) : Within s (nextOutput s) := within_of_eq rfl rfl rfl rfl rfl rfl
theorem startBeacon_within (b : PendingBeacon) (gap : Time) (s : State) : Within s (startBeacon b gap s) :=
  within_of_eq rfl rfl rfl rfl rfl rfl
theorem statusExpiry_within (s : State) : Within s (statusExpiry s) := within_of_eq rfl rfl rfl rfl rfl rfl
theorem shiftDatum_within (L : Nat) (cs : List StoredCell) (s : State) : Within s (shiftDatum L cs s) :=
  within_of_eq rfl rfl rfl rfl rfl rfl
theorem releaseStop_within (p : Nat) (s : State) : Within s (releaseStop p s) := within_of_eq rfl rfl rfl rfl rfl rfl
theorem countStandstill_within (s : State) : Within s (countStandstill s) := within_of_eq rfl rfl rfl rfl rfl rfl

theorem enqueueFrame_within (bytes : List Byte) (s : State) : Within s (enqueueFrame bytes s) := by
  unfold enqueueFrame
  exact .ite (within_of_eq rfl rfl rfl rfl rfl rfl) (countQueueDrop_within s)

theorem beaconDueNow_within (clear : Bool) (s : State) : Within s (beaconDueNow clear s) := by
  unfold beaconDueNow
  split
  · exact .refl s
  · exact .ite (within_of_eq rfl rfl rfl rfl rfl rfl) (.ite (startBeacon_within _ _ s)
      (.ite (within_of_eq rfl rfl rfl rfl rfl rfl) (within_of_eq rfl rfl rfl rfl rfl rfl)))

theorem placeScheduled_within (n : Time) (s : State) : Within s (placeScheduled n s) := by
  unfold placeScheduled
  dsimp only
  refine .ite (within_of_eq rfl rfl rfl rfl rfl rfl) (.ite ?_ (within_of_eq rfl rfl rfl rfl rfl rfl))
  exact .behind (beaconDueNow_within _ _) (within_of_eq rfl rfl rfl rfl rfl rfl)

theorem takePending_within (s : State) : Within s (takePending s) := by
  unfold takePending
  split
  · exact .refl s
  · exact .ite (within_of_eq rfl rfl rfl rfl rfl rfl)
      (.behind (listingTest_inner _).within (within_of_eq rfl rfl rfl rfl rfl rfl))

theorem authorityTickWork_within (s : State) : Within s (authorityTickWork s) :=
  (takePending_within s).trans (((setHorizon_inner _ _).trans ((overrunTest_inner _).trans
    ((tickCeiling_inner _).trans (commitAll_inner _)))).within)

theorem enterActive_within (s : State) : Within s (enterActive s) := by
  unfold enterActive
  refine .trans (t := changeState .active s) (changeState_within _ s) (.ite ?_ (within_of_eq rfl rfl rfl rfl rfl rfl))
  exact (authorityTickWork_within _).behind
    (((announceQueued_inner _).trans (listingTest_inner _)).within.behind (within_of_eq rfl rfl rfl rfl rfl rfl))

theorem enterActiveFromListen_within (s : State) : Within s (enterActiveFromListen s) :=
  (enterActive_within _).behind (within_of_eq rfl rfl rfl rfl rfl rfl)

theorem listenExpired_within (s : State) : Within s (listenExpired s) := by
  unfold listenExpired
  exact .ite (enterActiveFromListen_within s) (within_of_eq rfl rfl rfl rfl rfl rfl)

theorem configRead_within (w : ConfigWord) (s : State) : Within s (configRead w s) := by
  unfold configRead
  refine .ite (.ite ?_ (within_of_eq rfl rfl rfl rfl rfl rfl)) (.refl s)
  exact (listingTest_inner _).within.behind (within_of_eq rfl rfl rfl rfl rfl rfl)

theorem fallToDoubt_within (cause : DoubtCause) (s : State) : Within s (fallToDoubt cause s) := by
  unfold fallToDoubt
  exact .ite ((setOdo_within _ s).trans (raiseNotice_inner _ _).within) (.refl s)

theorem fallToLost_within (s : State) : Within s (fallToLost s) := by
  unfold fallToLost
  exact .ite (.refl s) ((setOdo_within _ s).trans ((raiseNotice_inner _ _).trans (limitLost_inner _)).within)

theorem gradeSample_within (s : State) : Within s (gradeSample s) := by
  unfold gradeSample
  exact .ite (fallToLost_within s) (.ite (fallToDoubt_within _ s) (.refl s))

theorem declareFailed_within (ch : Channel) (s : State) : Within s (declareFailed ch s) :=
  (setOdo_within _ s).trans ((raiseNotice_inner _ _).within.trans (fallToDoubt_within _ _))

theorem judgeSlip_within (dA dB : Nat) (s : State) : Within s (judgeSlip dA dB s) := by
  unfold judgeSlip
  exact .ite (.ite (setOdo_within _ s) ((setOdo_within _ s).trans (raiseNotice_inner _ _).within)) (setOdo_within _ s)

theorem judgeFailure_within (pA pB dA dB : Nat) (s : State) : Within s (judgeFailure pA pB dA dB s) :=
  (setOdo_within _ s).trans (.ite (declareFailed_within _ _) (.ite (declareFailed_within _ _) (.refl _)))

theorem takeChannels_within (pA pB : Nat) (s : State) : Within s (takeChannels pA pB s).2.2 := by
  unfold takeChannels
  dsimp only
  split <;> exact setOdo_within _ s

theorem sampleUnit_within (pA pB : Nat) (s : State) : Within s (sampleUnit pA pB s) := by
  refine (takeChannels_within pA pB s).trans ?_
  unfold sampleUnit
  dsimp only
  refine .trans ?_ ((setOdo_within _ _).trans ((gradeSample_within _).trans (countStandstill_within _)))
  split
  · exact (judgeSlip_within _ _ _).trans (judgeFailure_within _ _ _ _ _)
  all_goals exact .refl _

theorem rearRemovals_within : ∀ (k : Nat) (s : State), Within s (rearRemovals k s)
  | 0, s => .refl s
  | k + 1, s => by
    unfold rearRemovals
    split
    · exact .ite ((shiftDatum_within _ _ s).trans ((deliver_inner _).within.trans (rearRemovals_within k _))) (.refl s)
    · exact .refl s

theorem sampleWork_within (pA pB : Nat) (s : State) : Within s (sampleWork pA pB s) :=
  (setOdo_within _ s).trans ((sampleUnit_within pA pB _).trans
    ((rearRemovals_within _ _).trans (listingTest_inner _).within))

theorem markerWork_within (ident pA pB : Nat) (s : State) : Within s (markerWork ident pA pB s) := by
  unfold markerWork
  dsimp only
  split
  · exact countStray_within s
  · refine .ite ?_ ?_
    · unfold markerAccepted
      exact .ite ((setOdo_within _ s).trans (listingTest_inner _).within) (setOdo_within _ s)
    · unfold markerRejected
      have noted (o : Odometry) (n : Notice) : Within s (raiseNotice n (setOdo o s)) :=
        (setOdo_within o s).trans (raiseNotice_inner _ _).within
      exact .ite ((noted _ _).trans ((fallToDoubt_within _ _).trans (listingTest_inner _).within)) (noted _ _)

theorem outputRefreshWork_within (s : State) : Within s (outputRefreshWork s) := by
  have refreshed (t : State) : Within t (refreshHorizon t) := by
    unfold refreshHorizon
    exact .ite (.refl t) (setHorizon_inner _ t).within
  unfold outputRefreshWork
  refine .ite ?_ (.refl s)
  split
  case h_1 | h_2 => exact (takePending_within s).trans ((refreshed _).trans (sendWord_inner _ _).within)
  case h_3 | h_4 => exact (sendWord_inner _ _).within
  case h_5 => exact .refl s

theorem wordComplete_within (s : State) : Within s (wordComplete s) := by
  unfold wordComplete
  dsimp only
  split
  · exact (sendWord_inner _ _).within.behind (within_of_eq rfl rfl rfl rfl rfl rfl)
  · exact within_of_eq rfl rfl rfl rfl rfl rfl

theorem nominalWork_within (n : Time) (s : State) : Within s (nominalWork n s) :=
  (waitRise_inner _).within.behind (within_of_eq rfl rfl rfl rfl rfl rfl)

theorem frameCompletes_within (x : Transmission) (s : State) : Within s (frameCompletes x s) :=
  (windowCompletes_inner _).within.behind (within_of_eq rfl rfl rfl rfl rfl rfl)

theorem tailEnds_within (s : State) : Within s (tailEnds s) := by
  unfold tailEnds
  split
  · exact .ite (startBeacon_within _ _ s) (within_of_eq rfl rfl rfl rfl rfl rfl)
  · exact within_of_eq rfl rfl rfl rfl rfl rfl

/-! ### The table's works -/

theorem acceptBeacon_within (b : Beacon) (zones : List Nat) (s : State) : Within s (acceptBeacon b zones s) :=
  (setPeers_within _ s).trans (windowTakes_inner _ _ _).within

theorem dropBeacon_within (b : Beacon) (s : State) : Within s (dropBeacon b s) := by
  unfold dropBeacon
  exact .ite (setOverflow_within _ s)
    ((setOverflow_within _ s).trans ((raiseNotice_inner _ _).trans (reevaluateZones_inner _ _)).within)

theorem unknownStation_within (b : Beacon) (s : State) : Within s (unknownStation b s) := by
  unfold unknownStation
  refine .ite (.ite (acceptBeacon_within _ _ s) ?_) (.refl s)
  split
  · exact (setPeers_within _ s).trans (acceptBeacon_within _ _ _)
  · exact dropBeacon_within b s

theorem takeContent_within (frame : List Byte) (s : State) : Within s (takeContent frame s) := by
  unfold takeContent
  split
  · exact countRadioBad_within s
  · refine .ite (raiseNotice_inner _ _).within ?_
    split
    · unfold knownStation
      exact .ite (acceptBeacon_within _ _ s) (.refl s)
    · exact unknownStation_within _ s

theorem takeInstant_within (s : State) : Within s (takeInstant s) := by
  unfold takeInstant
  dsimp only
  split
  · exact within_of_eq rfl rfl rfl rfl rfl rfl
  · exact (takeContent_within _ _).behind (within_of_eq rfl rfl rfl rfl rfl rfl)

theorem peerStale_within (n : Nat) (s : State) : Within s (peerStale n s) := by
  unfold peerStale
  split
  · exact .refl s
  · exact (setPeers_within _ s).trans (reevaluateZones_inner _ _).within

theorem peerLost_within (n : Nat) (s : State) : Within s (peerLost n s) := by
  unfold peerLost
  split
  · exact .refl s
  · exact (setPeers_within _ s).trans ((raiseNotice_inner _ _).trans (reevaluateZones_inner _ _)).within

theorem tableMove_within {s t : State} (move : TableMove s t) : Within s t := by
  cases move with
  | take _ => exact takeInstant_within s
  | stale n => exact peerStale_within n s
  | lost n => exact peerLost_within n s
  | clear => exact (setOverflow_within _ s).trans (reevaluateZones_inner _ _).within

/-! ### The owners of the commands -/

/-- A handler behind the checks of state and class either changes nothing or does its own work. -/
theorem classHandler_fst {cls : StationClass} {h : Handler} {P : State → Prop} {s : State} (same : P s)
    (work : s.running = true → s.cls = cls → P (h s).1) : P (classHandler cls h s).1 := by
  unfold classHandler inBootOrFault
  split
  · exact same
  · split
    · exact same
    · exact work (by simp_all) (by simp_all)

/-- The work of an accepted START_POSITION up to the start-position mark (R176). -/
def startLaid (x : Int) (cells : List StoredCell) (s : State) : State :=
  startRecompute (listingTest (startOccupants (deliverNeeds { setCells cells s with odo := takePosition x s.odo })))

def markStarted (s : State) : State := { s with station := { s.station with startMark := true } }

theorem applyStart_eq (x : Int) (cells : List StoredCell) (s : State) :
    applyStart x cells s =
      if (markStarted (startLaid x cells s)).station.listen = .expired then
        enterActiveFromListen (markStarted (startLaid x cells s))
      else markStarted (startLaid x cells s) := rfl

theorem startOccupants_inner (s : State) : Inner s (startOccupants s) :=
  Inner.foldl (fun s z => occupantClaim_inner z s) _ s

theorem startLaid_inner (x : Int) (cells : List StoredCell) (s : State) :
    Inner { setCells cells s with odo := takePosition x s.odo } (startLaid x cells s) :=
  (deliverNeeds_inner _).trans
    ((startOccupants_inner _).trans ((listingTest_inner _).trans (startRecompute_inner _)))

theorem markStarted_within (s : State) : Within s (markStarted s) := within_of_eq rfl rfl rfl rfl rfl rfl

theorem applyStart_within (x : Int) (cells : List StoredCell) (s : State) : Within s (applyStart x cells s) := by
  have laid : Within s (markStarted (startLaid x cells s)) :=
    ((startLaid_inner x cells s).within.trans (markStarted_within _)).behind (within_of_eq rfl rfl rfl rfl rfl rfl)
  rw [applyStart_eq]
  exact .ite (laid.trans (enterActiveFromListen_within _)) laid

theorem giveUpStanding_within (s : State) : Within s (giveUpStanding s) :=
  ((removeZones_inner _ _).trans (Inner.foldl (fun s z => releaseEntry_inner z s) _ _)).within.behind
    (within_of_eq rfl rfl rfl rfl rfl rfl)

theorem applyPark_within (s : State) : Within s (applyPark s) := by
  have scheduled : Within s (parkSchedule (changeState .parked s)) := by
    unfold parkSchedule
    split <;> exact within_of_eq rfl rfl rfl rfl rfl rfl
  unfold applyPark
  refine scheduled.trans (.ite ?_ (giveUpStanding_within _))
  exact ((setCeiling_inner _ _).trans ((sendWord_inner _ _).trans (giveUpAhead_inner _))).within

theorem unparkSchedule_within (s : State) : Within s (unparkSchedule s) := by
  unfold unparkSchedule
  split
  · exact within_of_eq rfl rfl rfl rfl rfl rfl
  · dsimp only
    exact .ite ((placeScheduled_within _ _).behind (within_of_eq rfl rfl rfl rfl rfl rfl))
      (within_of_eq rfl rfl rfl rfl rfl rfl)

theorem applyStanding_within (rs : List Standing) (s : State) : Within s (applyStanding rs s) :=
  ((Inner.foldl (fun s _ => urgentRequest_inner s) _ _).trans (reevaluateZones_inner _ _)).within.behind
    (within_of_eq rfl rfl rfl rfl rfl rfl)

theorem clearConflicts_inner (s : State) : Inner s (clearConflicts s) :=
  ⟨rfl, rfl, rfl, rfl, rfl, rfl, rfl, rfl, rfl, rfl, rfl, List.prefix_refl _, id, rfl, rfl⟩

theorem clearOverrun_inner (s : State) : Inner s (clearOverrun s) := by
  unfold clearOverrun
  exact .ite ⟨rfl, rfl, rfl, rfl, rfl, rfl, rfl, rfl, rfl, rfl, rfl, List.prefix_refl _, id, rfl, rfl⟩ (.refl s)

theorem applyAppend_within (cells : List RouteCell) (s : State) : Within s (applyAppend cells s) :=
  (setCells_within _ s).trans (deliver_inner _).within

theorem applyCut_within (kept : Nat) (s : State) : Within s (applyCut kept s) := by
  unfold applyCut
  exact .ite ((setCells_within _ s).trans ((deliver_inner _).trans (immediateRecompute_inner _)).within) (.refl s)

theorem owner_within {h : Handler} (owner : Owner h) (s : State) : Within s (h s).1 := by
  have same := Within.refl s
  cases owner with
  | startPosition p =>
    refine classHandler_fst same fun _ _ => ?_
    split
    · exact same
    · split
      · exact same
      · split
        · exact same
        · dsimp only
          split
          · exact same
          · exact applyStart_within _ _ s
  | routeAppend p =>
    refine classHandler_fst same fun _ _ => ?_
    split
    · exact same
    · split
      · exact same
      · split
        · exact same
        · split
          · exact same
          · exact applyAppend_within _ s
  | routeCut p =>
    refine classHandler_fst same fun _ _ => ?_
    split
    · split
      · exact same
      · exact applyCut_within _ s
    · exact same
  | proceed p =>
    refine classHandler_fst same fun _ _ => ?_
    split
    · split
      · exact same
      · exact releaseStop_within _ s
    · exact same
  | loadState p =>
    refine classHandler_fst same fun _ _ => ?_
    split
    · split
      · exact within_of_eq rfl rfl rfl rfl rfl rfl
      · exact same
    · exact same
  | profileSet p =>
    refine classHandler_fst same fun _ _ => ?_
    split
    · exact same
    · split
      · exact same
      · exact within_of_eq rfl rfl rfl rfl rfl rfl
  | park =>
    unfold parkHandler
    split
    · exact same
    · split
      · exact same
      · exact applyPark_within s
  | unpark =>
    unfold unparkHandler
    split
    · exact same
    · exact (changeState_within _ s).trans ((unparkSchedule_within _).trans (enterActive_within _))
  | resume =>
    unfold resumeHandler
    split
    · exact same
    · split
      · exact same
      · split
        · exact same
        · exact ((clearConflicts_inner s).trans (clearOverrun_inner _)).within
  | yieldZone p =>
    refine classHandler_fst same fun _ _ => ?_
    split
    · dsimp only
      split
      · exact same
      · split
        · split
          · exact same
          · exact (yieldAtCommand_inner _ s).within
        all_goals exact same
    · exact same
  | standClaim p =>
    refine classHandler_fst same fun _ _ => ?_
    split
    · exact same
    · split
      · exact same
      · split
        · exact same
        · exact applyStanding_within _ s
  | standRelease => exact classHandler_fst same fun _ _ => giveUpStanding_within s
  | commit =>
    refine classHandler_fst same fun _ _ => ?_
    split
    · exact same
    · exact .ite (setEntries_inner _ s).within ((setEntries_inner _ s).trans (urgentRequest_inner _)).within
  | statusQuery =>
    unfold statusQueryHandler
    split
    · exact same
    · exact within_of_eq rfl rfl rfl rfl rfl rfl
  | restart => exact within_of_eq rfl rfl rfl rfl rfl rfl

/-! ### The clock and the queue of commands -/

/-- The queue of commands stands, and the clock does not run back. -/
structure Onward (s t : State) : Prop where
  pending : t.pending = s.pending
  now : s.now ≤ t.now

theorem Within.onward {s t : State} (h : Within s t) : Onward s t := ⟨h.pending, Nat.le_of_eq h.now.symm⟩

theorem Onward.trans {s t u : State} (h : Onward s t) (k : Onward t u) : Onward s u :=
  ⟨k.pending.trans h.pending, Nat.le_trans h.now k.now⟩

theorem quiet_onward {s t : State} (move : Quiet s t) : Onward s t := by
  cases move
  case reach t => exact ⟨rfl, Nat.le_max_left _ _⟩
  case finish => exact ⟨finish_pending s, Nat.le_of_eq (finish_now s).symm⟩
  case powerOn | restart | hold | inbound | portBad | lineFree | assembler => exact ⟨rfl, Nat.le_refl _⟩
  case release =>
    unfold releaseReset
    split <;> exact ⟨rfl, Nat.le_refl _⟩
  case configRead w => exact (configRead_within w s).onward
  case listenExpired _ => exact (listenExpired_within s).onward
  case handled kind h owner _ => exact ⟨(owner_within owner s).pending, Nat.le_of_eq (owner_within owner s).now.symm⟩
  case replied kind a _ => exact ⟨rfl, Nat.le_refl _⟩
  case statusExpiry => exact (statusExpiry_within s).onward
  case sample pA pB _ _ => exact (sampleWork_within pA pB s).onward
  case marker m pA pB _ _ => exact (markerWork_within m pA pB s).onward
  case radioBad => exact (countRadioBad_within s).onward
  case frame bytes _ => exact (enqueueFrame_within bytes s).onward
  case settle z => exact (settleExpires_inner z s).within.onward
  case gridlock z => exact (gridlockOut_inner z s).within.onward
  case output => exact (nextOutput_within s).onward
  case tick _ => exact (authorityTickWork_within s).onward
  case refresh _ => exact (outputRefreshWork_within s).onward
  case word => exact (wordComplete_within s).onward
  case nominal n _ => exact (nominalWork_within n s).onward
  case placement n _ => exact (placeScheduled_within n s).onward
  case beaconDue b => exact (beaconDueNow_within b s).onward
  case frameComplete x _ => exact (frameCompletes_within x s).onward
  case tailEnd => exact (tailEnds_within s).onward

theorem stepResult_onward {s u : State} (result : StepResult s u) : Onward s u := by
  cases result with
  | quiet chain =>
    induction chain with
    | refl => exact ⟨rfl, Nat.le_refl _⟩
    | tail _ move ih => exact ih.trans (quiet_onward move)
  | table t move =>
    exact ((quiet_onward (.reach t s)).trans (tableMove_within move).onward).trans (quiet_onward (.finish _))

/-- Settles O2: `exec` answers for each command, with a chain of moves none of which touches the queue or runs the clock
back. -/
theorem everyCommandCompletes : Obligations.EveryCommandCompletes := by
  unfold Obligations.EveryCommandCompletes
  intro c s
  obtain ⟨u, answers, result⟩ := exec_outcome c s
  exact ⟨u, answers, (stepResult_onward result).pending, (stepResult_onward result).now⟩

/-! ### Resets -/

/-- Settles O3: the values are those of `State.reset`, written out block by block. -/
theorem resetValues : Obligations.ResetValues := by
  unfold Obligations.ResetValues
  refine ⟨?_, rfl, ?_, ?_, ?_, ?_, ?_, ?_, rfl⟩
  all_goals decide

/-- Settles O4: the two resets from outside are `resetBlocks` with a hold, and the completion of an accepting RESTART reply
is `restartPart`. -/
theorem resetsTakeEveryBlock : Obligations.ResetsTakeEveryBlock := by
  unfold Obligations.ResetsTakeEveryBlock
  refine ⟨fun _ _ => rfl, fun _ _ => rfl, fun s payload bytes e out => ?_⟩
  calc exec .outboundMessageComplete s
    _ = .next (outboundComplete ⟨.reply ⟨0x0F#8, .accept payload⟩, bytes, e⟩ (s.reach e)) := by
      show execOutboundMessageComplete s = _
      simp only [execOutboundMessageComplete, out]
    _ = .next (restartPart .restartCommand (s.reach e)) := rfl
    _ = _ := rfl

/-- Settles O60: every list of the reset state is empty, and its counts are 0. -/
theorem resetHasInvariants : Obligations.ResetHasInvariants := by
  unfold Obligations.ResetHasInvariants
  refine ⟨by decide, by decide, ⟨⟨by decide, by decide, trivial⟩, by decide, by decide, by decide, by decide, by decide⟩,
    by decide, by decide, by decide, by decide⟩

/-! ### A part held at reset (R170) -/

theorem held_iff {s : State} :
    s.station.held = true ↔ s.station.supplyUnsettled = true ∨ s.station.lineAsserted = true := by
  simp [Station.held]

theorem timedEvent_held {due : Option Time} {w : State → State} {s : State} (held : s.station.held = true) :
    timedEvent due w s = s := by
  unfold timedEvent
  split
  · rfl
  · exact if_pos held

/-- The answer moves the clock alone. -/
abbrev ClockOnly (s u : State) : Prop := ∃ n, s.now ≤ n ∧ (.next u : Host.Outcome State Fault Refusal) = .next { s with now := n }

theorem clockOnly_outside {t : Time} {w : State → State} {s : State} (held : s.station.held = true) :
    ClockOnly s (outsideEvent t w s) := ⟨max s.now t, Nat.le_max_left _ _, by rw [outsideEvent_held held]; rfl⟩

theorem clockOnly_refl (s : State) : ClockOnly s s := ⟨s.now, Nat.le_refl _, rfl⟩

theorem clockOnly_timed {due : Option Time} {w : State → State} {s : State} (held : s.station.held = true) :
    ClockOnly s (timedEvent due w s) := by rw [timedEvent_held held]; exact clockOnly_refl s

/-- Every command but the three of R170 is an event from outside, a timer, or speaks of the outbound line. -/
theorem exec_held {c : Instr} {s : State} (held : s.station.held = true) (free : s.port.out = none)
    (noReset : ∀ t, c ≠ .powerOnReset t ∧ c ≠ .resetLine t) (noRelease : ∀ e, c ≠ .resetRelease e) :
    ∃ n, s.now ≤ n ∧ exec c s = .next { s with now := n } := by
  cases c
  case powerOnReset t => exact absurd rfl (noReset t).1
  case resetLine t => exact absurd rfl (noReset t).2
  case resetRelease e => exact absurd rfl (noRelease e)
  case configReadComplete | startPosition | routeAppend | routeCut | proceed | loadState | profileSet | park | unpark
      | resume | yieldZone | standClaim | standRelease | commit | statusQuery | restart | nonCommandMessage | badMessage
      | inboundGapTimeout | markerArrival | radioFrameReceived | radioGapTimeout | radioBadLengthByte =>
    exact clockOnly_outside held
  case outboundMessageComplete =>
    refine ⟨s.now, Nat.le_refl _, ?_⟩
    show execOutboundMessageComplete s = _
    simp only [execOutboundMessageComplete, free]
  case nominalInstant =>
    show ClockOnly s _
    split
    · exact clockOnly_refl s
    · exact clockOnly_timed held
  case placementPoint =>
    show ClockOnly s _
    split
    · exact clockOnly_refl s
    · exact clockOnly_timed held
  case beaconComplete =>
    show ClockOnly s _
    split
    · exact clockOnly_refl s
    · exact clockOnly_timed held
  case tailEnd =>
    show ClockOnly s _
    split
    · exact clockOnly_refl s
    · exact clockOnly_timed held
  all_goals exact clockOnly_timed held

/-- RESET_RELEASE on a held part: the reason ends, and the output period starts when none is left. -/
theorem exec_resetRelease_held {e : HoldEnd} {s : State} (held : s.station.held = true) :
    exec (.resetRelease e) s = .next (releaseReset (setHold e.reason false (s.reach e.t))) :=
  congrArg Host.Outcome.next (if_pos held)

theorem releaseReset_runs {s : State} (free : s.station.held = false) :
    releaseReset s = { s with auth := { s.auth with outputAt := s.now + 50000 } } := by
  simp [releaseReset, free, outputPeriod]

theorem releaseReset_holds {s : State} (held : s.station.held = true) : releaseReset s = s := if_pos held

/-- The end of a reason that does not stand changes nothing. -/
theorem setHold_absent {reason : HoldReason} {s : State} (absent : s.station.setHold reason false = s.station) :
    setHold reason false s = s := by
  unfold setHold
  rw [absent]

/-- Settles O5: `exec_held` for the commands that are no reset, and for RESET_RELEASE the three combinations of the two
reasons. -/
theorem heldPartTakesNoInput : Obligations.HeldPartTakesNoInput := by
  unfold Obligations.HeldPartTakesNoInput
  refine ⟨fun c s held free noReset noRelease => exec_held (held_iff.mpr held) free noReset noRelease,
    fun t s => ?_, fun e s supply line => ?_⟩
  · dsimp only
    refine ⟨fun supply line => ?_, fun supply line => ?_, fun supply line => ?_⟩
    · have held : s.station.held = true := held_iff.mpr (.inl supply)
      constructor
      · rw [exec_resetRelease_held held, releaseReset_runs (by simp [setHold, Station.setHold, Station.held, line])]
        rfl
      · have absent : s.station.setHold .line false = s.station := by rw [← line]; rfl
        rw [exec_resetRelease_held held, setHold_absent (s := s.reach t) absent, releaseReset_holds (s := s.reach t) held]
        rfl
    · have held : s.station.held = true := held_iff.mpr (.inr line)
      constructor
      · rw [exec_resetRelease_held held, releaseReset_runs (by simp [setHold, Station.setHold, Station.held, supply])]
        rfl
      · have absent : s.station.setHold .supply false = s.station := by rw [← supply]; rfl
        rw [exec_resetRelease_held held, setHold_absent (s := s.reach t) absent, releaseReset_holds (s := s.reach t) held]
        rfl
    · have held : s.station.held = true := held_iff.mpr (.inl supply)
      constructor
      · rw [exec_resetRelease_held held, releaseReset_holds (by simp [setHold, Station.setHold, Station.held, line])]
        rfl
      · rw [exec_resetRelease_held held, releaseReset_holds (by simp [setHold, Station.setHold, Station.held, supply])]
        rfl
  · have free : s.station.held = false := by simp [Station.held, supply, line]
    show Host.Outcome.next (if (s.reach e.t).station.held then _ else s.reach e.t) = _
    simp only [reach_station, free, Bool.false_eq_true, if_false]
    rfl

end Sys2Proof.Machine
end

section
/-! After every step the lines and flags agree with their rules: an event that does anything ends with `finish`. -/

namespace Sys2Proof.Machine

-- One proof after another: many at a time want more threads than the memory limit of a build leaves.
set_option Elab.async false

/-- A reset leaves the STOP line asserted under the BOOT cause, nothing to send and no peers. -/
theorem eventEndInv_resetBlocks (cause : ResetCause) (profiles : Profiles) (trim : Nat) (s : State) :
    eventEndInv (resetBlocks cause profiles trim s) := by
  refine ⟨rfl, fun _ => ⟨rfl, .inr ⟨rfl, rfl⟩⟩, ?_⟩
  intro p member
  exact nomatch member

theorem eventEndInv_outside {t : Time} {w : State → State} {s : State} (settled : eventEndInv s) :
    eventEndInv (outsideEvent t w s) := by
  unfold outsideEvent
  dsimp only
  split
  · exact eventEndInv_reach settled
  · exact eventEndInv_finish _

theorem eventEndInv_timed {due : Option Time} {w : State → State} {s : State} (settled : eventEndInv s) :
    eventEndInv (timedEvent due w s) := by
  unfold timedEvent
  split
  · exact settled
  · split
    · exact settled
    · exact eventEndInv_finish _

/-- The two holds and the output period have no part in what settles. -/
theorem eventEndInv_release {e : HoldEnd} {s : State} (settled : eventEndInv s) :
    eventEndInv (releaseReset (setHold e.reason false s)) := by
  have unheld : eventEndInv (setHold e.reason false s) := by
    obtain ⟨_, reason⟩ := e
    cases reason with
    | supply => exact settled
    | line => exact settled
  unfold releaseReset
  split
  · exact unheld
  · exact unheld

theorem exec_settles (c : Instr) {s u : State} (settled : eventEndInv s) (answer : exec c s = .next u) :
    eventEndInv u := by
  cases c
  case powerOnReset t =>
    obtain rfl := Host.Outcome.next.inj answer
    exact eventEndInv_resetBlocks .powerOn .default 65536 (s.reach t)
  case resetLine t =>
    obtain rfl := Host.Outcome.next.inj answer
    exact eventEndInv_resetBlocks .resetLine s.auth.profiles s.odo.trim (s.reach t)
  case resetRelease e =>
    obtain rfl := Host.Outcome.next.inj answer
    dsimp only
    split
    · exact eventEndInv_release (eventEndInv_reach settled)
    · exact eventEndInv_reach settled
  case outboundMessageComplete =>
    obtain rfl := Host.Outcome.next.inj answer
    split
    · exact settled
    · unfold outboundComplete
      split
      · exact eventEndInv_resetBlocks _ _ _ _
      · exact eventEndInv_finish _
  case nominalInstant | placementPoint | beaconComplete | tailEnd =>
    obtain rfl := Host.Outcome.next.inj answer
    split
    · exact settled
    · exact eventEndInv_timed settled
  case configReadComplete | startPosition | routeAppend | routeCut | proceed | loadState | profileSet | park | unpark
      | resume | yieldZone | standClaim | standRelease | commit | statusQuery | restart | nonCommandMessage | badMessage
      | inboundGapTimeout | markerArrival | radioFrameReceived | radioGapTimeout | radioBadLengthByte =>
    obtain rfl := Host.Outcome.next.inj answer
    exact eventEndInv_outside settled
  all_goals
    obtain rfl := Host.Outcome.next.inj answer
    exact eventEndInv_timed settled

/-- Settles O57: an idle step changes nothing, and every command settles (`exec_settles`). -/
theorem stepKeepsLines : Obligations.StepKeepsLines := by
  unfold Obligations.StepKeepsLines
  intro s u settled answer
  unfold step at answer
  split at answer
  · exact Host.Outcome.next.inj answer ▸ settled
  · rename_i c rest _
    exact exec_settles c (s := s.withPending rest) settled answer

end Sys2Proof.Machine
end

section
/-! The small moves that all work of the part is made of, each with the guard under which it is made, and for every
operation the chain of moves that it is. An invariant that every move keeps is kept by every operation; what an operation
cannot do shows in the flags that its chain leaves out. -/

namespace Sys2Proof.Machine

-- One proof after another: many at a time want more threads than the memory limit of a build leaves.
set_option Elab.async false


/-! ### Pieces of operations that have no name in the model -/

/-- The part of an immediate recompute that every carrier makes: the stored horizon takes the computed one when that is
lower (R108). -/
def giveWay (s : State) : State := if s.isCarrier then lowerHorizon s else s

theorem immediateRecompute_eq (s : State) :
    immediateRecompute s =
      if s.isCarrier = true ∧ s.station.state = .active then recomputeCeiling (giveWay s) else giveWay s := by
  unfold immediateRecompute giveWay
  by_cases carrier : s.isCarrier = true
  · by_cases active : s.station.state = .active <;> simp [carrier, active]
  · simp [carrier]

/-- OVERRUN stands; as the first STOP cause it lowers the horizon and drops the ceiling (R120, R122). -/
def overrunCause (s : State) : State :=
  if s.auth.causes.any then setOverrun s else dropCeiling (lowerHorizon (setOverrun s))

/-- OVERRUN up to its notice. -/
def overrunNoted (s : State) : State :=
  raiseNotice (.overrun s.s (hZone s) ((frontCell s).map (fun c => c.cell.ident) |>.getD 0)) (overrunCause s)

/-- OVERRUN with the front cell's zones taken. -/
def overrunTaken (s : State) : State := (frontZones s).foldl (fun t z => occupantClaim z t) (overrunNoted s)

theorem raiseOverrun_eq (s : State) : raiseOverrun s = setHorizon (grantedHorizon (overrunTaken s)) (overrunTaken s) := rfl

theorem overrunTest_eq (s : State) :
    overrunTest s =
      if s.isCarrier = true ∧ s.station.state = .active ∧ s.auth.overrun = false ∧ hZone s < s.s then raiseOverrun s
      else s := by
  unfold overrunTest
  by_cases guard : s.isCarrier = true ∧ s.station.state = .active ∧ s.auth.overrun = false ∧ hZone s < s.s
  · obtain ⟨h1, h2, h3, h4⟩ := guard
    simp [h1, h2, h3, h4]
  · rw [if_neg guard]
    refine if_neg fun both => guard ?_
    simp only [Bool.and_eq_true, Bool.not_eq_true', decide_eq_true_eq] at both
    obtain ⟨⟨⟨h1, h2⟩, h3⟩, h4⟩ := both
    exact ⟨h1, h2, h3, h4⟩

def setFull (s : State) : State := { s with window := { s.window with full := true } }

theorem holdBack_eq (z : Nat) (s : State) :
    holdBack z s = if s.window.full then s else raiseNotice (.windowFull z) (setFull s) := rfl

/-- The station as it enters ACTIVE: the timer stopped, the output period restarted (R106, R177). -/
def activeBase (s : State) : State :=
  { changeState .active s with
    station := { (changeState .active s).station with listen := .stopped }
    auth := { s.auth with outputAt := s.now + outputPeriod } }

theorem enterActive_eq (s : State) :
    enterActive s = if (activeBase s).isCarrier then authorityTickWork (listingTest (announceQueued (activeBase s)))
      else activeBase s := rfl

def setRadio (r : Radio) (s : State) : State := { s with radio := r }

def setIndex (ix : LoadIndex) (s : State) : State := { s with auth := { s.auth with active := ix, pendingIx := none } }

theorem takePending_eq (s : State) :
    takePending s = match s.auth.pendingIx with
      | none => s
      | some ix => if ix = s.auth.active then setIndex ix s else listingTest (setIndex ix s) := rfl

/-- The station at entry into LISTEN, before its listing test (R174). -/
def listenBase (w : ConfigWord) (s : State) : State :=
  let s := seedRadio (changeState .listen s)
  { s with
    station := { s.station with listen := .running (s.now + listenInterval w.listenCode) }
    table := { s.table with nextTake := some (s.now + takePeriod) }
    odo := { s.odo with nextSample := if s.isCarrier then some (s.now + samplePeriod) else none }
    auth := { s.auth with causes := { s.auth.causes with boot := false } } }

theorem enterListen_eq (w : ConfigWord) (s : State) : enterListen w s = listingTest (listenBase w s) := rfl

def setListen (l : Timer) (s : State) : State := { s with station := { s.station with listen := l } }

def setNextTake (o : Option Time) (s : State) : State := { s with table := { s.table with nextTake := o } }

/-- The standing claims written with their entries announced (R148). -/
def standingBase (rs : List Standing) (s : State) : State :=
  { s with window := { s.window with
    standing := rs
    entries := rs.map (fun r => (ClaimEntry.new r.zone r.urgency none none).announceFirst s.now (settleLength s)) } }

theorem applyStanding_eq (rs : List Standing) (s : State) :
    applyStanding rs s = reevaluateZones (fun _ => true) (rs.foldl (fun s _ => urgentRequest s) (standingBase rs s)) := rfl

def setStanding (rs : List Standing) (s : State) : State := { s with window := { s.window with standing := rs } }

theorem giveUpStanding_eq (s : State) :
    giveUpStanding s = ((s.window.entries.filter (fun e => e.state = .held)).map ClaimEntry.zone).foldl
      (fun s z => releaseEntry z s)
      (removeZones ((s.window.entries.filter ClaimEntry.unheld).map ClaimEntry.zone) (setStanding [] s)) := rfl

def setProfiles (p : Profiles) (s : State) : State := { s with auth := { s.auth with profiles := p } }
def setPendingIx (ix : LoadIndex) (s : State) : State := { s with auth := { s.auth with pendingIx := some ix } }
def wordDone (s : State) : State := { s with auth := { s.auth with wordOut := none, pendingWord := none } }
def askReport (s : State) : State := { s with port := { s.port with reportPending := true } }
def askRestart (s : State) : State := { s with port := { s.port with restartPending := true } }
def freeLine (s : State) : State := { s with port := { s.port with out := none } }

/-- The cells given at START_POSITION, with the position (R8, R81). -/
def layStart (x : Int) (cells : List StoredCell) (s : State) : State :=
  { setCells cells s with odo := takePosition x s.odo }

def parkBase (s : State) : State := parkSchedule (changeState .parked s)

/-- PARK on a carrier up to the zones given up (R119, R179). -/
def parkStopped (s : State) : State := sendWord 0 (setCeiling 0 (parkBase s))

theorem applyPark_eq (s : State) :
    applyPark s = if (parkBase s).isCarrier then giveUpAhead (parkStopped s) else giveUpStanding (parkBase s) := rfl

def agePeer (n : Nat) (s : State) : State :=
  setPeers (s.table.peers.map (fun q => if q.station == n then q.stale else q)) s

/-- The entries with their needing cells as they are now, in window order (R24). -/
def updateAll (s : State) : State :=
  setEntries (orderEntries s.route.cells (s.window.entries.map (ClaimEntry.updateNeeds s.route.cells))) s

/-! ### Bounds that a move of the odometry or the radio keeps -/

/-- The bounds of R80 and R98. -/
def odoFits (o : Odometry) : Prop :=
  o.vmeas ≤ 10000 ∧ o.rejects ≤ 2 ∧ o.since ≤ 1000000000 ∧ o.travel < 281474976710656 ∧ o.history.length = 10 ∧
    61440 ≤ o.trim ∧ o.trim ≤ 69632

/-- The radio has nothing to send and nothing in assembly (R126). -/
def Radio.silent (r : Radio) : Prop := r.tx = none ∧ r.slot = none ∧ r.next = none ∧ r.rx = .hunt

/-! ### The moves -/

/-- What a move does beyond the blocks' own plain changes. -/
inductive Flag
  | free | commit | reeval | announce | occupy | list | revive | release | yield | remove | needs | settle | report | waits
  | completes | air | standing | giveUp | conflict | firstConflict | overrun | ceiling | tick | full | horizon | lost
  | cells | shift | append | retune | station | odo | radio | port | profiles | table | clear | word | reset
  deriving DecidableEq

/-- One move, with its kind. -/
inductive Move : Flag → State → State → Prop
  -- notices, requests, words
  | notice (n : Notice) (s : State) : Move .free s (raiseNotice n s)
  | urgent (s : State) : Move .free s (urgentRequest s)
  | word (v : Nat) (s : State) : Move .word s (sendWord v s)
  -- entries
  | commit (z : Nat) (s : State) (e : ClaimEntry) (found : findEntry z s = some e)
      (held : e.state = .held) : Move .commit s (modifyEntry z ClaimEntry.commit s)
  | block (z : Nat) (s : State) (e : ClaimEntry) (found : findEntry z s = some e)
      (announced : e.state = .announced) (blocked : isBlocked s e = true) :
      Move .reeval s (modifyEntry z (ClaimEntry.block s.now (holdStands s z)) s)
  | track (z : Nat) (s : State) (e : ClaimEntry) (found : findEntry z s = some e)
      (waiting : e.state = .waiting) (blocked : isBlocked s e = true) :
      Move .reeval s (modifyEntry z (ClaimEntry.trackBlock s.now (holdStands s z)) s)
  | unblock (z : Nat) (s : State) (e : ClaimEntry) (found : findEntry z s = some e)
      (waiting : e.state = .waiting) (free : isBlocked s e = false) :
      Move .reeval s (modifyEntry z (ClaimEntry.unblock s.now (settleLength s)) s)
  | grant (z : Nat) (s : State) (e : ClaimEntry) (found : findEntry z s = some e)
      (announced : e.state = .announced) (free : isBlocked s e = false) (settled : e.settle = .expired)
      (twice : e.announce = 2) (earlier : allEarlierHeld z s = true) : Move .reeval s (modifyEntry z ClaimEntry.grant s)
  | announce (z : Nat) (s : State)
      (queued : windowFits s.window → ∃ e, findEntry z s = some e ∧ e.state = .queued) :
      Move .announce s (modifyEntry z (ClaimEntry.announceFirst s.now (settleLength s)) s)
  | occupy (z : Nat) (s : State) (e : ClaimEntry) (found : findEntry z s = some e)
      (unheld : e.state ≠ .held) (needed : isNeeded z s.route.cells = true) (carrier : s.isCarrier = true) :
      Move .occupy s (modifyEntry z ClaimEntry.occupy s)
  | occupyNew (z : Nat) (s : State) (absent : findEntry z s = none)
      (room : s.window.entries.length < 8) (needed : isNeeded z s.route.cells = true) (carrier : s.isCarrier = true) :
      Move .occupy s (addEntry (entryFor z s.route.cells).occupy s)
  | list (z : Nat) (s : State) (absent : findEntry z s = none) (room : s.window.entries.length < 8)
      (needed : isNeeded z s.route.cells = true) (runs : listingRuns s = true) :
      Move .list s (addEntry (entryFor z s.route.cells) s)
  | revive (z : Nat) (s : State) (e : ClaimEntry) (found : findEntry z s = some e)
      (releasing : e.state = .releasing) (can : canRevive z e s = true) (needed : isNeeded z s.route.cells = true)
      (runs : listingRuns s = true) : Move .revive s (modifyEntry z (ClaimEntry.revive s.route.cells) s)
  | reorder (s : State) : Move .revive s (reorder s)
  | release (z : Nat) (s : State) :
      Move .release s (giveWay (urgentRequest (modifyEntry z ClaimEntry.release s)))
  | surrender (z : Nat) (s : State) :
      Move .release s (giveWay (raiseNotice (.doubleHold z 0) (urgentRequest (modifyEntry z ClaimEntry.release s))))
  | yield (z n : Nat) (s : State) (e : ClaimEntry) (found : findEntry z s = some e)
      (held : e.state = .held) (unmarked : e.committed = false) :
      Move .yield s (giveWay (raiseNotice (.doubleHold z n) (urgentRequest (modifyEntry z (ClaimEntry.yieldTo s.now) s))))
  | remove (zs : List Nat) (s : State)
      (gone : s.isCarrier = true → windowFits s.window → ∀ z ∈ zs, isNeeded z s.route.cells = true → isHeld s z = false) :
      Move .remove s (removeZones zs s)
  | needs (s : State) : Move .needs s (updateAll s)
  | settle (z : Nat) (s : State) : Move .settle s (modifyEntry z ClaimEntry.settled s)
  | report (z : Nat) (s : State) : Move .report s (modifyEntry z ClaimEntry.reported s)
  | waits (s : State) : Move .waits s (setEntries (s.window.entries.map ClaimEntry.waitMore) s)
  | completes (s : State) : Move .completes s (setEntries (s.window.entries.map ClaimEntry.completed) s)
  | air (b : PendingBeacon) (gap : Time) (s : State) (slot : s.radio.slot = some b) :
      Move .air s (startBeacon b gap s)
  | standing (rs : List Standing) (s : State) (fixed : s.isCarrier = false)
      (empty : s.window.entries = []) (few : rs.length ≤ 8) (differ : (rs.map Standing.zone).Nodup)
      (running : s.running = true) : Move .standing s (standingBase rs s)
  | giveUp (s : State) (fixed : s.isCarrier = false) : Move .giveUp s (setStanding [] s)
  | commitStanding (s : State) : Move .standing s (commitStanding s)
  | full (s : State) : Move .full s (setFull s)
  | clearFull (s : State) : Move .full s (clearFull s)
  -- conflicts, OVERRUN, horizon, ceiling
  | conflict (z n : Nat) (s : State)
      (stopped : s.auth.causes.any = true ∨ s.isCarrier = false ∨ s.station.state ≠ .active) :
      Move .conflict s (recordConflict z n s)
  | firstConflict (z n : Nat) (s : State) : Move .firstConflict s (recordConflict z n s)
  | clearConflicts (s : State) : Move .clear s (clearConflicts s)
  | clearOverrun (s : State) : Move .clear s (clearOverrun s)
  | overrun (s : State) (carrier : s.isCarrier = true) (active : s.station.state = .active)
      (absent : s.auth.overrun = false) (passed : hZone s < s.s) : Move .overrun s (overrunCause s)
  | lower (s : State) : Move .free s (lowerHorizon s)
  | horizon (s : State) : Move .horizon s (setHorizon (grantedHorizon s) s)
  | ceiling (v : Nat) (s : State) (fall : v < s.auth.ceiling) : Move .ceiling s (setCeiling v s)
  | tick (s : State) (carrier : s.isCarrier = true) (active : s.station.state = .active) :
      Move .tick s (tickCeiling s)
  | lost (s : State) : Move .lost s (fallToLost s)
  -- cells
  | lay (x : Int) (cells : List RouteCell) (s : State) (carrier : s.isCarrier = true)
      (running : s.running = true) (few : cells.length ≤ 4) (inRange : ∀ c ∈ cells, c.inRange = true) :
      Move .cells s (layStart x (layCells 0 cells) s)
  | append (cells : List RouteCell) (s : State) (carrier : s.isCarrier = true)
      (running : s.running = true) (some : s.route.cells ≠ []) (inRange : ∀ c ∈ cells, c.inRange = true)
      (few : s.route.cells.length + cells.length ≤ 64) :
      Move .append s (setCells (s.route.cells ++ layCells (routeEnd s.route.cells) cells) s)
  | cut (kept : Nat) (s : State) : Move .cells s (setCells (s.route.cells.take kept) s)
  | shift (c d : StoredCell) (rest : List StoredCell) (s : State)
      (cells : s.route.cells = c :: d :: rest) : Move .shift s (shiftDatum c.cell.length (d :: rest) s)
  | releaseStop (p : Nat) (s : State) : Move .append s (releaseStop p s)
  -- profiles
  | index (ix : LoadIndex) (s : State) (idle : s.station.state ≠ .active) : Move .profiles s (setIndex ix s)
  | retune (ix : LoadIndex) (s : State) : Move .retune s (setIndex ix s)
  | pendingIx (ix : LoadIndex) (s : State) : Move .profiles s (setPendingIx ix s)
  | profile (ix : LoadIndex) (p : Profile) (s : State) (parked : s.station.state = .parked) :
      Move .profiles s (setProfiles (s.auth.profiles.set ix p.limited) s)
  | wordDone (s : State) : Move .word s (wordDone s)
  | output (s : State) : Move .profiles s (nextOutput s)
  -- station
  | fault (code : Nat) (w : ConfigWord) (s : State) (boot : s.station.state = .boot)
      (unread : s.station.cfg = none) : Move .station s (enterConfigFault code (lockWord w s))
  | listen (w : ConfigWord) (s : State) (boot : s.station.state = .boot)
      (unread : s.station.cfg = none) : Move .station s (listenBase w (lockWord w s))
  | listenTimer (l : Timer) (s : State) : Move .station s (setListen l s)
  | active (s : State) (running : s.running = true) : Move .station s (changeState .active s)
  | activate (s : State) (running : s.running = true) : Move .station s (activeBase s)
  | park (s : State) (active : s.station.state = .active) (carrier : s.isCarrier = true) :
      Move .station s (parkStopped s)
  | parkFixed (s : State) (active : s.station.state = .active) (fixed : s.isCarrier = false) :
      Move .station s (parkBase s)
  | mark (s : State) : Move .station s (markStarted s)
  | standstill (s : State) : Move .odo s (countStandstill s)
  -- odometry, radio, port
  | odo (o : Odometry) (s : State) (fits : odoFits s.odo → odoFits o)
      (grade : o.quality = .lost → s.odo.quality = .lost) : Move .odo s (setOdo o s)
  | radio (r : Radio) (s : State) (queue : r.queue <:+ s.radio.queue) (seq : r.seq = s.radio.seq)
      (silent : s.running = false → s.radio.silent → r.silent) : Move .radio s (setRadio r s)
  | frame (bytes : List Byte) (s : State) (running : s.running = true) : Move .radio s (enqueueFrame bytes s)
  | radioBad (s : State) : Move .port s (countRadioBad s)
  | beaconDrop (s : State) : Move .port s (countBeaconDrop s)
  | portBad (s : State) : Move .port s (countPortBad s)
  | stray (s : State) : Move .port s (countStray s)
  | inbound (a : PortAssembler) (g : Option Time) (s : State) : Move .port s (setInbound a g s)
  | replied (kind : Byte) (a : Answer) (s : State) (room : s.port.replies.length < 4) :
      Move .port s (queueReply kind a s)
  | askReport (s : State) : Move .port s (askReport s)
  | askRestart (s : State) : Move .port s (askRestart s)
  | freeLine (s : State) : Move .port s (freeLine s)
  | statusExpiry (s : State) : Move .port s (statusExpiry s)
  -- the clock, the end of an event, resets
  | reach (t : Time) (s : State) : Move .reset s (s.reach t)
  | finish (s : State) : Move .reset s (finish s)
  | powerOn (s : State) : Move .reset s (setHold .supply true (resetBlocks .powerOn .default 65536 s))
  | restart (cause : ResetCause) (s : State) : Move .reset s (restartPart cause s)
  | hold (reason : HoldReason) (stands : Bool) (s : State) : Move .reset s (setHold reason stands s)
  | runs (s : State) : Move .reset s (releaseReset s)
  -- the Neighbour Table
  | nextTake (o : Option Time) (s : State) : Move .table s (setNextTake o s)
  | put (b : Beacon) (s : State) (running : s.running = true) (few : b.claims.length ≤ 8)
      (differ : (b.claims.map Claim.zone).Nodup) (other : b.station ≠ s.ownNumber)
      (room : s.table.peers.length < 24 ∨ ∃ p ∈ s.table.peers, p.station = b.station) : Move .table s (putPeer b s)
  | replace (b : Beacon) (n : Nat) (s : State) (running : s.running = true) (few : b.claims.length ≤ 8)
      (differ : (b.claims.map Claim.zone).Nodup) (other : b.station ≠ s.ownNumber)
      (present : ∃ p ∈ s.table.peers, p.station = n) : Move .table s (putPeer b (removePeer n s))
  | drop (n : Nat) (s : State) : Move .table s (removePeer n s)
  | age (n : Nat) (s : State) : Move .table s (agePeer n s)
  | overflow (o : Option Time) (s : State) : Move .table s (setOverflow o s)

/-- A chain of moves, each free or of a kind in `F`. -/
def Moves (F : List Flag) : State → State → Prop := ReflTransGen fun s t => ∃ f, (f = .free ∨ f ∈ F) ∧ Move f s t

namespace Moves

theorem refl {F : List Flag} {s : State} : Moves F s s := ReflTransGen.refl

theorem trans {F : List Flag} {s t u : State} (h : Moves F s t) (k : Moves F t u) : Moves F s u := ReflTransGen.trans h k

theorem behind {F : List Flag} {s t u : State} (k : Moves F t u) (h : Moves F s t) : Moves F s u := h.trans k

theorem one {F : List Flag} {f : Flag} {s t : State} (m : Move f s t) (member : f = .free ∨ f ∈ F := by decide) :
    Moves F s t := ReflTransGen.single ⟨f, member, m⟩

theorem mono {F G : List Flag} (sub : ∀ f ∈ F, f ∈ G) {s t : State} (m : Moves F s t) : Moves G s t :=
  ReflTransGen.mono (fun _ _ ⟨f, member, move⟩ => ⟨f, member.imp_right (sub f), move⟩) m

/-- What every move of these kinds keeps, every chain of them keeps. -/
theorem keeps {F : List Flag} {I : State → Prop} (each : ∀ f s t, f = .free ∨ f ∈ F → Move f s t → I s → I t)
    {s t : State} (m : Moves F s t) (start : I s) : I t := by
  induction m with
  | refl => exact start
  | tail _ move ih =>
    obtain ⟨f, member, move⟩ := move
    exact each f _ _ member move ih

theorem ite {F : List Flag} {s t u : State} {p : Prop} [Decidable p] (h : p → Moves F s t) (k : ¬p → Moves F s u) :
    Moves F s (if p then t else u) := by
  split
  · exact h (by assumption)
  · exact k (by assumption)

/-- A fold of operations, each of which is a chain while `P` stands. -/
theorem foldl {α : Type} {F : List Flag} {f : State → α → State} {P : State → α → Prop}
    (step : ∀ s x, P s x → Moves F s (f s x)) (stays : ∀ s x y, P s y → P (f s x) y) :
    ∀ (xs : List α) (s : State), (∀ x ∈ xs, P s x) → Moves F s (xs.foldl f s)
  | [], _, _ => .refl
  | x :: xs, s, all => (step s x (all x List.mem_cons_self)).trans
      (foldl step stays xs (f s x) fun y hy => stays s x y (all y (List.mem_cons_of_mem x hy)))

end Moves

end Sys2Proof.Machine
end

section
/-! Every operation is a chain of moves: the kinds each can make, one lemma per operation. -/

namespace Sys2Proof.Machine

-- One proof after another: many at a time want more threads than the memory limit of a build leaves.
set_option Elab.async false


/-! ### Kinds of moves by operation -/

abbrev reevalF : List Flag := [.commit, .reeval]
abbrev announceF : List Flag := [.commit, .reeval, .announce]
abbrev occupyF : List Flag := [.commit, .reeval, .occupy, .conflict, .full]
abbrev overrunF : List Flag := [.commit, .reeval, .occupy, .conflict, .full, .overrun, .horizon]
abbrev recomputeF : List Flag := [.commit, .reeval, .occupy, .conflict, .full, .overrun, .horizon, .ceiling, .word]
abbrev releaseF : List Flag :=
  [.commit, .reeval, .occupy, .conflict, .full, .overrun, .horizon, .ceiling, .word, .release]
abbrev doubleF : List Flag :=
  [.commit, .reeval, .occupy, .conflict, .full, .overrun, .horizon, .ceiling, .word, .yield, .firstConflict]
abbrev listingF : List Flag := [.commit, .reeval, .announce, .occupy, .conflict, .full, .list, .revive]
abbrev needsF : List Flag :=
  [.commit, .reeval, .occupy, .conflict, .full, .overrun, .horizon, .ceiling, .word, .release, .needs, .remove]
abbrev deliverF : List Flag :=
  [.commit, .reeval, .occupy, .conflict, .full, .overrun, .horizon, .ceiling, .word, .release, .needs, .remove, .announce,
    .list, .revive]
abbrev tickF : List Flag :=
  [.commit, .reeval, .announce, .occupy, .conflict, .full, .list, .revive, .overrun, .horizon, .tick, .retune]
abbrev activeF : List Flag :=
  [.commit, .reeval, .announce, .occupy, .conflict, .full, .list, .revive, .overrun, .horizon, .tick, .retune, .station]

/-! ### What the small operations leave of the entries -/

@[simp] theorem urgentRequest_window (s : State) : (urgentRequest s).window = s.window := by
  unfold urgentRequest; split <;> rfl
@[simp] theorem raiseNotice_window (n : Notice) (s : State) : (raiseNotice n s).window = s.window := by
  unfold raiseNotice; split <;> rfl
@[simp] theorem urgentRequest_auth (s : State) : (urgentRequest s).auth = s.auth := by
  unfold urgentRequest; split <;> rfl
@[simp] theorem raiseNotice_auth (n : Notice) (s : State) : (raiseNotice n s).auth = s.auth := by
  unfold raiseNotice; split <;> rfl
@[simp] theorem sendWord_window (v : Nat) (s : State) : (sendWord v s).window = s.window := by
  unfold sendWord; split
  · split <;> rfl
  · rfl

theorem findEntry_congr {z : Nat} {s t : State} (h : t.window.entries = s.window.entries) :
    findEntry z t = findEntry z s := by unfold findEntry; rw [h]

@[simp] theorem findEntry_urgent (z : Nat) (s : State) : findEntry z (urgentRequest s) = findEntry z s :=
  findEntry_congr (by rw [urgentRequest_window])
@[simp] theorem findEntry_notice (z : Nat) (n : Notice) (s : State) : findEntry z (raiseNotice n s) = findEntry z s :=
  findEntry_congr (by rw [raiseNotice_window])

theorem findEntry_none {z : Nat} {s : State} : findEntry z s = none ↔ ∀ e ∈ s.window.entries, e.zone ≠ z := by
  simp [findEntry]

/-- A new entry for a zone without one is the one found there, wherever window order puts it. -/
theorem findEntry_addEntry_self {e : ClaimEntry} {s : State} (absent : findEntry e.zone s = none) :
    findEntry e.zone (addEntry e s) = some e := by
  have perm := addEntry_perm e s
  have member : e ∈ (addEntry e s).window.entries := perm.mem_iff.mpr List.mem_cons_self
  have only : ∀ x ∈ (addEntry e s).window.entries, x.zone = e.zone → x = e := fun x hx hz =>
    (List.mem_cons.mp (perm.mem_iff.mp hx)).resolve_right fun old => findEntry_none.mp absent x old hz
  cases found : findEntry e.zone (addEntry e s) with
  | none => exact absurd rfl (findEntry_none.mp found e member)
  | some x => rw [only x (findEntry_mem found) (findEntry_zone found)]

@[simp] theorem entryFor_zone (z : Nat) (cells : List StoredCell) : (entryFor z cells).zone = z := rfl
@[simp] theorem entryFor_state (z : Nat) (cells : List StoredCell) : (entryFor z cells).state = .queued := rfl

/-! ### Commit tests and re-evaluation -/

theorem commitTest_moves (z : Nat) (s : State) : Moves [.commit] s (commitTest z s) := by
  unfold commitTest
  split
  · exact .refl
  · rename_i e found
    refine .ite (fun guard => ?_) fun _ => .refl
    have held : e.state = .held := by simp_all
    exact (Moves.one (.commit z s e found held)).trans (.one (.urgent _))

theorem commitAll_moves (s : State) : Moves [.commit] s (commitAll s) :=
  Moves.foldl (P := fun _ _ => True) (fun s z _ => commitTest_moves z s) (fun _ _ _ _ => trivial) _ s
    fun _ _ => trivial

theorem reevaluate_moves (z : Nat) (s : State) : Moves reevalF s (reevaluate z s).1 := by
  unfold reevaluate
  split
  · exact .refl
  · rename_i e found
    split
    · rename_i announced
      split
      · rename_i blocked
        exact .one (.block z s e found announced blocked)
      · rename_i free
        split
        · rename_i guard
          simp only [Bool.and_eq_true, beq_iff_eq, decide_eq_true_eq] at guard
          obtain ⟨⟨settled, twice⟩, earlier⟩ := guard
          exact ((Moves.one (.grant z s e found announced (Bool.eq_false_iff.mpr free) settled twice earlier)).trans
            (.one (.urgent _))).trans ((commitTest_moves z _).mono (by decide))
        · exact .refl
    · rename_i waiting
      split
      · rename_i blocked
        exact .one (.track z s e found waiting blocked)
      · rename_i free
        exact .one (.unblock z s e found waiting (Bool.eq_false_iff.mpr free))
    all_goals exact .refl

theorem reevaluatePass_moves (sel : Nat → Bool) :
    ∀ (zs : List Nat) (granted : Bool) (s : State), Moves reevalF s (reevaluatePass sel zs granted s)
  | [], _, _ => .refl
  | z :: zs, granted, s => by
    unfold reevaluatePass
    exact .ite (fun _ => (reevaluate_moves z s).trans (reevaluatePass_moves sel zs _ _))
      fun _ => reevaluatePass_moves sel zs _ s

theorem reevaluateZones_moves (sel : Nat → Bool) (s : State) : Moves reevalF s (reevaluateZones sel s) :=
  reevaluatePass_moves _ _ _ _

theorem grantRun_moves (z : Nat) (s : State) : Moves reevalF s (grantRun z s) := reevaluatePass_moves _ _ _ _

/-! ### Announcements -/

/-- The entry found for a zone is QUEUED. -/
abbrev queuedAt (z : Nat) (s : State) : Prop := ∃ e, findEntry z s = some e ∧ e.state = .queued

theorem announce_moves {z : Nat} {s : State} (queued : windowFits s.window → queuedAt z s) :
    Moves announceF s (announce z s) :=
  ((Moves.one (.announce z s queued)).trans (.one (.urgent _))).trans ((reevaluate_moves z _).mono (by decide))

theorem commitTest_findEntry_ne {y z : Nat} (differ : y ≠ z) (s : State) : findEntry y (commitTest z s) = findEntry y s := by
  unfold commitTest
  split
  · rfl
  · split
    · rw [findEntry_urgent, findEntry_modifyEntry_ne commit_zone differ]
    · rfl

theorem reevaluate_findEntry_ne {y z : Nat} (differ : y ≠ z) (s : State) :
    findEntry y (reevaluate z s).1 = findEntry y s := by
  unfold reevaluate
  split
  · rfl
  · split
    · split
      · exact findEntry_modifyEntry_ne (block_zone _ _) differ s
      · split
        · rw [commitTest_findEntry_ne differ, findEntry_urgent, findEntry_modifyEntry_ne grant_zone differ]
        · rfl
    · split
      · exact findEntry_modifyEntry_ne (trackBlock_zone _ _) differ s
      · exact findEntry_modifyEntry_ne (unblock_zone _ _) differ s
    all_goals rfl

theorem announce_findEntry_ne {y z : Nat} (differ : y ≠ z) (s : State) : findEntry y (announce z s) = findEntry y s := by
  unfold announce
  rw [reevaluate_findEntry_ne differ, findEntry_urgent, findEntry_modifyEntry_ne (announceFirst_zone _ _) differ]

theorem commitTest_zones (z : Nat) (s : State) : windowZones (commitTest z s) = windowZones s := by
  unfold commitTest
  split
  · rfl
  · split
    · rw [← modifyEntry_zones commit_zone z s]; unfold windowZones; rw [urgentRequest_window]
    · rfl

theorem reevaluate_zones (z : Nat) (s : State) : windowZones (reevaluate z s).1 = windowZones s := by
  unfold reevaluate
  split
  · rfl
  · split
    · split
      · exact modifyEntry_zones (block_zone _ _) z s
      · split
        · rw [commitTest_zones, ← modifyEntry_zones grant_zone z s]; unfold windowZones; rw [urgentRequest_window]
        · rfl
    · split
      · exact modifyEntry_zones (trackBlock_zone _ _) z s
      · exact modifyEntry_zones (unblock_zone _ _) z s
    all_goals rfl

theorem announce_zones (z : Nat) (s : State) : windowZones (announce z s) = windowZones s := by
  unfold announce
  rw [reevaluate_zones, ← modifyEntry_zones (announceFirst_zone s.now (settleLength s)) z s]
  unfold windowZones
  rw [urgentRequest_window]

/-- The window fits by its zones and its standing claims alone. -/
theorem windowFits_congr {s t : State} (zones : windowZones t = windowZones s)
    (standing : t.window.standing = s.window.standing) : windowFits t.window ↔ windowFits s.window := by
  have length : t.window.entries.length = s.window.entries.length := by
    have := congrArg List.length zones
    simpa [windowZones] using this
  unfold windowFits
  rw [length, standing]
  exact and_congr_right fun _ => and_congr_left fun _ => by
    show (windowZones t).Nodup ↔ (windowZones s).Nodup
    rw [zones]

theorem announceList_moves : ∀ (zs : List Nat) (s : State),
    (windowFits s.window → zs.Nodup ∧ ∀ z ∈ zs, queuedAt z s) → Moves announceF s (zs.foldl (fun s z => announce z s) s)
  | [], _, _ => .refl
  | z :: zs, s, queued => by
    refine (announce_moves fun fits => (queued fits).2 z List.mem_cons_self).trans (announceList_moves zs _ fun fits => ?_)
    rw [windowFits_congr (announce_zones z s) (announce_inner z s).standing] at fits
    obtain ⟨differ, all⟩ := queued fits
    obtain ⟨new, differ⟩ := List.nodup_cons.mp differ
    refine ⟨differ, fun y hy => ?_⟩
    have ne : y ≠ z := fun h => new (h ▸ hy)
    unfold queuedAt
    rw [announce_findEntry_ne ne]
    exact all y (List.mem_cons_of_mem z hy)

/-- With no zone twice, an entry of the window is the one found for its zone. -/
theorem findEntry_of_mem {s : State} {e : ClaimEntry} (differ : (s.window.entries.map ClaimEntry.zone).Nodup)
    (member : e ∈ s.window.entries) : findEntry e.zone s = some e := by
  cases found : findEntry e.zone s with
  | none => exact absurd rfl (findEntry_none.mp found e member)
  | some x => rw [inj_of_nodup_map differ (findEntry_mem found) member (findEntry_zone found)]

theorem announceQueued_moves (s : State) : Moves announceF s (announceQueued s) := by
  refine announceList_moves _ s fun fits => ⟨?_, fun z hz => ?_⟩
  · exact fits.2.1.sublist (List.filter_sublist.map _)
  · obtain ⟨e, he, rfl⟩ := List.mem_map.mp hz
    obtain ⟨member, queued⟩ := List.mem_filter.mp he
    exact ⟨e, findEntry_of_mem fits.2.1 member, by simpa using queued⟩

/-! ### Conflict records and occupant claims -/

/-- A STOP cause stands, or the station has no ceiling to drop: a conflict raised here leaves the ceiling at 0. -/
abbrev stopped (s : State) : Prop := s.auth.causes.any = true ∨ s.isCarrier = false ∨ s.station.state ≠ .active

theorem conflictRecords_ne_nil (z n : Nat) (rs : List ConflictRecord) : (conflictRecords z n rs).1 ≠ [] := by
  unfold conflictRecords
  split
  · rename_i r found
    have some : rs ≠ [] := List.ne_nil_of_mem (List.mem_of_find?_eq_some found)
    split
    · exact some
    · split
      · simpa [addConflictPeer] using some
      · exact some
  · split
    · simp
    · rename_i full
      rintro rfl
      exact full (by decide)

/-- An outcome CONFLICT leaves its cause standing (R76). -/
theorem recordConflict_cause (z n : Nat) (s : State) : (recordConflict z n s).auth.causes.conflict = true := by
  have some := conflictRecords_ne_nil z n s.window.conflicts
  unfold recordConflict
  dsimp only
  split
  · rw [raiseNotice_auth]
    simpa using some
  · simpa using some

theorem any_of_conflict {c : StopCauses} (h : c.conflict = true) : c.any = true := by simp [StopCauses.any, h]

theorem stopped_congr {s t : State} (station : t.station = s.station) (causes : t.auth.causes = s.auth.causes) :
    stopped t ↔ stopped s := by
  unfold stopped State.isCarrier State.cls
  rw [station, causes]

theorem reevalMove_auth {f : Flag} {s t : State} (m : Move f s t) (member : f ∈ [Flag.commit, .reeval, .announce]) :
    t.auth = s.auth := by
  cases m
  case commit | block | track | unblock | grant | announce => rfl
  all_goals exact absurd member (by decide)

theorem occupantTest_moves {z : Nat} {p : Peer} {s : State} (stop : stopped s) :
    Moves [.conflict] s (occupantTest z p s) := by
  unfold occupantTest
  split
  · exact .refl
  · refine .ite (fun _ => ?_) fun _ => .refl
    have recorded : Moves [.conflict] s (recordConflict z p.station s) := .one (.conflict z p.station s stop)
    exact .ite (fun _ => recorded.trans (.one (.lower _))) fun _ => recorded

theorem occupantTest_stopped {z : Nat} {p : Peer} {s : State} (stop : stopped s) : stopped (occupantTest z p s) := by
  have any (n : Nat) : (recordConflict z n s).auth.causes.any = true := any_of_conflict (recordConflict_cause z n s)
  unfold occupantTest
  split
  · exact stop
  · split
    · dsimp only
      split
      · exact .inl (any _)
      · exact .inl (any _)
    · exact stop

theorem occupantTests_moves {z : Nat} {s : State} (stop : stopped s) : Moves [.conflict] s (occupantTests z s) :=
  Moves.foldl (P := fun s _ => stopped s) (fun _ _ stop => occupantTest_moves stop)
    (fun _ _ _ stop => occupantTest_stopped stop) _ s fun _ _ => stop

theorem foldl_keeps {α : Type} {f : State → α → State} {I : State → Prop} (step : ∀ s x, I s → I (f s x)) :
    ∀ (xs : List α) (s : State), I s → I (xs.foldl f s)
  | [], _, start => start
  | x :: xs, s, start => foldl_keeps step xs (f s x) (step s x start)

theorem occupantTests_stopped {z : Nat} {s : State} (stop : stopped s) : stopped (occupantTests z s) :=
  foldl_keeps (I := stopped) (f := fun s p => occupantTest z p s) (fun _ _ => occupantTest_stopped) _ s stop

theorem reevaluate_auth (z : Nat) (s : State) : (reevaluate z s).1.auth = s.auth := by
  unfold reevaluate
  split
  · rfl
  · split
    · split
      · rfl
      · split
        · unfold commitTest
          split
          · simp
          · split <;> simp
        · rfl
    · split <;> rfl
    all_goals rfl

theorem reevaluatePass_auth (sel : Nat → Bool) :
    ∀ (zs : List Nat) (granted : Bool) (s : State), (reevaluatePass sel zs granted s).auth = s.auth
  | [], _, _ => rfl
  | z :: zs, granted, s => by
    unfold reevaluatePass
    split
    · rw [reevaluatePass_auth, reevaluate_auth]
    · rw [reevaluatePass_auth]

@[simp] theorem grantRun_auth (z : Nat) (s : State) : (grantRun z s).auth = s.auth := reevaluatePass_auth _ _ _ _
@[simp] theorem reevaluateZones_auth (sel : Nat → Bool) (s : State) : (reevaluateZones sel s).auth = s.auth :=
  reevaluatePass_auth _ _ _ _

theorem occupantHeld_moves {z : Nat} {s : State} (stop : stopped s) : Moves occupyF s (occupantHeld z s) := by
  have stop' : stopped (urgentRequest s) :=
    (stopped_congr (urgentRequest_inner s).station (by rw [urgentRequest_auth])).mpr stop
  exact (Moves.one (.urgent s)).trans (((occupantTests_moves stop').mono (by decide)).trans
    ((grantRun_moves z _).mono (by decide)))

theorem occupantHeld_stopped {z : Nat} {s : State} (stop : stopped s) : stopped (occupantHeld z s) := by
  have stop' : stopped (urgentRequest s) :=
    (stopped_congr (urgentRequest_inner s).station (by rw [urgentRequest_auth])).mpr stop
  exact (stopped_congr (grantRun_inner z _).station (by rw [grantRun_auth])).mpr (occupantTests_stopped stop')

theorem occupantClaim_moves {z : Nat} {s : State} (stop : stopped s) (needed : isNeeded z s.route.cells = true)
    (carrier : s.isCarrier = true) : Moves occupyF s (occupantClaim z s) := by
  unfold occupantClaim
  split
  · rename_i absent
    unfold holdBack
    refine .ite (fun room => ?_) fun _ => .ite (fun _ => .refl) fun _ => (Moves.one (.full s)).trans (.one (.notice _ _))
    have room : s.window.entries.length < 8 := of_decide_eq_true room
    exact (Moves.one (.occupyNew z s absent room needed carrier)).trans (occupantHeld_moves stop)
  · rename_i e found
    refine .ite (fun held => .one (.commit z s e found held)) fun unheld => ?_
    exact (Moves.one (.occupy z s e found unheld needed carrier)).trans (occupantHeld_moves stop)

theorem occupantClaim_stopped {z : Nat} {s : State} (stop : stopped s) : stopped (occupantClaim z s) := by
  unfold occupantClaim holdBack
  split
  · split
    · exact occupantHeld_stopped (s := addEntry _ s) stop
    · split
      · exact stop
      · exact (stopped_congr (raiseNotice_inner _ _).station (by rw [raiseNotice_auth])).mpr stop
  · split
    · exact stop
    · exact occupantHeld_stopped (s := modifyEntry _ _ s) stop

/-- Occupant claims of zones that stored cells name, one after another. -/
theorem occupantClaims_moves {zs : List Nat} {s : State} (stop : stopped s)
    (needed : ∀ z ∈ zs, isNeeded z s.route.cells = true) (carrier : s.isCarrier = true) :
    Moves occupyF s (zs.foldl (fun s z => occupantClaim z s) s) := by
  refine Moves.foldl (P := fun t z => stopped t ∧ isNeeded z t.route.cells = true ∧ t.isCarrier = true)
    (fun t z ⟨stop, need, carrier⟩ => occupantClaim_moves stop need carrier) (fun t x y ⟨stop, need, carrier⟩ => ?_) zs s
    fun z hz => ⟨stop, needed z hz, carrier⟩
  have inner := occupantClaim_inner x t
  exact ⟨occupantClaim_stopped stop, by rw [inner.route]; exact need, by rw [inner.isCarrier]; exact carrier⟩

theorem isNeeded_of_mem {z : Nat} {c : StoredCell} {cells : List StoredCell} (cell : c ∈ cells) (zone : z ∈ c.cell.zones) :
    isNeeded z cells = true :=
  List.any_eq_true.mpr ⟨c, cell, by simpa [StoredCell.needs] using zone⟩

/-! ### OVERRUN and the immediate recompute -/

theorem frontCell_mem {s : State} {c : StoredCell} (front : frontCell s = some c) : c ∈ s.route.cells :=
  List.mem_of_mem_drop (List.mem_of_mem_head? front)

theorem frontZones_needed {s : State} {z : Nat} (zone : z ∈ frontZones s) : isNeeded z s.route.cells = true := by
  unfold frontZones at zone
  cases front : frontCell s with
  | none => simp [front] at zone
  | some c => exact isNeeded_of_mem (frontCell_mem front) (by simpa [front] using zone)

theorem overrunCause_inner (s : State) : Inner s (overrunCause s) := by
  unfold overrunCause
  exact .ite (setOverrun_inner s) ((setOverrun_inner s).trans ((lowerHorizon_inner _).trans (dropCeiling_inner _)))

theorem sendWord_causes (v : Nat) (s : State) : (sendWord v s).auth.causes = s.auth.causes := by
  unfold sendWord
  split
  · split <;> rfl
  · rfl

theorem dropCeiling_causes (s : State) : (dropCeiling s).auth.causes = s.auth.causes := by
  unfold dropCeiling
  split
  · rw [sendWord_causes]; rfl
  · rfl

theorem overrunCause_causes (s : State) : (overrunCause s).auth.causes = { s.auth.causes with overrun := true } := by
  unfold overrunCause
  split
  · rfl
  · rw [dropCeiling_causes]; rfl

theorem overrunNoted_inner (s : State) : Inner s (overrunNoted s) := (overrunCause_inner s).trans (raiseNotice_inner _ _)

theorem overrunNoted_stopped (s : State) : stopped (overrunNoted s) := by
  refine .inl ?_
  unfold overrunNoted
  rw [raiseNotice_auth, overrunCause_causes]
  simp [StopCauses.any]

theorem overrunTaken_moves {s : State} (carrier : s.isCarrier = true) :
    Moves occupyF (overrunNoted s) (overrunTaken s) := by
  have inner := overrunNoted_inner s
  exact occupantClaims_moves (overrunNoted_stopped s) (fun z hz => by rw [inner.route]; exact frontZones_needed hz)
    (by rw [inner.isCarrier]; exact carrier)

theorem overrunTest_moves (s : State) : Moves overrunF s (overrunTest s) := by
  rw [overrunTest_eq]
  refine .ite (fun guard => ?_) fun _ => .refl
  obtain ⟨carrier, active, absent, passed⟩ := guard
  have noted : Moves overrunF s (overrunNoted s) :=
    (Moves.one (.overrun s carrier active absent passed)).trans (.one (.notice _ _))
  rw [raiseOverrun_eq]
  exact (noted.trans ((overrunTaken_moves carrier).mono (by decide))).trans (.one (.horizon _))

theorem recomputeCeiling_moves (s : State) : Moves recomputeF s (recomputeCeiling s) := by
  unfold recomputeCeiling
  refine ((overrunTest_moves s).mono (by decide)).trans (.ite (fun fall => ?_) fun _ => .refl)
  exact (Moves.one (.ceiling _ _ fall)).trans (.one (.word _ _))

theorem giveWay_moves (s : State) : Moves [] s (giveWay s) := by
  unfold giveWay
  exact .ite (fun _ => .one (.lower s)) fun _ => .refl

/-- What is left of an immediate recompute once the horizon has been lowered. -/
theorem immediateRecompute_rest (s : State) : Moves recomputeF (giveWay s) (immediateRecompute s) := by
  rw [immediateRecompute_eq]
  exact .ite (fun _ => recomputeCeiling_moves _) fun _ => .refl

theorem immediateRecompute_moves (s : State) : Moves recomputeF s (immediateRecompute s) :=
  ((giveWay_moves s).mono (by decide)).trans (immediateRecompute_rest s)

theorem releaseEntry_moves (z : Nat) (s : State) : Moves releaseF s (releaseEntry z s) :=
  (Moves.one (.release z s)).trans ((immediateRecompute_rest _).mono (by decide))

theorem releaseEntries_moves (zs : List Nat) (s : State) : Moves releaseF s (zs.foldl (fun s z => releaseEntry z s) s) :=
  Moves.foldl (P := fun _ _ => True) (fun s z _ => releaseEntry_moves z s) (fun _ _ _ _ => trivial) _ s
    fun _ _ => trivial

theorem yieldAtCommand_moves (z : Nat) (s : State) : Moves releaseF s (yieldAtCommand z s) :=
  (Moves.one (.surrender z s)).trans ((immediateRecompute_rest _).mono (by decide))

theorem yieldEntry_moves {z : Nat} (n : Nat) {s : State} {e : ClaimEntry} (found : findEntry z s = some e)
    (held : e.state = .held) (unmarked : e.committed = false) : Moves (.yield :: recomputeF) s (yieldEntry z n s) :=
  (Moves.one (.yield z n s e found held unmarked)).trans ((immediateRecompute_rest _).mono (by decide))

theorem conflictOutcome_moves (z n : Nat) (s : State) : Moves doubleF s (conflictOutcome z n s) := by
  unfold conflictOutcome
  exact .ite (fun any => .one (.conflict z n s (.inl any)))
    fun _ => (Moves.one (.firstConflict z n s)).trans ((immediateRecompute_moves _).mono (by decide))

theorem doubleHoldTest_moves (z n : Nat) (c : Claim) (s : State) : Moves doubleF s (doubleHoldTest z n c s) := by
  unfold doubleHoldTest
  refine ((commitTest_moves z s).mono (by decide)).trans ?_
  dsimp only
  split
  · exact .refl
  · rename_i e found
    refine .ite (fun _ => .refl) fun notHeld => ?_
    have held : e.state = .held := by simpa using notHeld
    have yields (unmarked : e.committed = false) : Moves doubleF (commitTest z s) (yieldEntry z n (commitTest z s)) :=
      (yieldEntry_moves n found held unmarked).mono (by decide)
    split
    · exact conflictOutcome_moves _ _ _
    · exact .refl
    · exact yields (by assumption)
    · exact .ite (fun _ => yields (by assumption)) fun _ => .refl

/-! ### Listing and delivery -/

theorem reviveEntry_moves {z : Nat} {s : State} {e : ClaimEntry} (found : findEntry z s = some e)
    (releasing : e.state = .releasing) (can : canRevive z e s = true) (needed : isNeeded z s.route.cells = true)
    (runs : listingRuns s = true) : Moves [.revive, .commit, .reeval] s (reviveEntry z s) :=
  ((Moves.one (.revive z s e found releasing can needed runs)).trans ((Moves.one (.reorder _)).trans
    (.one (.urgent _)))).trans (((commitTest_moves z _).mono (by decide)).trans ((grantRun_moves z _).mono (by decide)))

theorem listingRuns_carrier {s : State} (runs : listingRuns s = true) : s.isCarrier = true :=
  (Bool.and_eq_true_iff.mp runs).1

theorem listingRuns_inner {s t : State} (inner : Inner s t) : listingRuns t = listingRuns s := by
  unfold listingRuns
  rw [inner.isCarrier, inner.station]

theorem listZone_moves {z : Nat} {s : State} (absent : findEntry z s = none) (room : windowHasRoom s = true)
    (needed : isNeeded z s.route.cells = true) (runs : listingRuns s = true) : Moves listingF s (listZone z s) := by
  have few : s.window.entries.length < 8 := of_decide_eq_true room
  refine (Moves.one (.list z s absent few needed runs)).trans ?_
  unfold listZone
  dsimp only
  split
  · exact (announce_moves fun _ => ⟨_, findEntry_addEntry_self (e := entryFor z s.route.cells) absent, rfl⟩).mono
      (by decide)
  · rename_i listen
    have stop : stopped (addEntry (entryFor z s.route.cells) s) := by
      refine .inr (.inr ?_)
      show s.station.state ≠ .active
      rw [listen]
      decide
    have claim : Moves occupyF (addEntry (entryFor z s.route.cells) s)
        (occupantClaim z (addEntry (entryFor z s.route.cells) s)) :=
      occupantClaim_moves stop needed (listingRuns_carrier runs)
    exact .ite (fun _ => claim.mono (by decide)) fun _ => .refl
  all_goals exact .refl

theorem listZones_moves : ∀ {zs : List Nat} {s : State}, (∀ z ∈ zs, isNeeded z s.route.cells = true) →
    listingRuns s = true → Moves listingF s (listZones zs s).1
  | [], _, _, _ => .refl
  | z :: zs, s, needed, runs => by
    have need := needed z List.mem_cons_self
    have rest {t : State} (inner : Inner s t) : Moves listingF t (listZones zs t).1 :=
      listZones_moves (fun y hy => by rw [inner.route]; exact needed y (List.mem_cons_of_mem z hy))
        (by rw [listingRuns_inner inner]; exact runs)
    unfold listZones
    split
    · rename_i e found
      split
      · rename_i guard
        simp only [Bool.and_eq_true, decide_eq_true_eq] at guard
        exact ((reviveEntry_moves found guard.1 guard.2 need runs).mono (by decide)).trans (rest (reviveEntry_inner z s))
      · exact rest (.refl s)
    · rename_i absent
      split
      · rename_i room
        exact (listZone_moves absent room need runs).trans (rest (listZone_inner z s))
      · show Moves listingF s (holdBack z s)
        unfold holdBack
        exact .ite (fun _ => .refl) fun _ => (Moves.one (.full s)).trans (.one (.notice _ _))

theorem mem_firstOccurrences {z : Nat} : ∀ {zs : List Nat}, z ∈ firstOccurrences zs ↔ z ∈ zs
  | [] => by simp [firstOccurrences]
  | x :: xs => by
    have ih := mem_firstOccurrences (z := z) (zs := xs)
    simp only [firstOccurrences, List.mem_cons, List.mem_filter, ih, bne_iff_ne]
    by_cases h : z = x <;> simp [h]

theorem zonesInReach_needed {s : State} {z : Nat} (reach : z ∈ zonesInReach s) : isNeeded z s.route.cells = true := by
  unfold zonesInReach at reach
  rw [mem_firstOccurrences] at reach
  obtain ⟨c, hc, zone⟩ := List.mem_flatMap.mp reach
  exact isNeeded_of_mem ((List.takeWhile_prefix _).subset hc) zone

theorem listingTest_moves (s : State) : Moves listingF s (listingTest s) := by
  unfold listingTest
  refine .ite (fun runs => ?_) fun _ => .refl
  have walk : Moves listingF s (listZones (zonesInReach s) s).1 :=
    listZones_moves (fun _ => zonesInReach_needed) runs
  exact .ite (fun _ => walk) fun _ => walk.trans (.one (.clearFull _))

theorem releaseEntries_inner (zs : List Nat) (s : State) : Inner s (zs.foldl (fun s z => releaseEntry z s) s) :=
  Inner.foldl (fun s z => releaseEntry_inner z s) zs s

/-- What is withdrawn has lost its need: no stored cell names it. -/
theorem deliverNeeds_moves (s : State) : Moves needsF s (deliverNeeds s) := by
  unfold deliverNeeds
  refine (Moves.one (.needs s)).trans (((releaseEntries_moves _ _).mono (by decide)).trans
    ((Moves.one (.remove _ _ fun _ _ z hz needed => ?_)).trans ((reevaluateZones_moves _ _).mono (by decide))))
  obtain ⟨e, he, rfl⟩ := List.mem_map.mp hz
  rw [(releaseEntries_inner _ _).route] at needed
  have lost := (List.mem_filter.mp he).2
  rw [Bool.and_eq_true, Bool.not_eq_true'] at lost
  exact absurd (lost.2.symm.trans needed) (by decide)

theorem deliver_moves (s : State) : Moves deliverF s (deliver s) :=
  ((deliverNeeds_moves s).mono (by decide)).trans ((listingTest_moves _).mono (by decide))

/-! ### What is given up at PARK -/

/-- Outside ACTIVE a release brings no recompute of the ceiling. -/
theorem immediateRecompute_idle {s : State} (idle : s.station.state ≠ .active) : immediateRecompute s = giveWay s := by
  rw [immediateRecompute_eq, if_neg fun both => idle both.2]

@[simp] theorem giveWay_window (s : State) : (giveWay s).window = s.window := by
  unfold giveWay
  split <;> rfl

theorem releaseEntry_idle_window {z : Nat} {s : State} (idle : s.station.state ≠ .active) :
    (releaseEntry z s).window = (modifyEntry z ClaimEntry.release s).window := by
  have idle' : (urgentRequest (modifyEntry z ClaimEntry.release s)).station.state ≠ .active := by
    rw [(urgentRequest_inner _).station]
    exact idle
  show (immediateRecompute _).window = _
  rw [immediateRecompute_idle idle', giveWay_window, urgentRequest_window]

theorem isHeld_release {y z : Nat} {s : State} (unheld : isHeld s y = false) :
    isHeld (modifyEntry z ClaimEntry.release s) y = false := by
  unfold isHeld at unheld ⊢
  rw [List.any_eq_false] at unheld ⊢
  intro e he
  obtain ⟨x, hx, rfl⟩ := List.mem_map.mp he
  split
  · simp [ClaimEntry.release]
  · exact unheld x hx

/-- Outside ACTIVE releases make nothing HELD and keep the zones of the window. -/
theorem releaseEntries_idle : ∀ (zs : List Nat) {s : State} (_ : s.station.state ≠ .active),
    windowZones (zs.foldl (fun s z => releaseEntry z s) s) = windowZones s ∧
      ∀ y, isHeld s y = false → isHeld (zs.foldl (fun s z => releaseEntry z s) s) y = false
  | [], _, _ => ⟨rfl, fun _ h => h⟩
  | z :: zs, s, idle => by
    have window := releaseEntry_idle_window (z := z) idle
    have idle' : (releaseEntry z s).station.state ≠ .active := by
      rw [(releaseEntry_inner z s).station]
      exact idle
    obtain ⟨zones, unheld⟩ := releaseEntries_idle zs idle'
    refine ⟨zones.trans ?_, fun y hy => unheld y ?_⟩
    · unfold windowZones
      rw [window]
      exact modifyEntry_zones release_zone z s
    · unfold isHeld
      rw [window]
      exact isHeld_release hy

theorem isHeld_of_unheld {s : State} {e : ClaimEntry} (differ : (s.window.entries.map ClaimEntry.zone).Nodup)
    (member : e ∈ s.window.entries) (unheld : e.state ≠ .held) : isHeld s e.zone = false := by
  unfold isHeld
  rw [List.any_eq_false]
  intro x hx held
  simp only [Bool.and_eq_true, beq_iff_eq, decide_eq_true_eq] at held
  rw [inj_of_nodup_map differ hx member held.1] at held
  exact unheld held.2

theorem unheld_spec {e : ClaimEntry} (unheld : e.unheld = true) : e.state ≠ .held := by
  intro held
  unfold ClaimEntry.unheld at unheld
  rw [held] at unheld
  exact nomatch unheld

theorem giveUpAhead_moves {s : State} (idle : s.station.state ≠ .active) : Moves needsF s (giveUpAhead s) := by
  unfold giveUpAhead
  refine ((releaseEntries_moves _ _).mono (by decide)).trans
    ((Moves.one (.remove _ _ fun _ fits z hz _ => ?_)).trans ((reevaluateZones_moves _ _).mono (by decide)))
  obtain ⟨zones, stays⟩ := releaseEntries_idle ((s.window.entries.filter (fun e => e.state = .held &&
    !isOccupied s e.zone)).map ClaimEntry.zone) idle
  obtain ⟨e, he, rfl⟩ := List.mem_map.mp hz
  obtain ⟨member, ahead⟩ := List.mem_filter.mp he
  rw [Bool.and_eq_true] at ahead
  refine stays e.zone (isHeld_of_unheld ?_ member (unheld_spec ahead.1))
  show (windowZones s).Nodup
  rw [← zones]
  exact fits.2.1

/-! ### What the Claim Window takes from the other blocks -/

theorem windowTakes_moves (b : Beacon) (zones : List Nat) (s : State) : Moves doubleF s (windowTakes b zones s) := by
  refine (Moves.foldl (P := fun _ _ => True) (fun s z _ => ?_) (fun _ _ _ _ => trivial) (doubleHeld b s) s
    fun _ _ => trivial).trans ((reevaluateZones_moves _ _).mono (by decide))
  unfold testAgainst
  split
  · exact doubleHoldTest_moves _ _ _ _
  · exact .refl

theorem settleExpires_moves (z : Nat) (s : State) : Moves [.settle, .commit, .reeval] s (settleExpires z s) :=
  (Moves.one (.settle z s)).trans ((reevaluateZones_moves _ _).mono (by decide))

theorem gridlockOut_moves (z : Nat) (s : State) : Moves [.report] s (gridlockOut z s) := by
  unfold gridlockOut
  split
  · exact (Moves.one (.notice _ s)).trans (.one (.report z _))
  · exact .refl

theorem waitRise_moves (s : State) : Moves [.waits, .commit, .reeval] s (waitRise s) :=
  (Moves.one (.waits s)).trans ((reevaluateZones_moves _ _).mono (by decide))

theorem windowCompletes_moves (s : State) : Moves (.completes :: .remove :: listingF) s (windowCompletes s) := by
  unfold windowCompletes
  have taken (sel : Nat → Bool) : Moves (.completes :: .remove :: listingF) s (reevaluateZones sel
      (removeZones (((s.window.entries.map ClaimEntry.completed).filter ClaimEntry.departs).map ClaimEntry.zone)
        (setEntries (s.window.entries.map ClaimEntry.completed) s))) := by
    refine (Moves.one (.completes s)).trans ((Moves.one (.remove _ _ fun _ fits z hz _ => ?_)).trans
      ((reevaluateZones_moves _ _).mono (by decide)))
    obtain ⟨e, he, rfl⟩ := List.mem_map.mp hz
    obtain ⟨member, departs⟩ := List.mem_filter.mp he
    refine isHeld_of_unheld fits.2.1 member fun held => ?_
    simp [ClaimEntry.departs, held] at departs
  exact .ite (fun _ => taken _) fun _ => (taken _).trans ((listingTest_moves _).mono (by decide))

end Sys2Proof.Machine
end

section
/-! The works of the events as chains of moves, and the step as a chain of moves. -/

namespace Sys2Proof.Machine

-- One proof after another: many at a time want more threads than the memory limit of a build leaves.
set_option Elab.async false


/-! ### What the parsers promise (R46, R47, R147, R176, R9) -/

theorem noRepeat_iff : ∀ {xs : List Nat}, noRepeat xs = true ↔ xs.Nodup
  | [] => by simp [noRepeat]
  | x :: xs => by simp [noRepeat, noRepeat_iff (xs := xs)]

theorem takeCells_length : ∀ {n : Nat} {bs : List Byte} {cs : List RouteCell}, takeCells n bs = some cs → cs.length = n
  | 0, [], cs, h => by simp [takeCells] at h; simp [← h]
  | 0, _ :: _, cs, h => by simp [takeCells] at h
  | n + 1, bs, cs, h => by
    unfold takeCells at h
    split at h
    · exact nomatch h
    · split at h
      · rename_i tail
        obtain rfl := Option.some.inj h
        simp [takeCells_length tail]
      · exact nomatch h

theorem takeClaims_length : ∀ {n : Nat} {bs : List Byte} {cs : List Claim}, takeClaims n bs = some cs → cs.length = n
  | 0, [], cs, h => by simp [takeClaims] at h; simp [← h]
  | 0, _ :: _, cs, h => by simp [takeClaims] at h
  | n + 1, a :: b :: c :: bs, cs, h => by
    unfold takeClaims at h
    split at h
    · rename_i tail
      obtain rfl := Option.some.inj h
      simp [takeClaims_length tail]
    · exact nomatch h
  | n + 1, [], cs, h => by simp [takeClaims] at h
  | n + 1, [_], cs, h => by simp [takeClaims] at h
  | n + 1, [_, _], cs, h => by simp [takeClaims] at h

theorem takeStanding_length : ∀ {n : Nat} {bs : List Byte} {rs : List Standing},
    takeStanding n bs = some rs → rs.length = n
  | 0, [], rs, h => by simp [takeStanding] at h; simp [← h]
  | 0, _ :: _, rs, h => by simp [takeStanding] at h
  | n + 1, a :: b :: c :: bs, rs, h => by
    unfold takeStanding at h
    split at h
    · rename_i tail
      obtain rfl := Option.some.inj h
      simp [takeStanding_length tail]
    · exact nomatch h
  | n + 1, [], rs, h => by simp [takeStanding] at h
  | n + 1, [_], rs, h => by simp [takeStanding] at h
  | n + 1, [_, _], rs, h => by simp [takeStanding] at h

theorem parseStart_length {bs : List Byte} {x : Int} {cells : List RouteCell} (h : parseStart bs = some (x, cells)) :
    1 ≤ cells.length ∧ cells.length ≤ 4 := by
  unfold parseStart at h
  split at h
  · split at h
    · rename_i range
      split at h
      · rename_i taken
        obtain ⟨-, rfl⟩ := Prod.mk.inj (Option.some.inj h)
        rw [takeCells_length taken]
        exact range
      · exact nomatch h
    · exact nomatch h
  · exact nomatch h

theorem parseAppend_length {bs : List Byte} {cells : List RouteCell} (h : parseAppend bs = some cells) :
    1 ≤ cells.length ∧ cells.length ≤ 8 := by
  unfold parseAppend at h
  split at h
  · exact nomatch h
  · split at h
    · rename_i range
      rw [takeCells_length h]
      exact range
    · exact nomatch h

theorem parseStanding_fits {bs : List Byte} {rs : List Standing} (h : parseStanding bs = some rs) :
    1 ≤ rs.length ∧ rs.length ≤ 8 ∧ (∀ r ∈ rs, 1 ≤ r.zone ∧ r.zone ≤ 4095 ∧ r.urgency ≤ 3) ∧
      (rs.map Standing.zone).Nodup := by
  unfold parseStanding at h
  split at h
  · exact nomatch h
  · split at h
    · rename_i range
      split at h
      · rename_i taken
        split at h
        · rename_i checks
          obtain rfl := Option.some.inj h
          rw [Bool.and_eq_true, noRepeat_iff] at checks
          refine ⟨by rw [takeStanding_length taken]; exact range.1, by rw [takeStanding_length taken]; exact range.2,
            fun r hr => ?_, checks.2⟩
          have := List.all_eq_true.mp checks.1 r hr
          simp only [Bool.and_eq_true, decide_eq_true_eq] at this
          exact ⟨this.1.1, this.1.2, this.2⟩
        · exact nomatch h
      · exact nomatch h
    · exact nomatch h

theorem parseBeacon_fits {bs : List Byte} {b : Beacon} (h : parseBeacon bs = some b) :
    b.claims.length ≤ 8 ∧ (b.claims.map Claim.zone).Nodup := by
  unfold parseBeacon at h
  split at h
  · dsimp only at h
    split at h
    · exact nomatch h
    · rename_i taken
      split at h
      · exact nomatch h
      · rename_i checks
        obtain rfl := Option.some.inj h
        simp only [not_or, Bool.not_eq_true', Bool.not_eq_false] at checks
        obtain ⟨few, -, -, -, -, differ⟩ := checks
        exact ⟨by rw [takeClaims_length taken]; omega, noRepeat_iff.mp differ⟩
  · exact nomatch h

theorem firstBadCell_none {cells : List RouteCell} (h : firstBadCell cells = none) : ∀ c ∈ cells, c.inRange = true := by
  unfold firstBadCell at h
  rw [Option.map_eq_none_iff, List.findIdx?_eq_none_iff] at h
  simpa using h

/-! ### Ticks and entry into ACTIVE -/

theorem takePending_idle {s : State} (idle : s.station.state ≠ .active) :
    Moves (.profiles :: listingF) s (takePending s) := by
  rw [takePending_eq]
  split
  · exact .refl
  · rename_i ix _
    have taken : Moves (.profiles :: listingF) s (setIndex ix s) := .one (.index ix s idle)
    exact .ite (fun _ => taken) fun _ => taken.trans ((listingTest_moves _).mono (by decide))

theorem takePending_moves (s : State) : Moves (.retune :: listingF) s (takePending s) := by
  rw [takePending_eq]
  split
  · exact .refl
  · rename_i ix _
    have taken : Moves (.retune :: listingF) s (setIndex ix s) := .one (.retune ix s)
    exact .ite (fun _ => taken) fun _ => taken.trans ((listingTest_moves _).mono (by decide))

theorem takePending_station (s : State) : (takePending s).station = s.station := by
  rw [takePending_eq]
  split
  · rfl
  · split
    · rfl
    · exact (listingTest_inner _).station

/-- The tick up to its ceiling. -/
def tickTested (s : State) : State := overrunTest (setHorizon (grantedHorizon (takePending s)) (takePending s))

theorem authorityTickWork_eq (s : State) : authorityTickWork s = commitAll (tickCeiling (tickTested s)) := rfl

theorem tickTested_station (s : State) : (tickTested s).station = s.station :=
  ((setHorizon_inner _ _).trans (overrunTest_inner _)).station.trans (takePending_station s)

theorem isCarrier_of_station {s t : State} (h : t.station = s.station) : t.isCarrier = s.isCarrier := by
  unfold State.isCarrier State.cls
  rw [h]

theorem tickTested_moves (s : State) : Moves tickF s (tickTested s) :=
  ((takePending_moves s).mono (by decide)).trans
    ((Moves.one (.horizon _)).trans ((overrunTest_moves _).mono (by decide)))

theorem authorityTickWork_moves {s : State} (carrier : s.isCarrier = true) (active : s.station.state = .active) :
    Moves tickF s (authorityTickWork s) := by
  have station := tickTested_station s
  rw [authorityTickWork_eq]
  exact (tickTested_moves s).trans ((Moves.one (.tick _ (by rw [isCarrier_of_station station]; exact carrier)
    (by rw [station]; exact active))).trans ((commitAll_moves _).mono (by decide)))

theorem enterActive_moves {s : State} (running : s.running = true) : Moves activeF s (enterActive s) := by
  have activated : Moves activeF s (activeBase s) := .one (.activate s running)
  rw [enterActive_eq]
  refine .ite (fun carrier => ?_) fun _ => activated
  have inner : Inner (activeBase s) (listingTest (announceQueued (activeBase s))) :=
    (announceQueued_inner _).trans (listingTest_inner _)
  exact activated.trans (((announceQueued_moves _).mono (by decide)).trans
    (((listingTest_moves _).mono (by decide)).trans ((authorityTickWork_moves (by rw [inner.isCarrier]; exact carrier)
      (by rw [inner.station]; rfl)).mono (by decide))))

theorem running_of_state {s : State} (h : s.station.state = .listen ∨ s.station.state = .active ∨ s.station.state = .parked) :
    s.running = true := by
  unfold State.running
  rcases h with h | h | h <;> rw [h]

theorem enterActiveFromListen_eq (s : State) :
    enterActiveFromListen s = enterActive (setRadio { s.radio with fresh := false } s) := rfl

theorem enterActiveFromListen_moves {s : State} (running : s.running = true) :
    Moves (.radio :: activeF) s (enterActiveFromListen s) := by
  have stale : Moves (.radio :: activeF) s (setRadio { s.radio with fresh := false } s) :=
    .one (.radio _ s (List.suffix_refl _) rfl fun _ silent => silent)
  exact stale.trans ((enterActive_moves (s := setRadio { s.radio with fresh := false } s) running).mono (by decide))

theorem listenExpired_moves {s : State} (listening : s.station.state = .listen) :
    Moves (.radio :: activeF) s (listenExpired s) := by
  unfold listenExpired
  exact .ite (fun _ => enterActiveFromListen_moves (running_of_state (.inl listening)))
    fun _ => .one (.listenTimer .expired s)

theorem configRead_moves (w : ConfigWord) (s : State) : Moves (.station :: listingF) s (configRead w s) := by
  unfold configRead
  refine .ite (fun guard => ?_) fun _ => .refl
  simp only [Bool.and_eq_true, decide_eq_true_eq, Option.isNone_iff_eq_none] at guard
  obtain ⟨boot, unread⟩ := guard
  exact .ite (fun _ => (Moves.one (.listen w s boot unread)).trans ((listingTest_moves _).mono (by decide)))
    fun _ => .one (.fault _ w s boot unread)

/-! ### Odometry -/

abbrev sampleF : List Flag := .odo :: .lost :: .shift :: deliverF

theorem fallToDoubt_moves (cause : DoubtCause) (s : State) : Moves [.odo] s (fallToDoubt cause s) := by
  unfold fallToDoubt
  have doubtful : Moves [.odo] s (setOdo { s.odo with quality := .doubt } s) := .one (.odo _ s id fun h => nomatch h)
  exact .ite (fun _ => doubtful.trans (.one (.notice _ _))) fun _ => .refl

theorem gradeSample_moves (s : State) : Moves [.odo, .lost] s (gradeSample s) := by
  unfold gradeSample
  exact .ite (fun _ => .one (.lost s)) fun _ => .ite (fun _ => (fallToDoubt_moves _ s).mono (by decide)) fun _ => .refl

theorem declareFailed_moves (ch : Channel) (s : State) : Moves [.odo] s (declareFailed ch s) := by
  unfold declareFailed
  have failed : Moves [.odo] s (setOdo (match ch with
      | .a => { s.odo with chA := { s.odo.chA with failed := true }, mode := .bOnly, slip := false, slipSeen := true }
      | .b => { s.odo with chB := { s.odo.chB with failed := true }, mode := .aOnly, slip := false, slipSeen := true }) s) := by
    cases ch with
    | a => exact .one (.odo _ s id id)
    | b => exact .one (.odo _ s id id)
  exact failed.trans ((Moves.one (.notice _ _)).trans (fallToDoubt_moves _ _))

theorem judgeSlip_moves (dA dB : Nat) (s : State) : Moves [.odo] s (judgeSlip dA dB s) := by
  unfold judgeSlip
  refine .ite (fun _ => ?_) fun _ => .one (.odo _ s id id)
  have slips : Moves [.odo] s (setOdo { s.odo with slip := true, slipSeen := true } s) := .one (.odo _ s id id)
  exact .ite (fun _ => slips) fun _ => slips.trans (.one (.notice _ _))

theorem judgeFailure_moves (pA pB dA dB : Nat) (s : State) : Moves [.odo] s (judgeFailure pA pB dA dB s) := by
  unfold judgeFailure
  refine (Moves.one (.odo _ s ?_ ?_)).trans
    (.ite (fun _ => declareFailed_moves _ _) fun _ => .ite (fun _ => declareFailed_moves _ _) fun _ => .refl)
  · exact id
  · exact id

theorem takeChannels_moves (pA pB : Nat) (s : State) : Moves [.odo] s (takeChannels pA pB s).2.2 := by
  unfold takeChannels
  dsimp only
  split
  · exact .one (.odo _ s id id)
  · exact .one (.odo _ s id id)
  · exact .one (.odo _ s id id)

/-- The applied increment keeps every reading in its range (R89, R90). -/
theorem applyIncrement_fits (d : Nat) {o : Odometry} (fits : odoFits o) :
    odoFits { applyIncrement d o with vmeas := measuredSpeed (applyIncrement d o).history } := by
  obtain ⟨-, rejects, -, -, history, trim⟩ := fits
  refine ⟨Nat.min_le_right _ _, rejects, Nat.min_le_right _ _, Nat.mod_lt _ (by decide), ?_, trim⟩
  simp [applyIncrement, history]

theorem sampleUnit_moves (pA pB : Nat) (s : State) : Moves [.odo, .lost] s (sampleUnit pA pB s) := by
  refine ((takeChannels_moves pA pB s).mono (by decide)).trans ?_
  unfold sampleUnit
  dsimp only
  refine .trans (t := match s.odo.mode with
    | .dual => judgeFailure (limitPulses pA) (limitPulses pB) (takeChannels pA pB s).1 (takeChannels pA pB s).2.1
        (judgeSlip (takeChannels pA pB s).1 (takeChannels pA pB s).2.1 (takeChannels pA pB s).2.2)
    | .aOnly | .bOnly => (takeChannels pA pB s).2.2) ?_ ((Moves.one (.odo _ _ (applyIncrement_fits _) ?_)).trans
      ((gradeSample_moves _).trans (.one (.standstill _))))
  · split
    · exact ((judgeSlip_moves _ _ _).trans (judgeFailure_moves _ _ _ _ _)).mono (by decide)
    all_goals exact .refl
  · exact id

theorem rearRemovals_moves : ∀ (k : Nat) (s : State), Moves (.shift :: deliverF) s (rearRemovals k s)
  | 0, _ => .refl
  | k + 1, s => by
    unfold rearRemovals
    split
    · rename_i c d rest cells
      exact .ite (fun _ => (Moves.one (.shift c d rest s cells)).trans
        (((deliver_moves _).mono (by decide)).trans (rearRemovals_moves k _))) fun _ => .refl
    · exact .refl

theorem sampleWork_moves (pA pB : Nat) (s : State) : Moves sampleF s (sampleWork pA pB s) := by
  unfold sampleWork
  refine .trans (t := setOdo { s.odo with nextSample := s.odo.nextSample.map (· + samplePeriod) } s)
    (.one (.odo _ s id id)) (((sampleUnit_moves pA pB _).mono (by decide)).trans
      (((rearRemovals_moves _ _).mono (by decide)).trans ((listingTest_moves _).mono (by decide))))

theorem clampInt_bounds {x lo hi : Int} (ordered : lo ≤ hi) : lo ≤ clampInt x lo hi ∧ clampInt x lo hi ≤ hi := by
  unfold clampInt
  omega

/-- What is learned stays in the range of R98. -/
theorem learn_fits (surveyed : Int) (travel : Nat) {o : Odometry} (trim : 61440 ≤ o.trim ∧ o.trim ≤ 69632) :
    61440 ≤ learn surveyed travel o ∧ learn surveyed travel o ≤ 69632 := by
  unfold learn
  split
  · exact trim
  · split
    · unfold learnedTrim
      dsimp only
      generalize (o.trim : Int) + _ = x
      have := clampInt_bounds (x := x) (lo := 61440) (hi := 69632) (by decide)
      omega
    · exact trim

theorem markerWork_moves (ident pA pB : Nat) (s : State) : Moves (.odo :: .port :: listingF) s (markerWork ident pA pB s) := by
  unfold markerWork
  dsimp only
  split
  · exact .one (.stray s)
  · refine .ite (fun _ => ?_) fun _ => ?_
    · unfold markerAccepted
      refine .behind (.ite (fun _ => (listingTest_moves _).mono (by decide)) fun _ => .refl)
        (.one (.odo _ s ?_ fun h => nomatch h))
      rintro ⟨speed, -, -, travel, history, trim⟩
      exact ⟨speed, Nat.zero_le 2, Nat.zero_le 1000000000, travel, history, learn_fits _ _ trim⟩
    · unfold markerRejected
      have noted (k : Nat) (few : k ≤ 2) (n : Notice) : Moves (.odo :: .port :: listingF) s
          (raiseNotice n (setOdo { s.odo with lastMarker := none, rejects := k } s)) :=
        .behind (.one (.notice _ _)) (.one (.odo _ s (fun ⟨speed, _, rest⟩ => ⟨speed, few, rest⟩) id))
      exact .ite (fun _ => (noted _ (Nat.min_le_right _ _) _).trans (((fallToDoubt_moves _ _).mono (by decide)).trans
        ((listingTest_moves _).mono (by decide)))) fun _ => noted _ (Nat.min_le_right _ _) _

/-! ### Outputs -/

theorem outputRefreshWork_moves {s : State} (idle : ticks s = false) :
    Moves (.word :: .horizon :: .profiles :: listingF) s (outputRefreshWork s) := by
  have refreshed (t : State) : Moves (.word :: .horizon :: .profiles :: listingF) t (refreshHorizon t) := by
    unfold refreshHorizon
    exact .ite (fun _ => .refl) fun _ => .one (.horizon t)
  unfold outputRefreshWork
  refine .ite (fun carrier => ?_) fun _ => .refl
  have inactive : s.station.state ≠ .active := by
    intro active
    simp [ticks, carrier, active] at idle
  split
  case h_1 | h_2 =>
    exact ((takePending_idle inactive).mono (by decide)).trans ((refreshed _).trans (.one (.word _ _)))
  case h_3 | h_4 => exact .one (.word _ _)
  case h_5 => exact .refl

theorem wordComplete_moves (s : State) : Moves [.word] s (wordComplete s) := by
  have done : Moves [.word] s (wordDone s) := .one (.wordDone s)
  unfold wordComplete
  dsimp only
  split
  · exact done.trans (.one (.word _ _))
  · exact done

/-! ### Beacons -/

theorem nominalWork_moves {n : Time} {s : State} (due : s.radio.next = some n) :
    Moves [.radio, .waits, .commit, .reeval] s (nominalWork n s) := by
  have advanced : Moves [.radio, .waits, .commit, .reeval] s (advanceSchedule n s) :=
    .one (.radio { s.radio with last := some n, next := some (n + nominalSpacing s), placementOpen := true } s
      (List.suffix_refl _) rfl fun _ ⟨_, _, noNext, _⟩ => nomatch due.symm.trans noNext)
  exact advanced.trans ((waitRise_moves _).mono (by decide))

theorem beaconDueNow_moves (clear : Bool) (s : State) : Moves [.radio, .air, .port] s (beaconDueNow clear s) := by
  unfold beaconDueNow
  split
  · exact .refl
  · rename_i b slot
    have placed (r : Radio) (queue : r.queue = s.radio.queue) (seq : r.seq = s.radio.seq) :
        Moves [.radio, .air, .port] s (setRadio r s) :=
      .one (.radio r s (queue ▸ List.suffix_refl _) seq fun _ ⟨_, empty, _⟩ => nomatch slot.symm.trans empty)
    refine .ite (fun _ => placed _ rfl rfl) fun _ => .ite (fun _ => .one (.air b _ s slot)) fun _ =>
      .ite (fun _ => placed _ rfl rfl) fun _ => ?_
    exact (placed { s.radio with slot := none } rfl rfl).trans (.one (.beaconDrop _))

theorem placeScheduled_moves {n : Time} {s : State} (due : s.radio.next = some n) :
    Moves [.radio, .air, .port] s (placeScheduled n s) := by
  have placed (r : Radio) (queue : r.queue = s.radio.queue) (seq : r.seq = s.radio.seq) :
      Moves [.radio, .air, .port] s (setRadio r s) :=
    .one (.radio r s (queue ▸ List.suffix_refl _) seq fun _ ⟨_, _, noNext, _⟩ => nomatch due.symm.trans noNext)
  cases slot : s.radio.slot with
  | some b =>
    rw [placeScheduled_full (by simp [slot])]
    exact placed { s.radio with placementOpen := false } rfl rfl
  | none =>
    rw [placeScheduled_empty slot]
    exact .ite (fun _ => (beaconDueNow_moves _ (setRadio _ s)).behind (placed _ rfl rfl)) fun _ => placed _ rfl rfl

theorem frameCompletes_moves {x : Transmission} {s : State} (sending : s.radio.tx = some x) :
    Moves (.radio :: .completes :: .remove :: listingF) s (frameCompletes x s) := by
  have tail : Moves (.radio :: .completes :: .remove :: listingF) s
      (setRadio { s.radio with tx := some { x with phase := .tail, endsAt := s.now + tailTime } } s) :=
    .one (.radio _ s (List.suffix_refl _) rfl fun _ ⟨noTx, _⟩ => nomatch sending.symm.trans noTx)
  exact tail.trans ((windowCompletes_moves _).mono (by decide))

theorem tailEnds_moves (s : State) : Moves [.radio, .air] s (tailEnds s) := by
  have released : Moves [.radio, .air] s (setRadio { s.radio with tx := none } s) :=
    .one (.radio _ s (List.suffix_refl _) rfl fun _ ⟨_, rest⟩ => ⟨rfl, rest⟩)
  unfold tailEnds
  split
  · rename_i b slot
    exact .ite (fun _ => .one (.air b 0 s slot)) fun _ => released
  · exact released

theorem unparkSchedule_moves {s : State} (running : s.running = true) :
    Moves [.radio, .air, .port] s (unparkSchedule s) := by
  have placed (r : Radio) (queue : r.queue = s.radio.queue) (seq : r.seq = s.radio.seq) :
      Moves [.radio, .air, .port] s (setRadio r s) :=
    .one (.radio r s (queue ▸ List.suffix_refl _) seq fun stops => nomatch running.symm.trans stops)
  unfold unparkSchedule
  split
  · exact placed _ rfl rfl
  · dsimp only
    refine .ite (fun _ => ?_) fun _ => placed _ rfl rfl
    exact (placeScheduled_moves (s := setRadio _ s) rfl).behind (placed _ rfl rfl)

theorem placeScheduled_station (n : Time) (s : State) : (placeScheduled n s).station = s.station := by
  cases slot : s.radio.slot with
  | some b => rw [placeScheduled_full (by simp [slot])]
  | none =>
    rw [placeScheduled_empty slot]
    split
    · unfold beaconDueNow
      repeat' split
      all_goals rfl
    · rfl

theorem unparkSchedule_station (s : State) : (unparkSchedule s).station = s.station := by
  unfold unparkSchedule
  split
  · rfl
  · dsimp only
    rw [apply_ite State.station, placeScheduled_station]
    exact ite_self _

/-! ### The Neighbour Table -/

theorem findPeer_spec {n : Nat} {s : State} {p : Peer} (found : findPeer n s = some p) :
    p ∈ s.table.peers ∧ p.station = n :=
  ⟨List.mem_of_find?_eq_some found, by simpa using List.find?_some found⟩

theorem evictable_spec {s : State} {n : Nat} (found : evictable s = some n) : ∃ p ∈ s.table.peers, p.station = n := by
  unfold evictable at found
  split at found
  · rename_i p first
    exact ⟨p, List.mem_of_find?_eq_some first, Option.some.inj found⟩
  · obtain ⟨p, second, rfl⟩ := Option.map_eq_some_iff.mp found
    exact ⟨p, List.mem_of_find?_eq_some second, rfl⟩

/-- The kinds of moves that change the table or feed it. -/
abbrev tableOwnF : List Flag := [.table, .radio, .port]

abbrev tableF : List Flag := .table :: .radio :: .port :: doubleF

/-- What the Claim Window makes of a change of the table. -/
inductive WindowPart : State → State → Prop
  | none (s : State) : WindowPart s s
  | takes (b : Beacon) (zones : List Nat) (s : State) : WindowPart s (windowTakes b zones s)
  | reeval (sel : Nat → Bool) (s : State) : WindowPart s (reevaluateZones sel s)
  | noted (n : Notice) (sel : Nat → Bool) (s : State) : WindowPart s (reevaluateZones sel (raiseNotice n s))

theorem WindowPart.moves {s t : State} (part : WindowPart s t) : Moves doubleF s t := by
  cases part with
  | none => exact .refl
  | takes b zones => exact windowTakes_moves b zones s
  | reeval sel => exact (reevaluateZones_moves sel s).mono (by decide)
  | noted n sel => exact (Moves.one (.notice n s)).trans ((reevaluateZones_moves sel _).mono (by decide))

/-- A change of the table, then what the Claim Window makes of it. -/
def TableThenWindow (s t : State) : Prop := ∃ m, Moves tableOwnF s m ∧ WindowPart m t

namespace TableThenWindow

theorem moves {s t : State} (h : TableThenWindow s t) : Moves tableF s t := by
  obtain ⟨m, table, window⟩ := h
  exact (table.mono (by decide)).trans (window.moves.mono (by decide))

theorem table {s t : State} (h : Moves tableOwnF s t) : TableThenWindow s t := ⟨t, h, .none t⟩

theorem behind {s m t : State} (k : TableThenWindow m t) (h : Moves tableOwnF s m) : TableThenWindow s t := by
  obtain ⟨n, table, window⟩ := k
  exact ⟨n, h.trans table, window⟩

theorem ite {s t u : State} {p : Prop} [Decidable p] (h : p → TableThenWindow s t) (k : ¬p → TableThenWindow s u) :
    TableThenWindow s (if p then t else u) := by
  split
  · exact h (by assumption)
  · exact k (by assumption)

end TableThenWindow

theorem acceptBeacon_parts {b : Beacon} (zones : List Nat) {s : State} (running : s.running = true)
    (fits : b.claims.length ≤ 8 ∧ (b.claims.map Claim.zone).Nodup) (other : b.station ≠ s.ownNumber)
    (room : s.table.peers.length < 24 ∨ ∃ p ∈ s.table.peers, p.station = b.station) :
    TableThenWindow s (acceptBeacon b zones s) :=
  ⟨putPeer b s, .one (.put b s running fits.1 fits.2 other room), WindowPart.takes _ _ _⟩

theorem dropBeacon_parts (b : Beacon) (s : State) : TableThenWindow s (dropBeacon b s) := by
  have stands : Moves tableOwnF s (setOverflow (some (s.now + 3 * s.period * 1000)) s) := .one (.overflow _ s)
  unfold dropBeacon
  exact .ite (fun _ => .table stands) fun _ =>
    ⟨_, stands, .noted _ _ _⟩

theorem unknownStation_parts {b : Beacon} {s : State} (running : s.running = true)
    (fits : b.claims.length ≤ 8 ∧ (b.claims.map Claim.zone).Nodup) (other : b.station ≠ s.ownNumber) :
    TableThenWindow s (unknownStation b s) := by
  unfold unknownStation
  refine .ite (fun _ => .ite (fun room => acceptBeacon_parts _ running fits other (.inl room)) fun _ => ?_)
    fun _ => .table .refl
  split
  · rename_i n found
    exact ⟨_, .one (.replace b n s running fits.1 fits.2 other (evictable_spec found)), WindowPart.takes _ _ _⟩
  · exact dropBeacon_parts b s

theorem takeContent_parts (frame : List Byte) {s : State} (running : s.running = true) :
    TableThenWindow s (takeContent frame s) := by
  unfold takeContent
  split
  · exact .table (.one (.radioBad s))
  · rename_i b parsed
    have fits := parseBeacon_fits parsed
    refine .ite (fun _ => .table (.one (.notice _ s))) fun other => ?_
    split
    · rename_i p found
      unfold knownStation
      exact .ite (fun _ => acceptBeacon_parts _ running fits other (.inr ⟨p, findPeer_spec found⟩))
        fun _ => .table .refl
    · exact unknownStation_parts running fits other

theorem takeInstant_parts {s : State} (running : s.running = true) : TableThenWindow s (takeInstant s) := by
  have next : Moves tableOwnF s (setNextTake (s.table.nextTake.map (· + takePeriod)) s) := .one (.nextTake _ s)
  unfold takeInstant
  dsimp only
  split
  · exact .table next
  · rename_i frame rest queue
    have taken : Moves tableOwnF (setNextTake (s.table.nextTake.map (· + takePeriod)) s)
        (setRadio { s.radio with queue := rest } (setNextTake (s.table.nextTake.map (· + takePeriod)) s)) := by
      refine .one (.radio _ _ ?_ rfl fun _ silent => silent)
      show rest <:+ s.radio.queue
      rw [queue]
      exact List.suffix_cons _ _
    have both := next.trans taken
    exact .behind (takeContent_parts frame (s := setRadio { s.radio with queue := rest }
      (setNextTake (s.table.nextTake.map (· + takePeriod)) s)) running) both

theorem peerStale_parts (n : Nat) (s : State) : TableThenWindow s (peerStale n s) := by
  unfold peerStale
  split
  · exact .table .refl
  · exact ⟨_, .one (.age n s), .reeval _ _⟩

theorem peerLost_parts (n : Nat) (s : State) : TableThenWindow s (peerLost n s) := by
  unfold peerLost
  split
  · exact .table .refl
  · exact ⟨_, .one (.drop n s), .noted _ _ _⟩

theorem tableMove_parts {s t : State} (move : TableMove s t) : TableThenWindow s t := by
  cases move with
  | take _ running => exact takeInstant_parts running
  | stale n => exact peerStale_parts n s
  | lost n => exact peerLost_parts n s
  | clear => exact ⟨_, .one (.overflow none s), .reeval _ _⟩

theorem tableMove_moves {s t : State} (move : TableMove s t) : Moves tableF s t := (tableMove_parts move).moves

/-! ### The owners of the commands -/

abbrev ownerPlainF : List Flag :=
  [.commit, .reeval, .occupy, .conflict, .full, .overrun, .horizon, .ceiling, .word, .release, .needs, .remove, .announce,
    .list, .revive, .station, .radio, .air, .port, .append, .profiles, .clear, .standing]

abbrev ownerF : List Flag := .cells :: .giveUp :: .tick :: .retune :: ownerPlainF

theorem isCarrier_of_cls {s : State} (h : s.cls = .carrier) : s.isCarrier = true := by simp [State.isCarrier, h]
theorem isFixed_of_cls {s : State} (h : s.cls = .fixed) : s.isCarrier = false := by simp [State.isCarrier, h]

theorem isNeeded_startOccupants {s : State} {z : Nat}
    (zone : z ∈ firstOccurrences (s.route.cells.flatMap (fun c => c.cell.zones))) : isNeeded z s.route.cells = true := by
  rw [mem_firstOccurrences] at zone
  obtain ⟨c, hc, hz⟩ := List.mem_flatMap.mp zone
  exact isNeeded_of_mem hc hz

/-- The fresh flag falls at the end of LISTEN (R174). -/
theorem stale_moves (s : State) : Moves (.cells :: ownerPlainF) s (setRadio { s.radio with fresh := false } s) :=
  .one (.radio _ s (List.suffix_refl _) rfl fun _ silent => silent)

theorem startOccupants_moves (x : Int) (cells : List RouteCell) {s : State} (carrier : s.isCarrier = true)
    (listening : s.station.state = .listen) :
    Moves occupyF (deliverNeeds (layStart x (layCells 0 cells) s))
      (startOccupants (deliverNeeds (layStart x (layCells 0 cells) s))) := by
  have inner := deliverNeeds_inner (layStart x (layCells 0 cells) s)
  refine occupantClaims_moves (.inr (.inr ?_)) (fun z => isNeeded_startOccupants) (by rw [inner.isCarrier]; exact carrier)
  rw [inner.station]
  show s.station.state ≠ .active
  rw [listening]
  decide

theorem startLaid_moves {x : Int} {cells : List RouteCell} {s : State} (carrier : s.isCarrier = true)
    (listening : s.station.state = .listen) (few : cells.length ≤ 4) (inRange : ∀ c ∈ cells, c.inRange = true) :
    Moves (.cells :: ownerPlainF) s (startLaid x (layCells 0 cells) s) := by
  have occupied := startOccupants_moves x cells carrier listening
  exact (Moves.one (.lay x cells s carrier (running_of_state (.inl listening)) few inRange)).trans
    (((deliverNeeds_moves _).mono (by decide)).trans ((occupied.mono (by decide)).trans
      (((listingTest_moves _).mono (by decide)).trans (.one (.horizon _)))))

theorem startLaid_station (x : Int) (cells : List StoredCell) (s : State) : (startLaid x cells s).station = s.station :=
  (startLaid_inner x cells s).station

theorem markStarted_state (s : State) : (markStarted s).station.state = s.station.state := rfl

theorem markStarted_running {x : Int} {cells : List StoredCell} {s : State} (listening : s.station.state = .listen) :
    (markStarted (startLaid x cells s)).running = true := by
  refine running_of_state (.inl ?_)
  rw [markStarted_state, startLaid_station]
  exact listening

/-- A new route is laid, and the station enters ACTIVE behind it when its timer has run out (R176). -/
theorem applyStart_parts {x : Int} {cells : List RouteCell} {s : State} (carrier : s.isCarrier = true)
    (listening : s.station.state = .listen) (few : cells.length ≤ 4) (inRange : ∀ c ∈ cells, c.inRange = true) :
    (∃ v, Moves (.cells :: ownerPlainF) s v ∧ v.running = true ∧ applyStart x (layCells 0 cells) s = enterActive v) ∨
      Moves (.cells :: ownerPlainF) s (applyStart x (layCells 0 cells) s) := by
  have marked : Moves (.cells :: ownerPlainF) s (markStarted (startLaid x (layCells 0 cells) s)) :=
    (startLaid_moves carrier listening few inRange).trans (.one (.mark _))
  have running : (markStarted (startLaid x (layCells 0 cells) s)).running = true := markStarted_running listening
  rw [applyStart_eq]
  split
  · generalize markStarted (startLaid x (layCells 0 cells) s) = m at marked running
    exact .inl ⟨_, marked.trans (stale_moves m), running, enterActiveFromListen_eq m⟩
  · exact .inr marked

theorem applyStart_moves {x : Int} {cells : List RouteCell} {s : State} (carrier : s.isCarrier = true)
    (listening : s.station.state = .listen) (few : cells.length ≤ 4) (inRange : ∀ c ∈ cells, c.inRange = true) :
    Moves ownerF s (applyStart x (layCells 0 cells) s) := by
  obtain ⟨v, moves, running, eq⟩ | moves := applyStart_parts (x := x) carrier listening few inRange
  · rw [eq]
    exact (moves.mono (by decide)).trans ((enterActive_moves running).mono (by decide))
  · exact moves.mono (by decide)

theorem giveUpStanding_moves {s : State} (fixed : s.isCarrier = false) : Moves (.giveUp :: ownerPlainF) s (giveUpStanding s) := by
  rw [giveUpStanding_eq]
  refine (Moves.one (.giveUp s fixed)).trans ((Moves.one (.remove _ _ fun carrier => ?_)).trans
    ((releaseEntries_moves _ _).mono (by decide)))
  exact nomatch carrier.symm.trans fixed

theorem parkSchedule_station (s : State) : (parkSchedule s).station = s.station := by
  unfold parkSchedule
  split <;> rfl

theorem parkStopped_idle (s : State) : (parkStopped s).station.state ≠ .active := by
  unfold parkStopped
  rw [(sendWord_inner _ _).station]
  show (parkBase s).station.state ≠ .active
  unfold parkBase
  rw [parkSchedule_station]
  exact nofun

theorem applyPark_moves {s : State} (active : s.station.state = .active) : Moves (.giveUp :: ownerPlainF) s (applyPark s) := by
  have cls : (parkBase s).isCarrier = s.isCarrier := by
    unfold State.isCarrier State.cls parkBase
    rw [parkSchedule_station]
    rfl
  rw [applyPark_eq]
  refine .ite (fun carrier => (Moves.one (.park s active (cls ▸ carrier))).trans
    ((giveUpAhead_moves (parkStopped_idle s)).mono (by decide))) fun fixed => ?_
  exact (Moves.one (.parkFixed s active (cls ▸ Bool.eq_false_iff.mpr fixed))).trans
      (giveUpStanding_moves (Bool.eq_false_iff.mpr fixed))

theorem applyCut_moves (kept : Nat) (s : State) : Moves (.cells :: ownerPlainF) s (applyCut kept s) := by
  unfold applyCut
  exact .ite (fun _ => (Moves.one (.cut kept s)).trans (((deliver_moves _).mono (by decide)).trans
    ((immediateRecompute_moves _).mono (by decide)))) fun _ => .refl

theorem applyStanding_moves {rs : List Standing} {s : State} (fixed : s.isCarrier = false) (running : s.running = true)
    (empty : s.window.entries = []) (few : rs.length ≤ 8) (differ : (rs.map Standing.zone).Nodup) :
    Moves ownerPlainF s (applyStanding rs s) := by
  rw [applyStanding_eq]
  exact (Moves.one (.standing rs s fixed empty few differ running)).trans
    ((Moves.foldl (P := fun _ _ => True) (fun s _ _ => .one (.urgent s)) (fun _ _ _ _ => trivial) rs _
      fun _ _ => trivial).trans ((reevaluateZones_moves _ _).mono (by decide)))

theorem running_of_changeState_active (s : State) : (changeState .active s).running = true := rfl

/-- What the owner of a command does: plain moves; an entry into ACTIVE behind them; a new route, a cut, standing claims
given up, PARK. -/
inductive OwnerResult (s : State) : State → Prop
  | plain {t : State} (moves : Moves ownerPlainF s t) : OwnerResult s t
  | active {v : State} (moves : Moves ownerPlainF s v) (running : v.running = true) : OwnerResult s (enterActive v)
  | start (x : Int) (cells : List RouteCell) (carrier : s.isCarrier = true) (listening : s.station.state = .listen)
      (few : cells.length ≤ 4) (inRange : ∀ c ∈ cells, c.inRange = true) :
      OwnerResult s (applyStart x (layCells 0 cells) s)
  | cut (kept : Nat) (carrier : s.isCarrier = true) : OwnerResult s (applyCut kept s)
  | giveUp (fixed : s.isCarrier = false) : OwnerResult s (giveUpStanding s)
  | park (active : s.station.state = .active) : OwnerResult s (applyPark s)

theorem OwnerResult.moves {s t : State} (result : OwnerResult s t) : Moves ownerF s t := by
  cases result with
  | plain moves => exact moves.mono (by decide)
  | active moves running => exact (moves.mono (by decide)).trans ((enterActive_moves running).mono (by decide))
  | start x cells carrier listening few inRange => exact applyStart_moves carrier listening few inRange
  | cut kept => exact (applyCut_moves kept s).mono (by decide)
  | giveUp fixed => exact (giveUpStanding_moves fixed).mono (by decide)
  | park active => exact (applyPark_moves active).mono (by decide)

theorem owner_result {h : Handler} (owner : Owner h) (s : State) : OwnerResult s (h s).1 := by
  cases owner with
  | startPosition p =>
    refine classHandler_fst (.plain .refl) fun _ carrier => ?_
    split
    · exact .plain .refl
    · rename_i x cells parsed
      split
      · exact .plain .refl
      · rename_i listening
        split
        · exact .plain .refl
        · rename_i good
          dsimp only
          split
          · exact .plain .refl
          · exact .start x cells (isCarrier_of_cls carrier) (by simpa using listening) (parseStart_length parsed).2
              (firstBadCell_none good)
  | routeAppend p =>
    refine classHandler_fst (.plain .refl) fun running carrier => ?_
    split
    · exact .plain .refl
    · rename_i cells parsed
      split
      · exact .plain .refl
      · rename_i stored
        split
        · exact .plain .refl
        · rename_i good
          split
          · exact .plain .refl
          · rename_i few
            exact .plain ((Moves.one (.append cells s (isCarrier_of_cls carrier) running (by simpa using stored)
              (firstBadCell_none good) (by simpa [maxCells] using few))).trans ((deliver_moves _).mono (by decide)))
  | routeCut p =>
    refine classHandler_fst (.plain .refl) fun _ carrier => ?_
    split
    · split
      · exact .plain .refl
      · exact .cut _ (isCarrier_of_cls carrier)
    · exact .plain .refl
  | proceed p =>
    refine classHandler_fst (.plain .refl) fun _ _ => ?_
    split
    · split
      · exact .plain .refl
      · exact .plain (.one (.releaseStop _ s))
    · exact .plain .refl
  | loadState p =>
    refine classHandler_fst (.plain .refl) fun _ _ => ?_
    split
    · split
      · exact .plain (.one (.pendingIx _ s))
      · exact .plain .refl
    · exact .plain .refl
  | profileSet p =>
    refine classHandler_fst (.plain .refl) fun _ _ => ?_
    split
    · exact .plain .refl
    · split
      · exact .plain .refl
      · rename_i parked
        exact .plain (.one (.profile _ _ s (by simpa using parked)))
  | park =>
    unfold parkHandler
    split
    · exact .plain .refl
    · rename_i active
      split
      · exact .plain .refl
      · exact .park (by simpa using active)
  | unpark =>
    unfold unparkHandler
    split
    · exact .plain .refl
    · rename_i parked
      have running : s.running = true := running_of_state (.inr (.inr (by simpa using parked)))
      have scheduled : (unparkSchedule (changeState .active s)).running = true := by
        unfold State.running
        rw [unparkSchedule_station]
        rfl
      exact .active ((Moves.one (.active s running)).trans ((unparkSchedule_moves rfl).mono (by decide))) scheduled
  | resume =>
    unfold resumeHandler
    split
    · exact .plain .refl
    · split
      · exact .plain .refl
      · split
        · exact .plain .refl
        · exact .plain ((Moves.one (.clearConflicts s)).trans (.one (.clearOverrun _)))
  | yieldZone p =>
    refine classHandler_fst (.plain .refl) fun _ _ => ?_
    split
    · dsimp only
      split
      · exact .plain .refl
      · split
        · split
          · exact .plain .refl
          · exact .plain ((yieldAtCommand_moves _ s).mono (by decide))
        all_goals exact .plain .refl
    · exact .plain .refl
  | standClaim p =>
    refine classHandler_fst (.plain .refl) fun running fixed => ?_
    split
    · exact .plain .refl
    · rename_i rs parsed
      split
      · exact .plain .refl
      · split
        · exact .plain .refl
        · rename_i empty
          obtain ⟨-, few, -, differ⟩ := parseStanding_fits parsed
          exact .plain (applyStanding_moves (isFixed_of_cls fixed) running (by simpa using empty) few differ)
  | standRelease => exact classHandler_fst (.plain .refl) fun _ fixed => .giveUp (isFixed_of_cls fixed)
  | commit =>
    refine classHandler_fst (.plain .refl) fun _ _ => ?_
    split
    · exact .plain .refl
    · exact .plain (.ite (fun _ => .one (.commitStanding s))
        fun _ => (Moves.one (.commitStanding s)).trans (.one (.urgent _)))
  | statusQuery =>
    unfold statusQueryHandler
    split
    · exact .plain .refl
    · exact .plain (.one (.askReport s))
  | restart => exact .plain (.one (.askRestart s))

theorem owner_moves {h : Handler} (owner : Owner h) (s : State) : Moves ownerF s (h s).1 := (owner_result owner s).moves

end Sys2Proof.Machine
end

section
/-! A step is a chain of moves, and what every move keeps, every step keeps: the bounds of the window, of the table, of the
conflict list and of the counts. -/

namespace Sys2Proof.Machine

-- One proof after another: many at a time want more threads than the memory limit of a build leaves.
set_option Elab.async false


/-- The kinds of the moves of plain work: all but a new route, a shift of the datum, standing claims given up, a change of
profile in ACTIVE and a first conflict. -/
abbrev plainF : List Flag :=
  [.commit, .reeval, .announce, .occupy, .list, .revive, .release, .yield, .remove, .needs, .settle, .report, .waits,
    .completes, .air, .standing, .conflict, .overrun, .ceiling, .full, .horizon, .lost, .append, .station, .odo, .radio,
    .port, .profiles, .clear, .word, .reset]

/-- The kinds of the moves of everything but the Neighbour Table. -/
abbrev quietF : List Flag := .cells :: .shift :: .giveUp :: .retune :: .firstConflict :: .tick :: plainF

theorem ticks_iff {s : State} : ticks s = true ↔ s.isCarrier = true ∧ s.station.state = .active := by
  unfold ticks
  simp

/-- A quiet move as its whole: plain moves, an authority tick, an entry into ACTIVE, a sample, a command. -/
inductive QuietWhole (s : State) : State → Prop
  | plain {t : State} (moves : Moves plainF s t) : QuietWhole s t
  | tick (carrier : s.isCarrier = true) (active : s.station.state = .active) : QuietWhole s (authorityTickWork s)
  | active {v : State} (moves : Moves plainF s v) (running : v.running = true) : QuietWhole s (enterActive v)
  | sample (pA pB : Nat) (carrier : s.isCarrier = true) (running : s.running = true) : QuietWhole s (sampleWork pA pB s)
  | handled (kind : Byte) {h : Handler} (owner : Owner h) (room : s.port.replies.length < 4) :
      QuietWhole s (queueReply kind (h s).2 (h s).1)

theorem listenExpired_whole {s : State} (listening : s.station.state = .listen) : QuietWhole s (listenExpired s) := by
  unfold listenExpired
  split
  · have stale : Moves plainF s (setRadio { s.radio with fresh := false } s) :=
      .one (.radio _ s (List.suffix_refl _) rfl fun _ silent => silent)
    exact .active stale (running_of_state (.inl listening))
  · exact .plain (.one (.listenTimer .expired s))

theorem quiet_whole {s t : State} (move : Quiet s t) : QuietWhole s t := by
  cases move with
  | reach t => exact .plain (.one (.reach t s))
  | finish => exact .plain (.one (.finish s))
  | powerOn => exact .plain (.one (.powerOn s))
  | restart cause => exact .plain (.one (.restart cause s))
  | hold reason stands => exact .plain (.one (.hold reason stands s))
  | release => exact .plain (.one (.runs s))
  | configRead w => exact .plain ((configRead_moves w s).mono (by decide))
  | listenExpired _ listening => exact listenExpired_whole listening
  | handled kind _ owner room => exact .handled kind owner room
  | replied kind a _ room => exact .plain (.one (.replied kind a s room))
  | inbound a g => exact .plain (.one (.inbound a g s))
  | portBad => exact .plain (.one (.portBad s))
  | lineFree => exact .plain (.one (.freeLine s))
  | statusExpiry => exact .plain (.one (.statusExpiry s))
  | sample pA pB _ carrier running => exact .sample pA pB carrier running
  | marker ident pA pB _ carrier running => exact .plain ((markerWork_moves ident pA pB s).mono (by decide))
  | assembler a g _ guard =>
    refine .plain (.one (.radio { s.radio with rx := a, rxGap := g } s (List.suffix_refl _) rfl fun stops silent => ?_))
    obtain ⟨tx, slot, next, -⟩ := silent
    exact ⟨tx, slot, next, guard.resolve_left (by rw [stops]; decide)⟩
  | radioBad => exact .plain (.one (.radioBad s))
  | frame bytes _ running => exact .plain (.one (.frame bytes s running))
  | settle z => exact .plain ((settleExpires_moves z s).mono (by decide))
  | gridlock z => exact .plain ((gridlockOut_moves z s).mono (by decide))
  | output => exact .plain (.one (.output s))
  | tick _ ticking =>
    obtain ⟨carrier, active⟩ := ticks_iff.mp ticking
    exact .tick carrier active
  | refresh _ idle => exact .plain ((outputRefreshWork_moves idle).mono (by decide))
  | word => exact .plain ((wordComplete_moves s).mono (by decide))
  | nominal n _ due => exact .plain ((nominalWork_moves due).mono (by decide))
  | placement n _ due => exact .plain ((placeScheduled_moves due).mono (by decide))
  | beaconDue clear => exact .plain ((beaconDueNow_moves clear s).mono (by decide))
  | frameComplete x _ sending => exact .plain ((frameCompletes_moves sending).mono (by decide))
  | tailEnd => exact .plain ((tailEnds_moves s).mono (by decide))

theorem QuietWhole.moves {s t : State} (whole : QuietWhole s t) : Moves quietF s t := by
  cases whole with
  | plain moves => exact moves.mono (by decide)
  | tick carrier active => exact (authorityTickWork_moves carrier active).mono (by decide)
  | active moves running => exact (moves.mono (by decide)).trans ((enterActive_moves running).mono (by decide))
  | sample pA pB => exact (sampleWork_moves pA pB s).mono (by decide)
  | handled kind owner room =>
    have handled := (owner_moves owner s).mono (G := quietF) (by decide)
    exact handled.trans (.one (.replied kind _ _ (by rw [(owner_within owner s).replies]; exact room)))

theorem quiet_moves {s t : State} (move : Quiet s t) : Moves quietF s t := (quiet_whole move).moves

/-- What every move keeps, every step keeps. -/
theorem step_keeps_of_moves {I : State → Prop} (queue : ∀ q s, I s → I (s.withPending q))
    (each : ∀ f s t, Move f s t → I s → I t) {s u : State} (start : I s) (h : step s = .next u) : I u :=
  step_keeps queue (fun _ _ move => (quiet_moves move).keeps fun f s t _ => each f s t)
    (fun _ _ move => (tableMove_moves move).keeps fun f s t _ => each f s t) start h

end Sys2Proof.Machine
end

section
/-! What each move does to the entries of the Claim Window, said once: which moves leave them, and for the others where each
entry of the later state comes from. -/

namespace Sys2Proof.Machine

-- One proof after another: many at a time want more threads than the memory limit of a build leaves.
set_option Elab.async false


/-- The kinds of the moves that change entries. -/
abbrev entryF : List Flag :=
  [.commit, .reeval, .announce, .occupy, .list, .revive, .release, .yield, .remove, .needs, .settle, .report, .waits,
    .completes, .air, .standing, .giveUp, .reset]

/-- A commit of every HELD entry of a standing claim (R149). -/
def ClaimEntry.commitIn (zones : List Nat) (e : ClaimEntry) : ClaimEntry :=
  if e.state = .held && zones.contains e.zone then e.commit else e

/-- An entry of the later state, by what made it of an entry of the earlier state. -/
inductive Origin (s : State) : Flag → ClaimEntry → Prop
  | kept {f : Flag} (e : ClaimEntry) (member : e ∈ s.window.entries) : Origin s f e
  | commit (e : ClaimEntry) (member : e ∈ s.window.entries) (x : ClaimEntry) (found : findEntry e.zone s = some x)
      (held : x.state = .held) : Origin s .commit e.commit
  | block (e : ClaimEntry) (member : e ∈ s.window.entries) (x : ClaimEntry) (found : findEntry e.zone s = some x)
      (announced : x.state = .announced) : Origin s .reeval (e.block s.now (holdStands s e.zone))
  | track (e : ClaimEntry) (member : e ∈ s.window.entries) (x : ClaimEntry) (found : findEntry e.zone s = some x)
      (waiting : x.state = .waiting) : Origin s .reeval (e.trackBlock s.now (holdStands s e.zone))
  | unblock (e : ClaimEntry) (member : e ∈ s.window.entries) (x : ClaimEntry) (found : findEntry e.zone s = some x)
      (waiting : x.state = .waiting) : Origin s .reeval (e.unblock s.now (settleLength s))
  | grant (e : ClaimEntry) (member : e ∈ s.window.entries) (x : ClaimEntry) (found : findEntry e.zone s = some x)
      (announced : x.state = .announced) (free : isBlocked s x = false) : Origin s .reeval e.grant
  | announce (e : ClaimEntry) (member : e ∈ s.window.entries)
      (queued : windowFits s.window → ∃ x, findEntry e.zone s = some x ∧ x.state = .queued) :
      Origin s .announce (e.announceFirst s.now (settleLength s))
  | occupy (e : ClaimEntry) (member : e ∈ s.window.entries) (needed : isNeeded e.zone s.route.cells = true)
      (carrier : s.isCarrier = true) : Origin s .occupy e.occupy
  | occupyNew (z : Nat) (needed : isNeeded z s.route.cells = true) (carrier : s.isCarrier = true) :
      Origin s .occupy (entryFor z s.route.cells).occupy
  | list (z : Nat) (needed : isNeeded z s.route.cells = true) (runs : listingRuns s = true) :
      Origin s .list (entryFor z s.route.cells)
  | revive (e : ClaimEntry) (member : e ∈ s.window.entries) (x : ClaimEntry) (found : findEntry e.zone s = some x)
      (releasing : x.state = .releasing) (can : canRevive e.zone x s = true) (needed : isNeeded e.zone s.route.cells = true)
      (runs : listingRuns s = true) : Origin s .revive (e.revive s.route.cells)
  | release (e : ClaimEntry) (member : e ∈ s.window.entries) : Origin s .release e.release
  | yield (e : ClaimEntry) (member : e ∈ s.window.entries) (x : ClaimEntry) (found : findEntry e.zone s = some x)
      (held : x.state = .held) : Origin s .yield (e.yieldTo s.now)
  | needs (e : ClaimEntry) (member : e ∈ s.window.entries) : Origin s .needs (e.updateNeeds s.route.cells)
  | settle (e : ClaimEntry) (member : e ∈ s.window.entries) : Origin s .settle e.settled
  | report (e : ClaimEntry) (member : e ∈ s.window.entries) : Origin s .report e.reported
  | waits (e : ClaimEntry) (member : e ∈ s.window.entries) : Origin s .waits e.waitMore
  | completes (e : ClaimEntry) (member : e ∈ s.window.entries) : Origin s .completes e.completed
  | air (e : ClaimEntry) (member : e ∈ s.window.entries) : Origin s .air { e with air := e.airNow }
  | standing (r : Standing) (fixed : s.isCarrier = false) :
      Origin s .standing ((ClaimEntry.new r.zone r.urgency none none).announceFirst s.now (settleLength s))
  | commitStanding (e : ClaimEntry) (member : e ∈ s.window.entries) :
      Origin s .standing (e.commitIn (s.window.standing.map Standing.zone))

@[simp] theorem dropCeiling_window (s : State) : (dropCeiling s).window = s.window := by
  unfold dropCeiling
  split
  · rw [sendWord_window]; rfl
  · rfl

@[simp] theorem overrunCause_window (s : State) : (overrunCause s).window = s.window := by
  unfold overrunCause
  split
  · rfl
  · rw [dropCeiling_window]; rfl

@[simp] theorem recordConflict_entries (z n : Nat) (s : State) :
    (recordConflict z n s).window.entries = s.window.entries := by
  unfold recordConflict
  dsimp only
  split
  · rw [raiseNotice_window]
  · rfl

@[simp] theorem tickCeiling_window (s : State) : (tickCeiling s).window = s.window := sendWord_window _ _

@[simp] theorem parkSchedule_window (s : State) : (parkSchedule s).window = s.window := by
  unfold parkSchedule
  split <;> rfl

@[simp] theorem parkBase_window (s : State) : (parkBase s).window = s.window := parkSchedule_window _

@[simp] theorem parkStopped_window (s : State) : (parkStopped s).window = s.window := by
  unfold parkStopped
  rw [sendWord_window]
  exact parkBase_window s

theorem limitLost_window (s : State) : (limitLost s).window = s.window := by
  unfold limitLost
  split
  · rw [sendWord_window]; rfl
  · rfl

@[simp] theorem fallToLost_window (s : State) : (fallToLost s).window = s.window := by
  unfold fallToLost
  split
  · rfl
  · rw [limitLost_window, raiseNotice_window]; rfl

@[simp] theorem recordConflict_standing (z n : Nat) (s : State) :
    (recordConflict z n s).window.standing = s.window.standing := by
  unfold recordConflict
  dsimp only
  split
  · rw [raiseNotice_window]
  · rfl

@[simp] theorem listenBase_window (w : ConfigWord) (s : State) : (listenBase w s).window = s.window := rfl

@[simp] theorem enqueueFrame_window (bytes : List Byte) (s : State) : (enqueueFrame bytes s).window = s.window := by
  unfold enqueueFrame
  split <;> rfl

@[simp] theorem clearOverrun_window (s : State) : (clearOverrun s).window = s.window := by
  unfold clearOverrun
  split <;> rfl

/-- The other moves leave the entries and the standing claims. -/
theorem Move.entries_same {f : Flag} {s t : State} (m : Move f s t) (other : f ∉ entryF) :
    t.window.entries = s.window.entries ∧ t.window.standing = s.window.standing := by
  cases m
  all_goals first
    | exact absurd (by decide) other
    | exact ⟨rfl, rfl⟩
    | simp

theorem mem_modifyEntry {z : Nat} {f : ClaimEntry → ClaimEntry} {s : State} {e : ClaimEntry}
    (member : e ∈ (modifyEntry z f s).window.entries) :
    (∃ x ∈ s.window.entries, x.zone = z ∧ e = f x) ∨ e ∈ s.window.entries := by
  obtain ⟨x, hx, rfl⟩ := List.mem_map.mp member
  by_cases zone : x.zone = z
  · exact .inl ⟨x, hx, zone, by simp [zone]⟩
  · exact .inr (by simpa [zone] using hx)

theorem mem_addEntry {x e : ClaimEntry} {s : State} (member : e ∈ (addEntry x s).window.entries) :
    e = x ∨ e ∈ s.window.entries := by
  simpa using (addEntry_perm x s).mem_iff.mp member

theorem reorder_perm (s : State) : (reorder s).window.entries.Perm s.window.entries := by
  unfold reorder
  split
  · exact orderEntries_perm _ _
  · exact .refl _

theorem restartPart_entries (cause : ResetCause) (s : State) : (restartPart cause s).window.entries = [] := rfl

/-- Where each entry comes from. -/
theorem Move.origin {f : Flag} {s t : State} (m : Move f s t) {e : ClaimEntry} (member : e ∈ t.window.entries) :
    Origin s f e := by
  by_cases other : f ∉ entryF
  · exact .kept e ((m.entries_same other).1 ▸ member)
  have modified {z : Nat} {g : ClaimEntry → ClaimEntry} {k : Flag} (h : e ∈ (modifyEntry z g s).window.entries)
      (made : ∀ x ∈ s.window.entries, x.zone = z → Origin s k (g x)) : Origin s k e := by
    obtain ⟨x, hx, zone, rfl⟩ | hx := mem_modifyEntry h
    · exact made x hx zone
    · exact .kept e hx
  have mapped {g : ClaimEntry → ClaimEntry} {k : Flag} (h : e ∈ s.window.entries.map g)
      (made : ∀ x ∈ s.window.entries, Origin s k (g x)) : Origin s k e := by
    obtain ⟨x, hx, rfl⟩ := List.mem_map.mp h
    exact made x hx
  cases m with
  | commit z _ x found held => exact modified member fun y hy zone => .commit y hy x (zone ▸ found) held
  | block z _ x found announced =>
    exact modified member fun y hy zone => by subst zone; exact .block y hy x found announced
  | track z _ x found waiting =>
    exact modified member fun y hy zone => by subst zone; exact .track y hy x found waiting
  | unblock z _ x found waiting => exact modified member fun y hy zone => .unblock y hy x (zone ▸ found) waiting
  | grant z _ x found announced free =>
    exact modified member fun y hy zone => .grant y hy x (zone ▸ found) announced free
  | announce z _ queued => exact modified member fun y hy zone => .announce y hy fun fits => zone ▸ queued fits
  | occupy z _ x found unheld needed carrier =>
    exact modified member fun y hy zone => .occupy y hy (zone ▸ needed) carrier
  | occupyNew z _ absent room needed carrier =>
    obtain rfl | hx := mem_addEntry member
    · exact .occupyNew z needed carrier
    · exact .kept e hx
  | list z _ absent room needed runs =>
    obtain rfl | hx := mem_addEntry member
    · exact .list z needed runs
    · exact .kept e hx
  | revive z _ x found releasing can needed runs =>
    exact modified member fun y hy zone => by subst zone; exact .revive y hy x found releasing can needed runs
  | reorder => exact .kept e ((reorder_perm s).mem_iff.mp member)
  | release z => exact modified (by simpa using member) fun y hy _ => .release y hy
  | surrender z => exact modified (by simpa using member) fun y hy _ => .release y hy
  | yield z n _ x found held =>
    exact modified (by simpa using member) fun y hy zone => .yield y hy x (zone ▸ found) held
  | remove zs => exact .kept e ((List.mem_filter.mp member).1)
  | needs => exact mapped ((orderEntries_perm _ _).mem_iff.mp member) fun y hy => .needs y hy
  | settle z => exact modified member fun y hy _ => .settle y hy
  | report z => exact modified member fun y hy _ => .report y hy
  | waits => exact mapped member fun y hy => .waits y hy
  | completes => exact mapped member fun y hy => .completes y hy
  | air b gap => exact mapped member fun y hy => .air y hy
  | standing rs _ fixed =>
    obtain ⟨r, -, rfl⟩ := List.mem_map.mp member
    exact .standing r fixed
  | giveUp => exact .kept e member
  | commitStanding => exact mapped member fun y hy => .commitStanding y hy
  | finish => exact .kept e (by simpa using member)
  | powerOn => exact nomatch member
  | restart cause => rw [restartPart_entries] at member; exact nomatch member
  | reach | hold => exact .kept e member
  | runs =>
    refine .kept e ?_
    unfold releaseReset at member
    split at member <;> exact member
  | _ => exact absurd (by decide) other

end Sys2Proof.Machine
end

section
/-! The bounds of the Claim Window and the committed marks (O52). -/

namespace Sys2Proof.Machine

-- One proof after another: many at a time want more threads than the memory limit of a build leaves.
set_option Elab.async false


/-! ### Zones under the moves -/

theorem modifyEntry_windowFits {z : Nat} {f : ClaimEntry → ClaimEntry} (hf : KeepsZone f) {s : State}
    (fits : windowFits s.window) : windowFits (modifyEntry z f s).window :=
  (windowFits_congr (modifyEntry_zones hf z s) rfl).mpr fits

theorem windowFits_of_sublist {s t : State} (zones : (windowZones t).Sublist (windowZones s))
    (standing : t.window.standing = s.window.standing) (fits : windowFits s.window) : windowFits t.window := by
  obtain ⟨few, differ, standingFew⟩ := fits
  refine ⟨?_, differ.sublist zones, standing ▸ standingFew⟩
  have shorter := zones.length_le
  simp only [windowZones, List.length_map] at shorter
  exact Nat.le_trans shorter few

theorem windowFits_of_perm {s t : State} (zones : (windowZones t).Perm (windowZones s))
    (standing : t.window.standing = s.window.standing) (fits : windowFits s.window) : windowFits t.window := by
  obtain ⟨few, differ, standingFew⟩ := fits
  refine ⟨?_, zones.nodup_iff.mpr differ, standing ▸ standingFew⟩
  have same := zones.length_eq
  simp only [windowZones, List.length_map] at same
  exact Nat.le_trans (Nat.le_of_eq same) few

theorem windowFits_map {f : ClaimEntry → ClaimEntry} (hf : KeepsZone f) {s t : State}
    (entries : t.window.entries = s.window.entries.map f) (standing : t.window.standing = s.window.standing)
    (fits : windowFits s.window) : windowFits t.window := by
  refine (windowFits_congr ?_ standing).mpr fits
  unfold windowZones
  rw [entries, List.map_map]
  exact List.map_congr_left fun e _ => hf e

theorem windowFits_add {e : ClaimEntry} {s : State} (absent : findEntry e.zone s = none)
    (room : s.window.entries.length < 8) (fits : windowFits s.window) : windowFits (addEntry e s).window := by
  obtain ⟨-, differ, standingFew⟩ := fits
  have perm := addEntry_perm e s
  refine ⟨by rw [perm.length_eq]; exact room, (perm.map _).nodup_iff.mpr ?_, standingFew⟩
  rw [List.map_cons, List.nodup_cons]
  refine ⟨fun member => ?_, differ⟩
  obtain ⟨x, hx, zone⟩ := List.mem_map.mp member
  exact findEntry_none.mp absent x hx zone

theorem occupy_entryFor_zone (z : Nat) (cells : List StoredCell) : (entryFor z cells).occupy.zone = z := occupy_zone _

theorem commitIn_zone (zones : List Nat) : KeepsZone (ClaimEntry.commitIn zones) := by
  intro e
  unfold ClaimEntry.commitIn
  split <;> rfl

theorem windowFits_empty {w : Window} (entries : w.entries = []) (standing : w.standing = []) : windowFits w := by
  unfold windowFits
  rw [entries, standing]
  decide

/-- The Claim Window keeps its places at every move. -/
theorem Move.windowFits {f : Flag} {s t : State} (m : Move f s t) (fits : windowFits s.window) : windowFits t.window := by
  by_cases other : f ∉ entryF
  · obtain ⟨entries, standing⟩ := m.entries_same other
    exact (windowFits_congr (congrArg (List.map ClaimEntry.zone) entries) standing).mpr fits
  have same {v : State} (window : v.window = s.window) : Machine.windowFits v.window := window ▸ fits
  cases m with
  | commit => exact modifyEntry_windowFits commit_zone fits
  | block => exact modifyEntry_windowFits (block_zone _ _) fits
  | track => exact modifyEntry_windowFits (trackBlock_zone _ _) fits
  | unblock => exact modifyEntry_windowFits (unblock_zone _ _) fits
  | grant => exact modifyEntry_windowFits grant_zone fits
  | announce => exact modifyEntry_windowFits (announceFirst_zone _ _) fits
  | occupy => exact modifyEntry_windowFits occupy_zone fits
  | occupyNew z _ absent room => exact windowFits_add (by rw [occupy_entryFor_zone]; exact absent) room fits
  | list z _ absent room => exact windowFits_add absent room fits
  | revive => exact modifyEntry_windowFits (revive_zone _) fits
  | reorder =>
    exact windowFits_of_perm ((reorder_perm s).map _) (reorder_inner s).standing fits
  | release z | surrender z =>
    simp only [giveWay_window, urgentRequest_window, raiseNotice_window]
    exact modifyEntry_windowFits release_zone fits
  | yield =>
    simp only [giveWay_window, urgentRequest_window, raiseNotice_window]
    exact modifyEntry_windowFits (yieldTo_zone _) fits
  | remove zs => exact windowFits_of_sublist (List.filter_sublist.map _) rfl fits
  | needs =>
    have updated := windowFits_map (t := setEntries (s.window.entries.map (ClaimEntry.updateNeeds s.route.cells)) s)
      (updateNeeds_zone _) rfl rfl fits
    exact windowFits_of_perm (s := setEntries (s.window.entries.map (ClaimEntry.updateNeeds s.route.cells)) s)
      ((orderEntries_perm _ _).map _) rfl updated
  | settle => exact modifyEntry_windowFits settled_zone fits
  | report => exact modifyEntry_windowFits reported_zone fits
  | waits => exact windowFits_map waitMore_zone rfl rfl fits
  | completes => exact windowFits_map completed_zone rfl rfl fits
  | air => exact windowFits_map (f := fun e => { e with air := e.airNow }) (fun _ => rfl) rfl rfl fits
  | standing rs _ _ _ few differ =>
    refine ⟨by simpa [standingBase] using few, ?_, few⟩
    simpa [standingBase, Function.comp_def, ClaimEntry.new, ClaimEntry.announceFirst] using differ
  | giveUp => exact ⟨fits.1, fits.2.1, Nat.zero_le 8⟩
  | commitStanding => exact windowFits_map (commitIn_zone _) rfl rfl fits
  | finish => exact same (finish_window s)
  | powerOn | restart => exact windowFits_empty rfl rfl
  | reach | hold => exact fits
  | runs =>
    unfold releaseReset
    split <;> exact fits
  | _ => exact absurd (by decide) other

/-! ### Marks -/

theorem occupy_state (e : ClaimEntry) : e.occupy.state = .held := by
  unfold ClaimEntry.occupy
  split
  · rfl
  · rfl
  · rfl
  · rfl
  · assumption

theorem occupy_committed (e : ClaimEntry) : e.occupy.committed = true := by
  unfold ClaimEntry.occupy
  split <;> rfl

theorem waitMore_state (e : ClaimEntry) : e.waitMore.state = e.state ∧ e.waitMore.committed = e.committed := by
  unfold ClaimEntry.waitMore
  split <;> exact ⟨rfl, rfl⟩

theorem completed_state (e : ClaimEntry) : e.completed.state = e.state ∧ e.completed.committed = e.committed := by
  unfold ClaimEntry.completed
  split <;> exact ⟨rfl, rfl⟩

/-- The entry that a move finds for the zone of an entry is that entry. -/
theorem found_eq {s : State} {e x : ClaimEntry} (fits : windowFits s.window) (member : e ∈ s.window.entries)
    (found : findEntry e.zone s = some x) : x = e :=
  Option.some.inj (found.symm.trans (findEntry_of_mem fits.2.1 member))

theorem Origin.marks {s : State} {f : Flag} {e : ClaimEntry} (origin : Origin s f e) (fits : windowFits s.window)
    (marks : marksHeld s) (marked : e.committed = true) : e.state = .held := by
  cases origin with
  | kept _ member => exact marks e member marked
  | commit e member x found held => rw [← found_eq fits member found]; exact held
  | block e member x found announced =>
    have held : e.state = .held := marks e member marked
    rw [← found_eq fits member found, announced] at held
    exact nomatch held
  | track e member => exact marks e member marked
  | unblock e member x found waiting =>
    have held : e.state = .held := marks e member marked
    rw [← found_eq fits member found, waiting] at held
    exact nomatch held
  | grant => rfl
  | announce e member queued =>
    have held : e.state = .held := marks e member marked
    obtain ⟨x, found, queued⟩ := queued fits
    rw [← found_eq fits member found, queued] at held
    exact nomatch held
  | occupy e => exact occupy_state e
  | occupyNew z => exact occupy_state _
  | revive => rfl
  | list | release | yield | standing => exact nomatch marked
  | needs e member | settle e member | report e member | air e member => exact marks e member marked
  | waits e member => rw [(waitMore_state e).1]; exact marks e member ((waitMore_state e).2 ▸ marked)
  | completes e member => rw [(completed_state e).1]; exact marks e member ((completed_state e).2 ▸ marked)
  | commitStanding e member =>
    unfold ClaimEntry.commitIn at marked ⊢
    split
    · rename_i guard
      simp only [Bool.and_eq_true, decide_eq_true_eq] at guard
      exact guard.1
    · rename_i guard
      rw [if_neg guard] at marked
      exact marks e member marked

theorem Move.windowInv {f : Flag} {s t : State} (m : Move f s t) (inv : windowInv s) : windowInv t :=
  ⟨m.windowFits inv.1, fun _ member marked => (m.origin member).marks inv.1 inv.2 marked⟩

/-- Settles O52, move by move. -/
theorem stepKeepsWindow : Obligations.StepKeepsWindow := by
  unfold Obligations.StepKeepsWindow
  exact fun s u start h => step_keeps_of_moves (I := Machine.windowInv) (fun _ _ h => h) (fun _ _ _ m => m.windowInv) start h

end Sys2Proof.Machine
end

section
/-! The kinds of moves that are inner operations, and the bounds of the Neighbour Table (O53). -/

namespace Sys2Proof.Machine

-- One proof after another: many at a time want more threads than the memory limit of a build leaves.
set_option Elab.async false


/-- The kinds of moves that leave all that an inner operation leaves. -/
abbrev innerF : List Flag :=
  [.free, .commit, .reeval, .announce, .occupy, .list, .revive, .release, .yield, .remove, .needs, .settle, .report, .waits,
    .completes, .conflict, .firstConflict, .overrun, .ceiling, .tick, .full, .horizon, .clear, .word]

theorem giveWay_inner (s : State) : Inner s (giveWay s) := by
  unfold giveWay
  exact .ite (lowerHorizon_inner s) (.refl s)

theorem setFull_inner (s : State) : Inner s (setFull s) :=
  ⟨rfl, rfl, rfl, rfl, rfl, rfl, rfl, rfl, rfl, rfl, rfl, List.prefix_refl _, id, rfl, rfl⟩

theorem wordDone_inner (s : State) : Inner s (wordDone s) :=
  ⟨rfl, rfl, rfl, rfl, rfl, rfl, rfl, rfl, rfl, rfl, rfl, List.prefix_refl _, id, rfl, rfl⟩

theorem Move.inner {f : Flag} {s t : State} (m : Move f s t) (kind : f ∈ innerF) : Inner s t := by
  cases m with
  | notice n => exact raiseNotice_inner n s
  | urgent => exact urgentRequest_inner s
  | word v => exact sendWord_inner v s
  | commit | block | track | unblock | grant | announce | occupy | revive | settle | report =>
    exact modifyEntry_inner _ _ s
  | occupyNew | list => exact addEntry_inner _ s
  | reorder => exact reorder_inner s
  | release z =>
    exact (modifyEntry_inner _ _ _).trans ((urgentRequest_inner _).trans (giveWay_inner _))
  | surrender z | yield z =>
    exact (modifyEntry_inner _ _ _).trans ((urgentRequest_inner _).trans
      ((raiseNotice_inner _ _).trans (giveWay_inner _)))
  | remove zs => exact removeZones_inner zs s
  | needs | waits | completes => exact setEntries_inner _ s
  | full => exact setFull_inner s
  | clearFull => exact clearFull_inner s
  | conflict z n | firstConflict z n => exact recordConflict_inner z n s
  | clearConflicts => exact clearConflicts_inner s
  | clearOverrun => exact clearOverrun_inner s
  | overrun => exact overrunCause_inner s
  | lower => exact lowerHorizon_inner s
  | horizon => exact setHorizon_inner _ s
  | ceiling v => exact setCeiling_inner v s
  | tick => exact tickCeiling_inner s
  | wordDone => exact wordDone_inner s
  | _ => exact absurd kind (by decide)

/-! ### The Neighbour Table -/

/-- The table's peers, the own number and whether the part runs are as they were. -/
structure TableSame (s t : State) : Prop where
  peers : t.table.peers = s.table.peers
  own : t.ownNumber = s.ownNumber
  running : t.running = s.running

theorem Inner.tableSame {s t : State} (h : Inner s t) : TableSame s t := ⟨by rw [h.table], h.ownNumber, h.running⟩

theorem TableSame.fits {s t : State} (same : TableSame s t) (fits : tableFits s) : tableFits t := by
  unfold tableFits
  rw [same.peers, same.own, same.running]
  exact fits

/-- A table none of whose stations is new, in a state of the same number. -/
theorem tableFits_of_stations {s t : State} (own : t.ownNumber = s.ownNumber) (running : t.running = s.running)
    (stations : (t.table.peers.map Peer.station).Sublist (s.table.peers.map Peer.station))
    (each : ∀ p ∈ t.table.peers, p.fits) (fits : tableFits s) : tableFits t := by
  obtain ⟨few, differ, -, other, empty⟩ := fits
  refine ⟨by simpa using Nat.le_trans stations.length_le (by simpa using few), differ.sublist stations, each, fun p hp => ?_,
    fun stops => ?_⟩
  · obtain ⟨q, hq, same⟩ := List.mem_map.mp (stations.subset (List.mem_map_of_mem hp))
    rw [← same, own]
    exact other q hq
  · have none := empty (running ▸ stops)
    rw [none] at stations
    simpa using stations

theorem tableFits_of_empty {s : State} (empty : s.table.peers = []) : tableFits s := by
  unfold tableFits
  rw [empty]
  simp

theorem putPeer_peers (b : Beacon) (s : State) :
    (putPeer b s).table.peers = s.table.peers.filter (fun p => p.station != b.station) ++ [b.peer (ownZones s) s.now] := rfl

/-- The newcomer's entry stands beside the others: the table then holds one more station than the others. -/
theorem putPeer_fits {b : Beacon} {s : State} (running : s.running = true) (few : b.claims.length ≤ 8)
    (differ : (b.claims.map Claim.zone).Nodup) (other : b.station ≠ s.ownNumber)
    (room : (s.table.peers.filter (fun p => p.station != b.station)).length < 24) (fits : tableFits s) :
    tableFits (putPeer b s) := by
  obtain ⟨-, stations, each, others, -⟩ := fits
  refine ⟨?_, ?_, ?_, ?_, fun stops => nomatch running.symm.trans stops⟩
  · rw [putPeer_peers, List.length_append]
    exact room
  · rw [putPeer_peers, List.map_append, List.nodup_append]
    refine ⟨stations.sublist (List.filter_sublist.map _), by simp, fun x hx y hy => ?_⟩
    obtain ⟨p, hp, rfl⟩ := List.mem_map.mp hx
    obtain rfl : y = b.station := by simpa [Beacon.peer] using hy
    simpa using (List.mem_filter.mp hp).2
  · intro p hp
    rw [putPeer_peers, List.mem_append, List.mem_singleton] at hp
    obtain hp | rfl := hp
    · exact each p ((List.mem_filter.mp hp).1)
    · exact ⟨few, differ⟩
  · intro p hp
    rw [putPeer_peers, List.mem_append, List.mem_singleton] at hp
    obtain hp | rfl := hp
    · exact others p ((List.mem_filter.mp hp).1)
    · exact other

theorem removePeer_fits {n : Nat} {s : State} (fits : tableFits s) : tableFits (removePeer n s) :=
  tableFits_of_stations (s := s) rfl rfl (List.filter_sublist.map _) (fun p hp => fits.2.2.1 p ((List.mem_filter.mp hp).1))
    fits

/-- A change of the peers that leaves their stations and claims. -/
theorem mapPeers_fits {g : Peer → Peer} (station : ∀ p, (g p).station = p.station) (claims : ∀ p, (g p).claims = p.claims)
    {s t : State} (peers : t.table.peers = s.table.peers.map g) (own : t.ownNumber = s.ownNumber)
    (running : t.running = s.running) (fits : tableFits s) : tableFits t := by
  refine tableFits_of_stations own running ?_ (fun p hp => ?_) fits
  · have same : Peer.station ∘ g = Peer.station := funext station
    have stations : t.table.peers.map Peer.station = s.table.peers.map Peer.station := by rw [peers, List.map_map, same]
    exact stations ▸ .refl _
  · rw [peers] at hp
    obtain ⟨q, hq, rfl⟩ := List.mem_map.mp hp
    unfold Peer.fits
    rw [claims]
    exact fits.2.2.1 q hq

theorem filter_station_lt {s : State} {n : Nat} (present : ∃ p ∈ s.table.peers, p.station = n) :
    (s.table.peers.filter (fun p => p.station != n)).length < s.table.peers.length := by
  obtain ⟨p, member, rfl⟩ := present
  exact List.length_filter_lt_length_iff_exists.mpr ⟨p, member, by simp⟩

theorem fallToLost_tableSame (s : State) : TableSame s (fallToLost s) := by
  unfold fallToLost
  split
  · exact ⟨rfl, rfl, rfl⟩
  · have inner := (raiseNotice_inner (.positionLost s.s) (setOdo { s.odo with quality := .lost } s)).trans
      (limitLost_inner _)
    exact ⟨inner.tableSame.peers, inner.tableSame.own, inner.tableSame.running⟩

/-- Outside the table's own moves, the station's and the resets', the table is as it was. -/
theorem Move.tableSame {f : Flag} {s t : State} (m : Move f s t) (other : f ∉ [Flag.table, .station, .reset]) :
    TableSame s t := by
  by_cases kind : f ∈ innerF
  · exact (m.inner kind).tableSame
  cases m
  case lost => exact fallToLost_tableSame s
  case frame bytes running =>
    unfold enqueueFrame
    split <;> exact ⟨rfl, rfl, rfl⟩
  all_goals first
    | exact absurd (by decide) other
    | exact absurd (by decide) kind
    | exact ⟨rfl, rfl, rfl⟩

theorem finish_relevance (s : State) : (finish s).table.peers =
    s.table.peers.map (fun p => { p with relevant := touches (ownZones s) p.claims }) := by
  rw [finish_table]
  rfl

theorem boot_not_running {s : State} (boot : s.station.state = .boot) : s.running = false := by
  unfold State.running
  rw [boot]

theorem active_running {s : State} (active : s.station.state = .active) : s.running = true :=
  running_of_state (.inr (.inl active))

theorem parkBase_station (s : State) : (parkBase s).station = { s.station with state := .parked } :=
  parkSchedule_station _

theorem parkBase_table (s : State) : (parkBase s).table = s.table := by
  unfold parkBase parkSchedule
  split <;> rfl

theorem parkBase_tableSame {s : State} (active : s.station.state = .active) : TableSame s (parkBase s) where
  peers := by rw [parkBase_table]
  own := by unfold State.ownNumber; rw [parkBase_station]
  running := by
    rw [active_running active]
    unfold State.running
    rw [parkBase_station]

theorem parkStopped_inner (s : State) : Inner (parkBase s) (parkStopped s) :=
  (setCeiling_inner _ _).trans (sendWord_inner _ _)

theorem TableSame.trans {s t u : State} (h : TableSame s t) (k : TableSame t u) : TableSame s u :=
  ⟨k.peers.trans h.peers, k.own.trans h.own, k.running.trans h.running⟩

theorem Move.tableFits {f : Flag} {s t : State} (m : Move f s t) (fits : tableFits s) : tableFits t := by
  by_cases other : f ∉ [Flag.table, .station, .reset]
  · exact (m.tableSame other).fits fits
  cases m with
  | put b _ running few differ own room =>
    refine putPeer_fits running few differ own ?_ fits
    obtain room | present := room
    · exact Nat.lt_of_le_of_lt (List.length_filter_le _ _) room
    · exact Nat.lt_of_lt_of_le (filter_station_lt present) fits.1
  | replace b n _ running few differ own present =>
    refine putPeer_fits running few differ own ?_ (removePeer_fits fits)
    exact Nat.lt_of_le_of_lt (List.length_filter_le _ _) (Nat.lt_of_lt_of_le (filter_station_lt present) fits.1)
  | drop n => exact removePeer_fits fits
  | age n =>
    refine mapPeers_fits (s := s) (g := fun q => if q.station == n then q.stale else q) ?_ ?_ rfl rfl rfl fits
    · intro p
      split <;> rfl
    · intro p
      split <;> rfl
  | hold reason stands => cases reason <;> exact TableSame.fits (s := s) ⟨rfl, rfl, rfl⟩ fits
  | nextTake | overflow | mark | listenTimer | reach => exact TableSame.fits (s := s) ⟨rfl, rfl, rfl⟩ fits
  | fault code w _ boot | listen w _ boot => exact tableFits_of_empty (fits.2.2.2.2 (boot_not_running boot))
  | active _ running | activate _ running => exact TableSame.fits (s := s) ⟨rfl, rfl, running.symm⟩ fits
  | park _ active => exact ((parkBase_tableSame active).trans (parkStopped_inner s).tableSame).fits fits
  | parkFixed _ active => exact (parkBase_tableSame active).fits fits
  | finish =>
    exact mapPeers_fits (s := s) (g := fun p => { p with relevant := touches (ownZones s) p.claims }) (fun _ => rfl)
      (fun _ => rfl) (finish_relevance s)
      (by unfold State.ownNumber; rw [finish_station]) (by unfold State.running; rw [finish_station]) fits
  | powerOn | restart => exact tableFits_of_empty rfl
  | runs =>
    unfold releaseReset
    split <;> exact fits
  | _ => exact absurd (by decide) other

/-- Settles O53, move by move. -/
theorem stepKeepsTable : Obligations.StepKeepsTable := by
  unfold Obligations.StepKeepsTable
  exact fun s u start h => step_keeps_of_moves (I := Machine.tableFits) (fun _ _ h => h) (fun _ _ _ m => m.tableFits) start h

end Sys2Proof.Machine
end

section
/-! The conflict list and the STOP causes (O56). -/

namespace Sys2Proof.Machine

-- One proof after another: many at a time want more threads than the memory limit of a build leaves.
set_option Elab.async false


/-- The conflict list, the causes, OVERRUN and the station state are as they were. -/
structure CausesSame (s t : State) : Prop where
  conflicts : t.window.conflicts = s.window.conflicts
  causes : t.auth.causes = s.auth.causes
  overrun : t.auth.overrun = s.auth.overrun
  state : t.station.state = s.station.state

theorem CausesSame.trans {s t u : State} (h : CausesSame s t) (k : CausesSame t u) : CausesSame s u :=
  ⟨k.conflicts.trans h.conflicts, k.causes.trans h.causes, k.overrun.trans h.overrun, k.state.trans h.state⟩

theorem CausesSame.conflictInv {s t : State} (same : CausesSame s t) (inv : conflictInv s) : conflictInv t := by
  unfold Machine.conflictInv causesAgree conflictStands
  rw [same.conflicts, same.causes, same.overrun, same.state]
  exact inv

/-- Operations that leave the window and the Authority Unit, and of the station its state. -/
theorem causesSame_of_eq {s t : State} (window : t.window = s.window) (auth : t.auth = s.auth)
    (state : t.station.state = s.station.state) : CausesSame s t :=
  ⟨by rw [window], by rw [auth], by rw [auth], state⟩

theorem raiseNotice_causesSame (n : Notice) (s : State) : CausesSame s (raiseNotice n s) :=
  causesSame_of_eq (raiseNotice_window n s) (raiseNotice_auth n s) (by rw [(raiseNotice_inner n s).station])

theorem urgentRequest_causesSame (s : State) : CausesSame s (urgentRequest s) :=
  causesSame_of_eq (urgentRequest_window s) (urgentRequest_auth s) (by rw [(urgentRequest_inner s).station])

theorem giveWay_causesSame (s : State) : CausesSame s (giveWay s) := by
  unfold giveWay
  split <;> exact ⟨rfl, rfl, rfl, rfl⟩

theorem sendWord_overrun (v : Nat) (s : State) : (sendWord v s).auth.overrun = s.auth.overrun := by
  unfold sendWord
  split
  · split <;> rfl
  · rfl

theorem sendWord_causesSame (v : Nat) (s : State) : CausesSame s (sendWord v s) :=
  ⟨by rw [sendWord_window], sendWord_causes v s, sendWord_overrun v s, by rw [(sendWord_inner v s).station]⟩

theorem reorder_causesSame (s : State) : CausesSame s (reorder s) := by
  unfold reorder
  split <;> exact ⟨rfl, rfl, rfl, rfl⟩

theorem setCeiling_causesSame (v : Nat) (s : State) : CausesSame s (setCeiling v s) := ⟨rfl, rfl, rfl, rfl⟩

theorem limitLost_causesSame (s : State) : CausesSame s (limitLost s) := by
  unfold limitLost
  split
  · exact (setCeiling_causesSame _ _).trans (sendWord_causesSame _ _)
  · exact ⟨rfl, rfl, rfl, rfl⟩

theorem fallToLost_causesSame (s : State) : CausesSame s (fallToLost s) := by
  have doubted : CausesSame s (setOdo { s.odo with quality := .lost } s) := ⟨rfl, rfl, rfl, rfl⟩
  unfold fallToLost
  split
  · exact ⟨rfl, rfl, rfl, rfl⟩
  · exact doubted.trans ((raiseNotice_causesSame _ _).trans (limitLost_causesSame _))

theorem modifyEntry_causesSame (z : Nat) (f : ClaimEntry → ClaimEntry) (s : State) : CausesSame s (modifyEntry z f s) :=
  ⟨rfl, rfl, rfl, rfl⟩

/-- Only conflicts, OVERRUN, RESUME, changes of state and resets change the causes or what raises them. -/
theorem Move.causesSame {f : Flag} {s t : State} (m : Move f s t)
    (other : f ∉ [Flag.conflict, .firstConflict, .clear, .overrun, .station, .reset]) : CausesSame s t := by
  cases m
  case notice n => exact raiseNotice_causesSame n s
  case urgent => exact urgentRequest_causesSame s
  case word v => exact sendWord_causesSame v s
  case tick => exact (setCeiling_causesSame _ s).trans (sendWord_causesSame _ _)
  case reorder => exact reorder_causesSame s
  case release z =>
    exact (modifyEntry_causesSame z _ s).trans ((urgentRequest_causesSame _).trans (giveWay_causesSame _))
  case surrender z =>
    exact (modifyEntry_causesSame z _ s).trans ((urgentRequest_causesSame _).trans
      ((raiseNotice_causesSame _ _).trans (giveWay_causesSame _)))
  case yield z n x found held unmarked =>
    exact (modifyEntry_causesSame z _ s).trans ((urgentRequest_causesSame _).trans
      ((raiseNotice_causesSame _ _).trans (giveWay_causesSame _)))
  case lost => exact fallToLost_causesSame s
  case frame bytes running =>
    unfold enqueueFrame
    split <;> exact ⟨rfl, rfl, rfl, rfl⟩
  all_goals first
    | exact absurd (by decide) other
    | exact ⟨rfl, rfl, rfl, rfl⟩

/-! ### The conflict list (R76) -/

theorem addConflictPeer_zones (z n : Nat) (rs : List ConflictRecord) :
    (addConflictPeer z n rs).map ConflictRecord.zone = rs.map ConflictRecord.zone := by
  unfold addConflictPeer
  rw [List.map_map]
  refine List.map_congr_left fun r _ => ?_
  show (if r.zone == z then _ else _ : ConflictRecord).zone = _
  split <;> rfl

theorem record_of_zone {z : Nat} {rs : List ConflictRecord} {r x : ConflictRecord}
    (differ : (rs.map ConflictRecord.zone).Nodup) (found : rs.find? (fun r => r.zone == z) = some r) (member : x ∈ rs)
    (zone : x.zone = z) : x = r := by
  have same : r.zone = z := by simpa using List.find?_some found
  exact inj_of_nodup_map differ member (List.mem_of_find?_eq_some found) (zone.trans same.symm)

theorem addConflictPeer_fits {z n : Nat} {rs : List ConflictRecord} {r : ConflictRecord} (fits : conflictsFit rs)
    (found : rs.find? (fun r => r.zone == z) = some r) (new : r.peers.contains n = false) (room : r.peers.length < 24) :
    conflictsFit (addConflictPeer z n rs) := by
  obtain ⟨few, differ, each⟩ := fits
  refine ⟨by simpa [addConflictPeer] using few, by rw [addConflictPeer_zones]; exact differ, fun x hx => ?_⟩
  obtain ⟨y, hy, rfl⟩ := List.mem_map.mp hx
  obtain ⟨some, bound, nodup⟩ := each y hy
  by_cases zone : y.zone = z
  · obtain rfl := record_of_zone differ found hy zone
    have absent : n ∉ y.peers := by simpa using new
    simp only [zone, beq_self_eq_true, if_true]
    refine ⟨by simp, by rw [List.length_append, List.length_singleton]; exact room, ?_⟩
    rw [List.nodup_append]
    refine ⟨nodup, by simp, fun a ha b hb same => absent ?_⟩
    rw [← List.mem_singleton.mp hb, ← same]
    exact ha
  · simpa [zone] using each y hy

theorem conflictRecords_fits (z n : Nat) {rs : List ConflictRecord} (fits : conflictsFit rs) :
    conflictsFit (conflictRecords z n rs).1 := by
  unfold conflictRecords
  split
  · rename_i r found
    split
    · exact fits
    · rename_i new
      split
      · rename_i room
        exact addConflictPeer_fits fits found (Bool.eq_false_iff.mpr new) room
      · exact fits
  · rename_i absent
    split
    · rename_i room
      obtain ⟨-, differ, each⟩ := fits
      refine ⟨by rw [List.length_append, List.length_singleton]; exact room, ?_, ?_⟩
      · rw [List.map_append, List.nodup_append]
        refine ⟨differ, by simp, fun x hx y hy => ?_⟩
        obtain ⟨r, hr, rfl⟩ := List.mem_map.mp hx
        obtain rfl : y = z := by simpa using hy
        simpa using List.find?_eq_none.mp absent r hr
      · intro r hr
        rw [List.mem_append, List.mem_singleton] at hr
        obtain hr | rfl := hr
        · exact each r hr
        · exact ⟨List.cons_ne_nil _ _, by simp, by simp⟩
    · exact fits

/-- The records and their cause, before the notice. -/
def withConflicts (rs : List ConflictRecord) (s : State) : State :=
  { s with
    window := { s.window with conflicts := rs }
    auth := { s.auth with causes := { s.auth.causes with conflict := !rs.isEmpty } } }

theorem recordConflict_eq (z n : Nat) (s : State) :
    recordConflict z n s =
      if (conflictRecords z n s.window.conflicts).2 then
        raiseNotice (.conflict z n) (withConflicts (conflictRecords z n s.window.conflicts).1 s)
      else withConflicts (conflictRecords z n s.window.conflicts).1 s := rfl

theorem withConflicts_conflictInv {rs : List ConflictRecord} {s : State} (fits : conflictsFit rs) (inv : conflictInv s) :
    conflictInv (withConflicts rs s) :=
  ⟨fits, inv.2.1, inv.2.2.1, rfl, inv.2.2.2.2⟩

theorem recordConflict_conflictInv (z n : Nat) {s : State} (inv : conflictInv s) : conflictInv (recordConflict z n s) := by
  have taken := withConflicts_conflictInv (conflictRecords_fits z n inv.1) inv
  rw [recordConflict_eq]
  split
  · exact (raiseNotice_causesSame _ _).conflictInv taken
  · exact taken

theorem dropCeiling_causesSame (s : State) : CausesSame s (dropCeiling s) := by
  unfold dropCeiling
  split
  · exact (setCeiling_causesSame _ _).trans (sendWord_causesSame _ _)
  · exact ⟨rfl, rfl, rfl, rfl⟩

theorem setOverrun_conflictInv {s : State} (inv : conflictInv s) : conflictInv (setOverrun s) :=
  ⟨inv.1, inv.2.1, inv.2.2.1, inv.2.2.2.1, rfl⟩

theorem overrunCause_conflictInv {s : State} (inv : conflictInv s) : conflictInv (overrunCause s) := by
  have lowered : CausesSame (setOverrun s) (lowerHorizon (setOverrun s)) := ⟨rfl, rfl, rfl, rfl⟩
  unfold overrunCause
  split
  · exact setOverrun_conflictInv inv
  · exact (lowered.trans (dropCeiling_causesSame _)).conflictInv (setOverrun_conflictInv inv)

/-! ### Changes of state (R105) -/

/-- A change of state between two that are neither BOOT nor CONFIG_FAULT. -/
theorem conflictInv_of_running {s t : State} (conflicts : t.window.conflicts = s.window.conflicts)
    (causes : t.auth.causes = s.auth.causes) (overrun : t.auth.overrun = s.auth.overrun) (before : s.running = true)
    (after : t.running = true) (inv : conflictInv s) : conflictInv t := by
  have started {u : State} (running : u.running = true) :
      decide (u.station.state = .boot) = false ∧ decide (u.station.state = .configFault) = false := by
    unfold State.running at running
    split at running <;> simp_all
  obtain ⟨fits, boot, fault, conflict, overran⟩ := inv
  unfold conflictInv causesAgree conflictStands
  rw [conflicts, causes, overrun, boot, fault, (started before).1, (started before).2, (started after).1, (started after).2]
  exact ⟨fits, rfl, rfl, conflict, overran⟩

theorem Move.conflictInv {f : Flag} {s t : State} (m : Move f s t) (inv : conflictInv s) : conflictInv t := by
  by_cases other : f ∉ [Flag.conflict, .firstConflict, .clear, .overrun, .station, .reset]
  · exact (m.causesSame other).conflictInv inv
  have none : conflictsFit [] := ⟨Nat.zero_le 8, List.nodup_nil, fun _ h => nomatch h⟩
  cases m with
  | conflict z n | firstConflict z n => exact recordConflict_conflictInv z n inv
  | clearConflicts => exact ⟨none, inv.2.1, inv.2.2.1, rfl, inv.2.2.2.2⟩
  | clearOverrun =>
    unfold Machine.clearOverrun
    split
    · exact ⟨inv.1, inv.2.1, inv.2.2.1, inv.2.2.2.1, rfl⟩
    · exact inv
  | overrun => exact overrunCause_conflictInv inv
  | fault code w _ boot => exact ⟨inv.1, rfl, rfl, inv.2.2.2.1, inv.2.2.2.2⟩
  | listen w _ boot =>
    refine ⟨inv.1, rfl, ?_, inv.2.2.2.1, inv.2.2.2.2⟩
    have fault := inv.2.2.1
    rw [boot] at fault
    exact fault
  | active _ running | activate _ running => exact conflictInv_of_running (s := s) rfl rfl rfl running rfl inv
  | park _ active =>
    have parked : Machine.conflictInv (parkBase s) := conflictInv_of_running (by rw [parkBase_window])
      (by unfold parkBase parkSchedule; split <;> rfl) (by unfold parkBase parkSchedule; split <;> rfl)
      (active_running active) (by unfold State.running; rw [parkBase_station]) inv
    exact ((setCeiling_causesSame _ _).trans (sendWord_causesSame _ _)).conflictInv parked
  | parkFixed _ active =>
    exact conflictInv_of_running (by rw [parkBase_window])
      (by unfold parkBase parkSchedule; split <;> rfl) (by unfold parkBase parkSchedule; split <;> rfl)
      (active_running active) (by unfold State.running; rw [parkBase_station]) inv
  | listenTimer | mark | reach => exact inv
  | hold reason stands => cases reason <;> exact inv
  | finish =>
    exact (causesSame_of_eq (finish_window s) (finish_auth s) (by rw [finish_station])).conflictInv inv
  | powerOn | restart => exact ⟨none, rfl, rfl, rfl, rfl⟩
  | runs =>
    unfold releaseReset
    split <;> exact inv
  | _ => exact absurd (by decide) other

/-- Settles O56, move by move. -/
theorem stepKeepsConflictsAndCauses : Obligations.StepKeepsConflictsAndCauses := by
  unfold Obligations.StepKeepsConflictsAndCauses
  exact fun s u start h =>
    step_keeps_of_moves (I := Machine.conflictInv) (fun _ _ h => h) (fun _ _ _ m => m.conflictInv) start h

end Sys2Proof.Machine
end

section
/-! The ranges of the counts, the queues and the scale trim (O58). -/

namespace Sys2Proof.Machine

-- One proof after another: many at a time want more threads than the memory limit of a build leaves.
set_option Elab.async false


/-! ### Counts of the entries (R18, R32) -/

theorem uncounted_waitOnAir (a : AirMark) : a.uncounted.waitOnAir = a.waitOnAir := by cases a <;> rfl

theorem airNow_waitOnAir {e : ClaimEntry} (fits : e.wait ≤ 255) : e.airNow.waitOnAir ≤ 255 := by
  unfold ClaimEntry.airNow
  split
  · exact fits
  · exact fits
  · exact fits
  · exact Nat.zero_le _
  · exact Nat.zero_le _

theorem occupy_countsFit {e : ClaimEntry} (fits : e.countsFit) : e.occupy.countsFit := by
  obtain ⟨wait, carried, air, announce, released⟩ := fits
  unfold ClaimEntry.occupy
  split
  · exact ⟨wait, carried, air, announce, released⟩
  · exact ⟨wait, carried, air, announce, released⟩
  · exact ⟨wait, carried, air, announce, released⟩
  · exact ⟨wait, carried, air, announce, Nat.zero_le 2⟩
  · exact ⟨wait, carried, air, announce, released⟩

theorem entryFor_countsFit (z : Nat) (cells : List StoredCell) : (entryFor z cells).countsFit := by
  simp [entryFor, ClaimEntry.new, AirMark.waitOnAir]

theorem completed_countsFit {e : ClaimEntry} (fits : e.countsFit) : e.completed.countsFit := by
  obtain ⟨wait, carried, air, announce, released⟩ := fits
  unfold ClaimEntry.completed
  split
  · exact ⟨wait, carried, air, announce, released⟩
  · rename_i w onAir
    rw [onAir] at air
    exact ⟨wait, air, Nat.zero_le _, Nat.min_le_right _ _, released⟩
  · rename_i w onAir
    rw [onAir] at air
    exact ⟨wait, air, Nat.zero_le _, announce, released⟩
  · refine ⟨wait, carried, Nat.zero_le _, announce, ?_⟩
    dsimp only
    split
    · exact Nat.min_le_right _ _
    · exact released

theorem Origin.countsFit {s : State} {f : Flag} {e : ClaimEntry} (origin : Origin s f e)
    (all : ∀ e ∈ s.window.entries, e.countsFit) : e.countsFit := by
  cases origin with
  | kept _ member | commit e member | track e member | grant e member | needs e member | settle e member
  | report e member => exact all e member
  | block e member =>
    obtain ⟨wait, carried, air, announce, released⟩ := all e member
    exact ⟨wait, carried, Nat.le_trans (Nat.le_of_eq (uncounted_waitOnAir e.air)) air, announce, released⟩
  | unblock e member =>
    obtain ⟨wait, carried, air, -, released⟩ := all e member
    exact ⟨wait, carried, Nat.le_trans (Nat.le_of_eq (uncounted_waitOnAir e.air)) air, Nat.zero_le 2, released⟩
  | announce e member =>
    obtain ⟨-, -, air, -, -⟩ := all e member
    exact ⟨Nat.zero_le _, Nat.zero_le _, air, Nat.zero_le 2, Nat.zero_le 2⟩
  | occupy e member => exact occupy_countsFit (all e member)
  | occupyNew z => exact occupy_countsFit (entryFor_countsFit z _)
  | list z => exact entryFor_countsFit z _
  | revive e member => exact all e member
  | release e member =>
    obtain ⟨wait, carried, air, announce, -⟩ := all e member
    exact ⟨wait, carried, air, announce, Nat.zero_le 2⟩
  | yield e member =>
    obtain ⟨wait, carried, air, -, released⟩ := all e member
    exact ⟨wait, carried, air, Nat.zero_le 2, released⟩
  | waits e member =>
    obtain ⟨wait, rest⟩ := all e member
    unfold ClaimEntry.waitMore
    split
    · exact ⟨Nat.min_le_right _ _, rest⟩
    · exact ⟨wait, rest⟩
  | completes e member => exact completed_countsFit (all e member)
  | air e member =>
    obtain ⟨wait, carried, -, announce, released⟩ := all e member
    exact ⟨wait, carried, airNow_waitOnAir wait, announce, released⟩
  | standing r => simp [ClaimEntry.new, ClaimEntry.announceFirst, AirMark.waitOnAir]
  | commitStanding e member =>
    unfold ClaimEntry.commitIn
    split
    · exact all e member
    · exact all e member

/-! ### The other counts and the queues -/

/-- The counts outside the window, and the queues. -/
structure CountsRest (s : State) : Prop where
  counters : s.port.counters.fit
  standstill : s.station.standstill ≤ 50
  odo : odoFits s.odo
  seq : s.radio.seq < 65536
  queue : s.radio.queue.length ≤ 6
  replies : s.port.replies.length ≤ 4
  notices : s.port.notices.length ≤ 16

theorem countsInv_iff {s : State} : countsInv s ↔ (∀ e ∈ s.window.entries, e.countsFit) ∧ CountsRest s := by
  constructor
  · rintro ⟨⟨entries, counters, standstill, vmeas, rejects, since, travel, history, seq⟩, ⟨queue, replies, notices⟩, trim⟩
    exact ⟨entries, counters, standstill, ⟨vmeas, rejects, since, travel, history, trim⟩, seq, queue, replies, notices⟩
  · rintro ⟨entries, counters, standstill, ⟨vmeas, rejects, since, travel, history, trim⟩, seq, queue, replies, notices⟩
    exact ⟨⟨entries, counters, standstill, vmeas, rejects, since, travel, history, seq⟩, ⟨queue, replies, notices⟩, trim⟩

theorem Inner.countsRest {s t : State} (inner : Inner s t) (rest : CountsRest s) : CountsRest t where
  counters := by rw [inner.port]; exact rest.counters
  standstill := by rw [inner.station]; exact rest.standstill
  odo := by rw [inner.odo]; exact rest.odo
  seq := by rw [inner.radio]; exact rest.seq
  queue := by rw [inner.radio]; exact rest.queue
  replies := by rw [inner.port]; exact rest.replies
  notices := inner.room rest.notices

/-- The blocks that hold the counts, as far as they hold them, are as they were. -/
theorem CountsRest.congr {s t : State} (rest : CountsRest s) (counters : t.port.counters = s.port.counters)
    (standstill : t.station.standstill = s.station.standstill) (odo : t.odo = s.odo) (seq : t.radio.seq = s.radio.seq)
    (queue : t.radio.queue = s.radio.queue) (replies : t.port.replies = s.port.replies)
    (notices : t.port.notices = s.port.notices) : CountsRest t where
  counters := counters ▸ rest.counters
  standstill := standstill ▸ rest.standstill
  odo := odo ▸ rest.odo
  seq := seq ▸ rest.seq
  queue := queue ▸ rest.queue
  replies := replies ▸ rest.replies
  notices := notices ▸ rest.notices

theorem odoFits_takePosition {x : Int} {o : Odometry} (fits : odoFits o) : odoFits (takePosition x o) := by
  obtain ⟨vmeas, -, -, travel, history, trim⟩ := fits
  exact ⟨vmeas, Nat.zero_le 2, Nat.zero_le _, travel, history, trim⟩

theorem fallToLost_countsRest {s : State} (rest : CountsRest s) : CountsRest (fallToLost s) := by
  have lost : CountsRest (setOdo { s.odo with quality := .lost } s) := { rest with }
  unfold fallToLost
  split
  · exact rest
  · exact ((raiseNotice_inner _ _).trans (limitLost_inner _)).countsRest lost

theorem resetBlocks_countsRest {cause : ResetCause} {profiles : Profiles} {trim : Nat} {s : State}
    (inRange : 61440 ≤ trim ∧ trim ≤ 69632) : CountsRest (resetBlocks cause profiles trim s) where
  counters := ⟨Nat.zero_le _, Nat.zero_le _, Nat.zero_le _, Nat.zero_le _, Nat.zero_le _⟩
  standstill := Nat.zero_le 50
  odo := ⟨Nat.zero_le _, Nat.zero_le _, Nat.zero_le _, Nat.zero_lt_succ _, rfl, inRange⟩
  seq := Nat.zero_lt_succ _
  queue := Nat.zero_le 6
  replies := Nat.zero_le 4
  notices := Nat.zero_le 16

/-- Starting a message takes it off its queue. -/
theorem startNext_queues (s : State) :
    (startNext s).port.replies.length ≤ s.port.replies.length ∧ (startNext s).port.notices.length ≤ s.port.notices.length := by
  unfold startNext
  split
  · rename_i r rs queued
    rw [queued]
    exact ⟨Nat.le_succ _, Nat.le_refl _⟩
  · split
    · exact ⟨Nat.le_refl _, Nat.le_refl _⟩
    · split
      · rename_i n ns queued
        rw [queued]
        exact ⟨Nat.le_refl _, Nat.le_succ _⟩
      · split <;> exact ⟨Nat.le_refl _, Nat.le_refl _⟩

theorem serveOutbound_queues (s : State) :
    (serveOutbound s).port.replies.length ≤ s.port.replies.length ∧
      (serveOutbound s).port.notices.length ≤ s.port.notices.length := by
  unfold serveOutbound
  split
  · exact ⟨Nat.le_refl _, Nat.le_refl _⟩
  · exact startNext_queues s

/-- The reassessment of the line leaves the replies and keeps the bound of the notices. -/
theorem reassessLine_queues (s : State) :
    (reassessLine s).port.replies = s.port.replies ∧
      (s.port.notices.length ≤ 16 → (reassessLine s).port.notices.length ≤ 16) := by
  have raised (n : Notice) : (raiseNotice n s).port.replies = s.port.replies ∧
      (s.port.notices.length ≤ 16 → (raiseNotice n s).port.notices.length ≤ 16) :=
    ⟨(raiseNotice_inner n s).within.replies, (raiseNotice_inner n s).room⟩
  unfold reassessLine
  dsimp only
  split
  · exact ⟨rfl, id⟩
  · split
    · exact raised _
    · split
      · exact raised _
      · exact ⟨rfl, id⟩

theorem finish_countsRest {s : State} (rest : CountsRest s) : CountsRest (finish s) := by
  obtain ⟨-, -, -, -, counters⟩ := finish_port s
  obtain ⟨replies, notices⟩ := reassessLine_queues (refreshRelevance s)
  obtain ⟨fewer, less⟩ := serveOutbound_queues (reassessLine (refreshRelevance s))
  refine ⟨counters ▸ rest.counters, ?_, ?_, ?_, ?_, Nat.le_trans fewer (replies ▸ rest.replies),
    Nat.le_trans less (notices rest.notices)⟩
  · rw [finish_station]; exact rest.standstill
  · rw [finish_odo]; exact rest.odo
  · rw [finish_radio]; exact rest.seq
  · rw [finish_radio]; exact rest.queue

theorem enqueueFrame_countsRest {bytes : List Byte} {s : State} (rest : CountsRest s) :
    CountsRest (enqueueFrame bytes s) := by
  obtain ⟨bad, drops, beacons, port, strays⟩ := rest.counters
  unfold enqueueFrame
  split
  · rename_i room
    have room : s.radio.queue.length < 6 := room
    exact { rest with queue := by simp; omega }
  · exact { rest with counters := ⟨bad, Nat.min_le_right _ _, beacons, port, strays⟩ }

theorem parkBase_countsRest {s : State} (rest : CountsRest s) : CountsRest (parkBase s) := by
  unfold parkBase parkSchedule
  split
  · exact { rest with }
  · exact { rest with }

theorem Move.countsRest {f : Flag} {s t : State} (m : Move f s t) (rest : CountsRest s) : CountsRest t := by
  by_cases kind : f ∈ innerF
  · exact (m.inner kind).countsRest rest
  obtain ⟨bad, drops, beacons, port, strays⟩ := rest.counters
  cases m with
  | air b gap => exact { rest with seq := Nat.mod_lt _ (by decide) }
  | lost => exact fallToLost_countsRest rest
  | lay x cells => exact { rest with odo := odoFits_takePosition rest.odo }
  | park => exact (parkStopped_inner s).countsRest (parkBase_countsRest rest)
  | parkFixed => exact parkBase_countsRest rest
  | standstill =>
    refine { rest with standstill := ?_ }
    show (if _ then _ else _) ≤ 50
    split
    · exact Nat.min_le_right _ _
    · exact Nat.zero_le _
  | odo o _ fits => exact { rest with odo := fits rest.odo }
  | radio r _ queue seq =>
    exact { rest with seq := seq ▸ rest.seq, queue := Nat.le_trans queue.length_le rest.queue }
  | frame => exact enqueueFrame_countsRest rest
  | radioBad => exact { rest with counters := ⟨Nat.min_le_right _ _, drops, beacons, port, strays⟩ }
  | beaconDrop => exact { rest with counters := ⟨bad, drops, Nat.min_le_right _ _, port, strays⟩ }
  | portBad => exact { rest with counters := ⟨bad, drops, beacons, Nat.min_le_right _ _, strays⟩ }
  | stray => exact { rest with counters := ⟨bad, drops, beacons, port, Nat.min_le_right _ _⟩ }
  | replied code a _ room =>
    have one : (queueReply code a s).port.replies.length ≤ 4 := by
      simp only [queueReply, List.length_append, List.length_singleton]
      exact room
    exact { rest with replies := one }
  | finish => exact finish_countsRest rest
  | powerOn =>
    have reset : CountsRest (resetBlocks .powerOn .default 65536 s) := resetBlocks_countsRest (by decide)
    exact { reset with }
  | restart cause => exact resetBlocks_countsRest rest.odo.2.2.2.2.2
  | hold reason stands => cases reason <;> exact { rest with }
  | runs =>
    unfold releaseReset
    split
    · exact rest
    · exact { rest with }
  | shift | listen | fault => exact { rest with }
  | _ =>
    first
      | exact absurd (by decide) kind
      | exact { rest with }

/-- Settles O58, move by move. -/
theorem stepKeepsCounts : Obligations.StepKeepsCounts := by
  unfold Obligations.StepKeepsCounts
  refine fun s u start h => step_keeps_of_moves (I := countsInv) (fun _ _ h => h) (fun _ s t m inv => ?_) start h
  obtain ⟨entries, rest⟩ := countsInv_iff.mp inv
  exact countsInv_iff.mpr ⟨fun e member => (m.origin member).countsFit entries, m.countsRest rest⟩

end Sys2Proof.Machine
end

section
/-! A zone that a step makes HELD without the committed mark shows no peer HOLD (O59). -/

namespace Sys2Proof.Machine

-- One proof after another: many at a time want more threads than the memory limit of a build leaves.
set_option Elab.async false


/-- The table shows no HOLD on the zone and is not in overflow (R35). -/
def zoneClear (t : State) (z : Nat) : Prop := holdStands t z = false ∧ t.table.overflow = none

/-- `newHoldsClear` with its cases as alternatives: what `t` holds uncommitted, `s` held, or the table of `t` is clear. -/
def heldOrClear (s t : State) : Prop :=
  ∀ e ∈ t.window.entries, e.state = .held → e.committed = false → isHeld s e.zone = true ∨ zoneClear t e.zone

theorem newHoldsClear_iff {s t : State} : newHoldsClear s t ↔ heldOrClear s t := by
  refine forall₂_congr fun e _ => forall₂_congr fun _ _ => ?_
  cases isHeld s e.zone <;> simp [zoneClear]

/-- The peers' holds and the overflow are as they were. -/
structure HoldsSame (s t : State) : Prop where
  holds : ∀ z, holdStands t z = holdStands s z
  overflow : t.table.overflow = s.table.overflow

theorem HoldsSame.zoneClear {s t : State} (same : HoldsSame s t) {z : Nat} (clear : zoneClear s z) : zoneClear t z :=
  ⟨(same.holds z).trans clear.1, same.overflow.trans clear.2⟩

theorem holdsSame_of_table {s t : State} (table : t.table = s.table) : HoldsSame s t :=
  ⟨fun z => by unfold holdStands; rw [table], by rw [table]⟩

theorem finish_holdsSame (s : State) : HoldsSame s (finish s) where
  holds z := by
    unfold holdStands
    rw [finish_relevance, List.any_map]
    rfl
  overflow := by rw [finish_table]; rfl

theorem fallToLost_table (s : State) : (fallToLost s).table = s.table := by
  unfold fallToLost
  split
  · rfl
  · exact ((raiseNotice_inner (.positionLost s.s) (setOdo { s.odo with quality := .lost } s)).trans
      (limitLost_inner _)).table

/-- Outside the table's moves the peers' holds stand as they were, or a reset has emptied the window. -/
theorem Move.holdsSame {f : Flag} {s t : State} (m : Move f s t) (other : f ≠ .table) :
    HoldsSame s t ∨ t.window.entries = [] := by
  by_cases kind : f ∈ innerF
  · exact .inl (holdsSame_of_table (m.inner kind).table)
  cases m with
  | finish => exact .inl (finish_holdsSame s)
  | powerOn | restart => exact .inr rfl
  | lost => exact .inl (holdsSame_of_table (fallToLost_table s))
  | park => exact .inl (holdsSame_of_table ((parkStopped_inner s).table.trans (parkBase_table s)))
  | parkFixed => exact .inl (holdsSame_of_table (parkBase_table s))
  | frame =>
    unfold enqueueFrame
    split <;> exact .inl (holdsSame_of_table rfl)
  | runs =>
    unfold releaseReset
    split <;> exact .inl (holdsSame_of_table rfl)
  | listen => exact .inl ⟨fun _ => rfl, rfl⟩
  | nextTake | put | replace | drop | age | overflow => exact absurd rfl other
  | _ =>
    first
      | exact absurd (by decide) kind
      | exact .inl (holdsSame_of_table rfl)

theorem isHeld_of_mem {s : State} {e : ClaimEntry} (member : e ∈ s.window.entries) (held : e.state = .held) :
    isHeld s e.zone = true :=
  List.any_eq_true.mpr ⟨e, member, by simp [held]⟩

/-- What does not block an entry holds nothing on its zone (R29). -/
theorem zoneClear_of_not_blocked {s : State} {e : ClaimEntry} (free : isBlocked s e = false) : zoneClear s e.zone := by
  unfold isBlocked at free
  rw [Bool.or_eq_false_iff] at free
  obtain ⟨overflow, peers⟩ := free
  refine ⟨?_, by simpa using overflow⟩
  unfold holdStands
  rw [List.any_eq_false] at peers ⊢
  refine fun p hp holds => peers p hp ?_
  obtain ⟨c, hc, hold⟩ := List.any_eq_true.mp holds
  rw [Bool.and_eq_true] at hold
  exact List.any_eq_true.mpr ⟨c, hc, by simp [hold.1, of_decide_eq_true hold.2]⟩

/-- A zone that can be revived shows no claim (R39). -/
theorem zoneClear_of_canRevive {z : Nat} {e : ClaimEntry} {s : State} (can : canRevive z e s = true) : zoneClear s z := by
  unfold canRevive at can
  simp only [Bool.and_eq_true, Bool.not_eq_true', Option.isNone_iff_eq_none] at can
  obtain ⟨⟨⟨-, claims⟩, -⟩, overflow⟩ := can
  refine ⟨?_, overflow⟩
  unfold claimStands at claims
  unfold holdStands
  rw [List.any_eq_false] at claims ⊢
  refine fun p hp holds => claims p hp ?_
  obtain ⟨c, hc, hold⟩ := List.any_eq_true.mp holds
  rw [Bool.and_eq_true] at hold
  exact List.any_eq_true.mpr ⟨c, hc, hold.1⟩

/-- What an entry HELD without the mark comes from: an entry HELD without it, or a grant or a revival of a clear zone. -/
theorem Origin.held {s : State} {f : Flag} {e : ClaimEntry} (origin : Origin s f e) (held : e.state = .held)
    (unmarked : e.committed = false) :
    (∃ x ∈ s.window.entries, x.zone = e.zone ∧ x.state = .held ∧ x.committed = false) ∨ zoneClear s e.zone := by
  cases origin with
  | kept _ member => exact .inl ⟨e, member, rfl, held, unmarked⟩
  | commit | block | unblock | announce | list | release | yield | standing => simp_all [entryFor, ClaimEntry.new,
      ClaimEntry.commit, ClaimEntry.block, ClaimEntry.unblock, ClaimEntry.announceFirst, ClaimEntry.release,
      ClaimEntry.yieldTo]
  | grant e member x found announced free =>
    have clear := zoneClear_of_not_blocked free
    rw [findEntry_zone found] at clear
    exact .inr clear
  | occupy e => rw [occupy_committed] at unmarked; exact nomatch unmarked
  | occupyNew z => rw [occupy_committed] at unmarked; exact nomatch unmarked
  | revive e member x found releasing can => exact .inr (zoneClear_of_canRevive can)
  | track e member | needs e member | settle e member | report e member | air e member =>
    exact .inl ⟨e, member, rfl, held, unmarked⟩
  | waits e member =>
    obtain ⟨state, mark⟩ := waitMore_state e
    exact .inl ⟨e, member, (waitMore_zone e).symm, state ▸ held, mark ▸ unmarked⟩
  | completes e member =>
    obtain ⟨state, mark⟩ := completed_state e
    exact .inl ⟨e, member, (completed_zone e).symm, state ▸ held, mark ▸ unmarked⟩
  | commitStanding e member =>
    unfold ClaimEntry.commitIn at held unmarked ⊢
    split
    · rename_i guard
      rw [if_pos guard] at unmarked
      exact nomatch unmarked
    · rename_i guard
      rw [if_neg guard] at held unmarked
      exact .inl ⟨e, member, rfl, held, unmarked⟩

theorem Move.heldOrClear {f : Flag} {s₀ s t : State} (m : Move f s t) (other : f ≠ .table) (before : heldOrClear s₀ s) :
    heldOrClear s₀ t := by
  intro e member held unmarked
  obtain same | empty := m.holdsSame other
  · obtain ⟨x, hx, zone, xHeld, xUnmarked⟩ | clear := (m.origin member).held held unmarked
    · rw [← zone]
      exact (before x hx xHeld xUnmarked).imp_right same.zoneClear
    · exact .inr (same.zoneClear clear)
  · rw [empty] at member
    exact nomatch member

theorem Moves.heldOrClear {F : List Flag} {s₀ s t : State} (m : Moves F s t) (free : Flag.table ∉ F)
    (before : heldOrClear s₀ s) : heldOrClear s₀ t := by
  refine m.keeps (fun f _ _ member move => move.heldOrClear ?_) before
  rintro rfl
  exact member.elim (fun h => nomatch h) free

/-- What `s` itself holds needs no clear table. -/
theorem heldOrClear_of_entries {s₀ s : State} (entries : s.window.entries = s₀.window.entries) : heldOrClear s₀ s :=
  fun _ member held _ => .inl (isHeld_of_mem (entries ▸ member) held)

theorem Moves.entries_same {F : List Flag} {s t : State} (m : Moves F s t) (free : ∀ f ∈ F, f ∉ entryF) :
    t.window.entries = s.window.entries :=
  m.keeps (I := fun t => t.window.entries = s.window.entries) (fun f _ _ member move same =>
    (move.entries_same (member.elim (fun h => h ▸ by decide) (free f))).1.trans same) rfl

/-- Settles O59: the table's moves leave the entries, and the other moves leave the table. -/
theorem newHoldIsClear : Obligations.NewHoldIsClear := by
  unfold Obligations.NewHoldIsClear
  intro s u h
  rw [newHoldsClear_iff]
  obtain rfl | ⟨q, result⟩ := step_outcome h
  · exact heldOrClear_of_entries rfl
  · have start : heldOrClear s (s.withPending q) := heldOrClear_of_entries rfl
    cases result with
    | quiet chain =>
      clear h
      induction chain with
      | refl => exact start
      | tail _ move ih => exact (quiet_moves move).heldOrClear (by decide) ih
    | table t move =>
      obtain ⟨m, table, window⟩ := tableMove_parts move
      have entries : m.window.entries = s.window.entries := table.entries_same (by decide)
      exact (Move.finish _).heldOrClear (by decide)
        (window.moves.heldOrClear (by decide) (heldOrClear_of_entries entries))

end Sys2Proof.Machine
end

section
/-! The ceiling and the profiles (O55). Every move keeps the limits of the ceiling but a change of profile in ACTIVE, which
the end of its tick answers; and every move keeps it at 0 under a STOP cause but a first conflict, which its immediate
recompute answers. -/

namespace Sys2Proof.Machine

-- One proof after another: many at a time want more threads than the memory limit of a build leaves.
set_option Elab.async false


/-- The ceiling's limits without the one under a STOP cause. -/
structure CeilingLimits (s : State) : Prop where
  previous : s.auth.previous = s.auth.ceiling
  cap : s.auth.ceiling ≤ s.profile.cap
  lost : s.odo.quality = .lost → s.auth.ceiling ≤ 300
  idle : s.station.state ≠ .active → s.auth.ceiling = 0
  fixed : s.isCarrier = false → s.auth.ceiling = 0
  profiles : profilesInRange s

/-- Under a STOP cause the ceiling is 0. -/
def stopsAtZero (s : State) : Prop := s.auth.causes.any = true → s.auth.ceiling = 0

theorem ceilingInv_iff {s : State} : ceilingInv s ↔ CeilingLimits s ∧ stopsAtZero s := by
  constructor
  · rintro ⟨⟨previous, cap, lost, any, idle, fixed⟩, profiles⟩
    exact ⟨⟨previous, cap, lost, idle, fixed, profiles⟩, any⟩
  · rintro ⟨⟨previous, cap, lost, idle, fixed, profiles⟩, any⟩
    exact ⟨⟨previous, cap, lost, any, idle, fixed⟩, profiles⟩

/-- What the ceiling's limits rest on is as it was, or only looser. -/
structure LimitsKept (s t : State) : Prop where
  ceiling : t.auth.ceiling = s.auth.ceiling
  previous : t.auth.previous = s.auth.previous
  profiles : t.auth.profiles = s.auth.profiles
  index : t.auth.active = s.auth.active
  quality : t.odo.quality = .lost → s.odo.quality = .lost
  idle : t.station.state ≠ .active → s.station.state ≠ .active
  fixed : t.isCarrier = false → s.isCarrier = false

theorem LimitsKept.limits {s t : State} (kept : LimitsKept s t) (limits : CeilingLimits s) : CeilingLimits t where
  previous := by rw [kept.previous, kept.ceiling]; exact limits.previous
  cap := by
    unfold State.profile
    rw [kept.ceiling, kept.profiles, kept.index]
    exact limits.cap
  lost h := by rw [kept.ceiling]; exact limits.lost (kept.quality h)
  idle h := by rw [kept.ceiling]; exact limits.idle (kept.idle h)
  fixed h := by rw [kept.ceiling]; exact limits.fixed (kept.fixed h)
  profiles := by
    unfold profilesInRange
    rw [kept.profiles]
    exact limits.profiles

/-! ### The ceiling under the small operations -/

theorem sendWord_ceiling (v : Nat) (s : State) :
    (sendWord v s).auth.ceiling = s.auth.ceiling ∧ (sendWord v s).auth.previous = s.auth.previous := by
  unfold sendWord
  split
  · split <;> exact ⟨rfl, rfl⟩
  · exact ⟨rfl, rfl⟩

theorem giveWay_ceiling (s : State) :
    (giveWay s).auth.ceiling = s.auth.ceiling ∧ (giveWay s).auth.previous = s.auth.previous := by
  unfold giveWay
  split <;> exact ⟨rfl, rfl⟩

theorem recordConflict_ceiling (z n : Nat) (s : State) :
    (recordConflict z n s).auth.ceiling = s.auth.ceiling ∧ (recordConflict z n s).auth.previous = s.auth.previous := by
  rw [recordConflict_eq]
  split
  · rw [raiseNotice_auth]; exact ⟨rfl, rfl⟩
  · exact ⟨rfl, rfl⟩

/-- Of the inner operations three change the ceiling. -/
theorem Move.ceiling_same {f : Flag} {s t : State} (m : Move f s t) (kind : f ∈ innerF)
    (other : f ∉ [Flag.ceiling, .tick, .overrun]) :
    t.auth.ceiling = s.auth.ceiling ∧ t.auth.previous = s.auth.previous := by
  cases m with
  | notice n => rw [raiseNotice_auth]; exact ⟨rfl, rfl⟩
  | urgent => rw [urgentRequest_auth]; exact ⟨rfl, rfl⟩
  | word v => exact sendWord_ceiling v s
  | conflict z n | firstConflict z n => exact recordConflict_ceiling z n s
  | release z => rw [(giveWay_ceiling _).1, (giveWay_ceiling _).2, urgentRequest_auth]; exact ⟨rfl, rfl⟩
  | surrender z | yield z =>
    rw [(giveWay_ceiling _).1, (giveWay_ceiling _).2, raiseNotice_auth, urgentRequest_auth]
    exact ⟨rfl, rfl⟩
  | reorder =>
    unfold Machine.reorder
    split <;> exact ⟨rfl, rfl⟩
  | clearOverrun =>
    unfold Machine.clearOverrun
    split <;> exact ⟨rfl, rfl⟩
  | _ =>
    first
      | exact absurd kind (by decide)
      | exact absurd (by decide) other
      | exact ⟨rfl, rfl⟩

theorem Inner.limitsKept {s t : State} (inner : Inner s t)
    (ceiling : t.auth.ceiling = s.auth.ceiling ∧ t.auth.previous = s.auth.previous) : LimitsKept s t where
  ceiling := ceiling.1
  previous := ceiling.2
  profiles := by rw [inner.auth]
  index := by rw [inner.auth]
  quality h := by rw [← inner.odo]; exact h
  idle h := by rw [← inner.station]; exact h
  fixed h := by rw [← inner.isCarrier]; exact h

/-- A ceiling no higher, set in a state that keeps the rest. -/
theorem CeilingLimits.lowered {v : Nat} {s : State} (limits : CeilingLimits s) (lower : v ≤ s.auth.ceiling) :
    CeilingLimits (setCeiling v s) where
  previous := rfl
  cap := Nat.le_trans lower limits.cap
  lost h := Nat.le_trans lower (limits.lost h)
  idle h := Nat.le_zero.mp (limits.idle h ▸ lower)
  fixed h := Nat.le_zero.mp (limits.fixed h ▸ lower)
  profiles := limits.profiles

theorem sendWord_limits {v : Nat} {s : State} (limits : CeilingLimits s) : CeilingLimits (sendWord v s) :=
  ((sendWord_inner v s).limitsKept (sendWord_ceiling v s)).limits limits

theorem dropCeiling_limits {s : State} (limits : CeilingLimits s) : CeilingLimits (dropCeiling s) := by
  unfold dropCeiling
  split
  · exact sendWord_limits (limits.lowered (Nat.zero_le _))
  · exact limits

theorem dropCeiling_zero (s : State) : (dropCeiling s).auth.ceiling = 0 := by
  unfold dropCeiling
  split
  · rw [(sendWord_ceiling _ _).1]; rfl
  · rename_i positive
    exact Nat.le_zero.mp (Nat.not_lt.mp positive)

theorem setOverrun_limits {s : State} (limits : CeilingLimits s) : CeilingLimits (setOverrun s) :=
  LimitsKept.limits (s := s) ⟨rfl, rfl, rfl, rfl, id, id, id⟩ limits

theorem overrunCause_limits {s : State} (limits : CeilingLimits s) : CeilingLimits (overrunCause s) := by
  have lowered : LimitsKept (setOverrun s) (lowerHorizon (setOverrun s)) := ⟨rfl, rfl, rfl, rfl, id, id, id⟩
  unfold overrunCause
  split
  · exact setOverrun_limits limits
  · exact dropCeiling_limits (lowered.limits (setOverrun_limits limits))

/-! ### The tick (R115 to R118) -/

theorem foldl_min_le (xs : List Nat) (n : Nat) : xs.foldl min n ≤ n := by
  induction xs generalizing n with
  | nil => exact Nat.le_refl _
  | cons x xs ih => exact Nat.le_trans (ih (min n x)) (Nat.min_le_left n x)

theorem rawCeiling_le_cap (s : State) : rawCeiling s ≤ s.profile.cap := by
  unfold rawCeiling
  dsimp only
  split
  · exact Nat.le_trans (Nat.min_le_left _ _) (foldl_min_le _ _)
  · exact foldl_min_le _ _
  · exact foldl_min_le _ _

theorem rawCeiling_le_lost {s : State} (lost : s.odo.quality = .lost) : rawCeiling s ≤ 300 := by
  unfold rawCeiling
  dsimp only
  rw [lost]
  exact Nat.min_le_right _ _

/-- The value a tick sets is within the raw ceiling, and 0 under a STOP cause. -/
theorem tickCeiling_value (s : State) :
    ∃ v, tickCeiling s = sendWord v (setCeiling v s) ∧ v ≤ rawCeiling s ∧ (s.auth.causes.any = true → v = 0) := by
  refine ⟨_, rfl, ?_, fun any => if_pos any⟩
  split
  · exact Nat.zero_le _
  · exact Nat.min_le_left _ _

/-- A tick on a carrier in ACTIVE sets a ceiling within all its limits, whatever stood before. -/
theorem tickCeiling_limits {s : State} (carrier : s.isCarrier = true) (active : s.station.state = .active)
    (profiles : profilesInRange s) : CeilingLimits (tickCeiling s) ∧ stopsAtZero (tickCeiling s) := by
  obtain ⟨v, eq, raw, zero⟩ := tickCeiling_value s
  rw [eq]
  refine ⟨sendWord_limits ⟨rfl, Nat.le_trans raw (rawCeiling_le_cap s), fun lost => Nat.le_trans raw (rawCeiling_le_lost lost),
    fun idle => absurd active idle, fun fixed => absurd (carrier.symm.trans fixed) (by decide), profiles⟩, fun any => ?_⟩
  rw [sendWord_causes] at any
  rw [(sendWord_ceiling _ _).1]
  exact zero any

/-! ### The limits under every move -/

theorem fallToLost_limits {s : State} (limits : CeilingLimits s) : CeilingLimits (fallToLost s) := by
  unfold fallToLost
  split
  · exact limits
  · generalize hm : raiseNotice (.positionLost s.s) (setOdo { s.odo with quality := .lost } s) = m
    have inner : Inner (setOdo { s.odo with quality := .lost } s) m := hm ▸ raiseNotice_inner _ _
    have auth : m.auth = s.auth := by rw [← hm, raiseNotice_auth]; rfl
    have fixed (h : m.isCarrier = false) : s.isCarrier = false := inner.isCarrier.symm.trans h
    have idle (h : m.station.state ≠ .active) : s.station.state ≠ .active := by rw [inner.station] at h; exact h
    have unlimited (low : s.auth.ceiling ≤ 300) : CeilingLimits m := by
      refine ⟨by rw [auth]; exact limits.previous, ?_, fun _ => by rw [auth]; exact low,
        fun h => by rw [auth]; exact limits.idle (idle h), fun h => by rw [auth]; exact limits.fixed (fixed h), ?_⟩
      · unfold State.profile; rw [auth]; exact limits.cap
      · unfold profilesInRange; rw [auth]; exact limits.profiles
    unfold limitLost
    split
    · rename_i high
      rw [auth] at high
      refine sendWord_limits ⟨rfl, ?_, fun _ => Nat.le_refl _, fun h => ?_, fun h => ?_, ?_⟩
      · show 300 ≤ m.profile.cap
        unfold State.profile
        rw [auth]
        exact Nat.le_trans (Nat.le_of_lt high) limits.cap
      · exact absurd (limits.idle (idle h)) (by omega)
      · exact absurd (limits.fixed (fixed h)) (by omega)
      · show profilesInRange m
        unfold profilesInRange
        rw [auth]
        exact limits.profiles
    · rename_i low
      rw [auth] at low
      exact unlimited (Nat.not_lt.mp low)

theorem clamp_clamp {x lo hi : Nat} (ordered : lo ≤ hi) : clamp (clamp x lo hi) lo hi = clamp x lo hi := by
  unfold clamp
  omega

theorem limited_inRange (p : Profile) : p.limited.inRange := by
  simp [Profile.inRange, Profile.limited, clamp_clamp]

theorem set_profilesInRange {ix : LoadIndex} {p : Profile} {s : State} (inRange : profilesInRange s) :
    profilesInRange (setProfiles (s.auth.profiles.set ix p.limited) s) := by
  obtain ⟨unladen, laden, high⟩ := inRange
  cases ix with
  | unladen => exact ⟨limited_inRange p, laden, high⟩
  | laden => exact ⟨unladen, limited_inRange p, high⟩
  | ladenHigh => exact ⟨unladen, laden, limited_inRange p⟩

theorem parkBase_auth (s : State) : (parkBase s).auth = s.auth := by
  unfold parkBase parkSchedule
  split <;> rfl

theorem parkBase_odo (s : State) : (parkBase s).odo = s.odo := by
  unfold parkBase parkSchedule
  split <;> rfl

/-- With the ceiling at 0 every limit stands. -/
theorem ceilingLimits_of_zero {s : State} (ceiling : s.auth.ceiling = 0) (previous : s.auth.previous = 0)
    (profiles : profilesInRange s) : CeilingLimits s :=
  ⟨previous.trans ceiling.symm, ceiling ▸ Nat.zero_le _, fun _ => ceiling ▸ Nat.zero_le _, fun _ => ceiling,
    fun _ => ceiling, profiles⟩

theorem default_inRange : Profiles.default.unladen.inRange ∧ Profiles.default.laden.inRange ∧
    Profiles.default.ladenHigh.inRange := by decide

theorem Move.limits {f : Flag} {s t : State} (m : Move f s t) (other : f ≠ .retune) (limits : CeilingLimits s) :
    CeilingLimits t := by
  have zero (idle : s.station.state ≠ .active) : s.auth.ceiling = 0 ∧ s.auth.previous = 0 :=
    ⟨limits.idle idle, limits.previous.trans (limits.idle idle)⟩
  by_cases kind : f ∈ innerF
  · by_cases value : f ∉ [Flag.ceiling, .tick, .overrun]
    · exact ((m.inner kind).limitsKept (m.ceiling_same kind value)).limits limits
    · cases m with
      | ceiling v _ fall => exact limits.lowered (Nat.le_of_lt fall)
      | tick _ carrier active => exact (tickCeiling_limits carrier active limits.profiles).1
      | overrun => exact overrunCause_limits limits
      | _ => exact absurd (by decide) value
  cases m with
  | lost => exact fallToLost_limits limits
  | lay => exact LimitsKept.limits (s := s) ⟨rfl, rfl, rfl, rfl, nofun, id, id⟩ limits
  | odo o _ _ grade => exact LimitsKept.limits (s := s) ⟨rfl, rfl, rfl, rfl, grade, id, id⟩ limits
  | index ix _ idle =>
    obtain ⟨ceiling, previous⟩ := zero idle
    exact ceilingLimits_of_zero ceiling previous limits.profiles
  | profile ix p _ parked =>
    obtain ⟨ceiling, previous⟩ := zero (by rw [parked]; decide)
    exact ceilingLimits_of_zero ceiling previous (set_profilesInRange limits.profiles)
  | fault code w _ boot | listen w _ boot =>
    obtain ⟨ceiling, previous⟩ := zero (by rw [boot]; decide)
    exact ceilingLimits_of_zero ceiling previous limits.profiles
  | active | activate => exact LimitsKept.limits (s := s) ⟨rfl, rfl, rfl, rfl, id, fun h => absurd rfl h, id⟩ limits
  | park =>
    refine sendWord_limits (ceilingLimits_of_zero rfl rfl ?_)
    show profilesInRange (parkBase s)
    unfold profilesInRange
    rw [parkBase_auth]
    exact limits.profiles
  | parkFixed _ _ fixed =>
    refine ceilingLimits_of_zero ?_ ?_ ?_
    · rw [parkBase_auth]; exact limits.fixed fixed
    · rw [parkBase_auth]; exact limits.previous.trans (limits.fixed fixed)
    · unfold profilesInRange; rw [parkBase_auth]; exact limits.profiles
  | frame =>
    unfold enqueueFrame
    split <;> exact LimitsKept.limits (s := s) ⟨rfl, rfl, rfl, rfl, id, id, id⟩ limits
  | hold reason stands => cases reason <;> exact LimitsKept.limits (s := s) ⟨rfl, rfl, rfl, rfl, id, id, id⟩ limits
  | finish =>
    exact LimitsKept.limits (s := s) ⟨by rw [finish_auth], by rw [finish_auth], by rw [finish_auth], by rw [finish_auth],
      by rw [finish_odo]; exact id, by rw [finish_station]; exact id,
      by unfold State.isCarrier State.cls; rw [finish_station]; exact id⟩ limits
  | powerOn => exact ceilingLimits_of_zero rfl rfl default_inRange
  | restart => exact ceilingLimits_of_zero rfl rfl limits.profiles
  | runs =>
    unfold releaseReset
    split
    · exact limits
    · exact LimitsKept.limits (s := s) ⟨rfl, rfl, rfl, rfl, id, id, id⟩ limits
  | retune => exact absurd rfl other
  | _ =>
    first
      | exact absurd (by decide) kind
      | exact LimitsKept.limits (s := s) ⟨rfl, rfl, rfl, rfl, id, id, id⟩ limits

/-! ### The ceiling under a STOP cause (R122) -/

theorem stopsAtZero_of_same {s t : State} (causes : t.auth.causes = s.auth.causes)
    (ceiling : t.auth.ceiling = s.auth.ceiling) (stops : stopsAtZero s) : stopsAtZero t := fun any => by
  rw [ceiling]
  exact stops (causes ▸ any)

theorem stopsAtZero_of_zero {s : State} (zero : s.auth.ceiling = 0) : stopsAtZero s := fun _ => zero

/-- Fewer causes bring no stop. -/
theorem any_of_fewer {c d : StopCauses} (boot : c.boot = true → d.boot = true)
    (fault : c.configFault = true → d.configFault = true) (conflict : c.conflict = true → d.conflict = true)
    (overrun : c.overrun = true → d.overrun = true) (any : c.any = true) : d.any = true := by
  unfold StopCauses.any at any ⊢
  simp only [Bool.or_eq_true] at any ⊢
  exact any.imp (Or.imp (Or.imp boot fault) conflict) overrun

theorem overrunCause_stops {s : State} (stops : stopsAtZero s) : stopsAtZero (overrunCause s) := by
  unfold overrunCause
  split
  · rename_i any
    exact fun _ => stops any
  · exact stopsAtZero_of_zero (dropCeiling_zero _)

theorem fallToLost_ceiling_le (s : State) : (fallToLost s).auth.ceiling ≤ s.auth.ceiling := by
  unfold fallToLost limitLost
  split
  · exact Nat.le_refl _
  · rw [raiseNotice_auth]
    split
    · rename_i high
      rw [(sendWord_ceiling _ _).1]
      exact Nat.le_of_lt high
    · rw [raiseNotice_auth]
      exact Nat.le_refl _

/-- Every other move leaves the ceiling at 0 under a STOP cause. -/
theorem Move.stops {f : Flag} {s t : State} (m : Move f s t) (other : f ≠ .firstConflict) (changed : f ≠ .retune)
    (limits : CeilingLimits s) (stops : stopsAtZero s) : stopsAtZero t := by
  have after := m.limits changed limits
  by_cases kind : f ∉ [Flag.conflict, .firstConflict, .clear, .overrun, .station, .reset, .ceiling, .tick, .lost]
  · have causes := (m.causesSame (by revert kind; cases f <;> decide)).causes
    by_cases inner : f ∈ innerF
    · exact stopsAtZero_of_same causes (m.ceiling_same inner (by revert kind; cases f <;> decide)).1 stops
    cases m with
    | frame =>
      unfold enqueueFrame at *
      split <;> exact stops
    | _ =>
      first
        | exact absurd (by decide) kind
        | exact absurd (by decide) inner
        | exact stopsAtZero_of_same causes rfl stops
  cases m with
  | conflict z n _ stopped =>
    refine stopsAtZero_of_zero ((recordConflict_ceiling z n s).1.trans ?_)
    obtain any | fixed | idle := stopped
    · exact stops any
    · exact limits.fixed fixed
    · exact limits.idle idle
  | clearConflicts => exact fun any => stops (any_of_fewer (c := { s.auth.causes with conflict := false }) id id nofun id any)
  | clearOverrun =>
    unfold Machine.clearOverrun at *
    split
    · exact fun any => stops (any_of_fewer (c := { s.auth.causes with overrun := false }) id id id nofun any)
    · exact stops
  | overrun => exact overrunCause_stops stops
  | ceiling v _ fall => exact fun any => Nat.le_zero.mp (stops any ▸ (Nat.le_of_lt fall))
  | tick _ carrier active => exact (tickCeiling_limits carrier active limits.profiles).2
  | lost =>
    intro any
    rw [(fallToLost_causesSame s).causes] at any
    exact Nat.le_zero.mp (stops any ▸ fallToLost_ceiling_le s)
  | fault | listen | powerOn | restart => exact stopsAtZero_of_zero (after.idle nofun)
  | park => exact stopsAtZero_of_zero (after.idle (parkStopped_idle s))
  | parkFixed =>
    refine stopsAtZero_of_zero (after.idle ?_)
    rw [parkBase_station]
    exact nofun
  | finish => exact stopsAtZero_of_same (by rw [finish_auth]) (by rw [finish_auth]) stops
  | hold reason stands => cases reason <;> exact stops
  | runs =>
    unfold releaseReset
    split <;> exact stops
  | listenTimer | active | activate | mark | reach => exact stops
  | _ => first | exact absurd rfl other | exact absurd (by decide) kind

theorem recomputeCeiling_limits {s : State} (limits : CeilingLimits s) : CeilingLimits (recomputeCeiling s) := by
  refine (recomputeCeiling_moves s).keeps (fun f _ _ member move => move.limits ?_) limits
  rintro rfl
  exact absurd member (by decide)

/-- A recompute sets the ceiling to 0 under a STOP cause, whatever stood before. -/
theorem recomputeCeiling_stops (s : State) : stopsAtZero (recomputeCeiling s) := by
  unfold recomputeCeiling
  dsimp only
  intro any
  by_cases fall : (if (overrunTest s).auth.causes.any then 0 else
      min (rawCeiling (overrunTest s)) (overrunTest s).auth.previous) < (overrunTest s).auth.ceiling
  · rw [if_pos fall] at any ⊢
    rw [sendWord_causes] at any
    rw [(sendWord_ceiling _ _).1]
    exact if_pos any
  · rw [if_neg fall] at any ⊢
    rw [if_pos any] at fall
    omega

/-- A first conflict drops the ceiling by its immediate recompute (R76, R108). -/
theorem conflictOutcome_ceilingInv (z n : Nat) {s : State} (inv : ceilingInv s) : ceilingInv (conflictOutcome z n s) := by
  obtain ⟨limits, stops⟩ := ceilingInv_iff.mp inv
  have noted : CeilingLimits (recordConflict z n s) := (Move.firstConflict z n s).limits (by decide) limits
  rw [ceilingInv_iff]
  unfold conflictOutcome
  split
  · rename_i any
    exact ⟨noted, stopsAtZero_of_zero ((recordConflict_ceiling z n s).1.trans (stops any))⟩
  · have gave : CeilingLimits (giveWay (recordConflict z n s)) :=
      ((giveWay_inner _).limitsKept (giveWay_ceiling _)).limits noted
    rw [immediateRecompute_eq]
    split
    · exact ⟨recomputeCeiling_limits gave, recomputeCeiling_stops _⟩
    · rename_i idle
      refine ⟨gave, stopsAtZero_of_zero ?_⟩
      have inner := giveWay_inner (recordConflict z n s)
      by_cases carrier : (recordConflict z n s).isCarrier = true
      · exact gave.idle (by rw [inner.station]; exact fun active => idle ⟨carrier, active⟩)
      · exact gave.fixed (by rw [inner.isCarrier]; exact Bool.eq_false_iff.mpr carrier)

/-! ### The step -/

theorem Move.ceilingInv {f : Flag} {s t : State} (m : Move f s t) (other : f ≠ .firstConflict) (changed : f ≠ .retune)
    (inv : ceilingInv s) : ceilingInv t := by
  obtain ⟨limits, stops⟩ := ceilingInv_iff.mp inv
  exact ceilingInv_iff.mpr ⟨m.limits changed limits, m.stops other changed limits stops⟩

theorem Moves.ceilingInv {F : List Flag} {s t : State} (m : Moves F s t) (other : .firstConflict ∉ F)
    (changed : .retune ∉ F) (inv : ceilingInv s) : ceilingInv t := by
  refine m.keeps (fun f _ _ member move => move.ceilingInv ?_ ?_) inv
  · rintro rfl
    exact member.elim nofun other
  · rintro rfl
    exact member.elim nofun changed

theorem takePending_profiles (s : State) : (takePending s).auth.profiles = s.auth.profiles := by
  rw [takePending_eq]
  split
  · rfl
  · split
    · rfl
    · rw [(listingTest_inner _).auth]; rfl

theorem tickTested_profiles (s : State) : (tickTested s).auth.profiles = s.auth.profiles := by
  have inner : Inner (takePending s) (tickTested s) := (setHorizon_inner _ _).trans (overrunTest_inner _)
  rw [inner.auth]
  exact takePending_profiles s

/-- A tick sets the ceiling within the profile it has taken. -/
theorem authorityTickWork_ceilingInv {s : State} (carrier : s.isCarrier = true) (active : s.station.state = .active)
    (profiles : profilesInRange s) : ceilingInv (authorityTickWork s) := by
  have station := tickTested_station s
  rw [authorityTickWork_eq]
  refine (commitAll_moves _).ceilingInv (by decide) (by decide) (ceilingInv_iff.mpr (tickCeiling_limits ?_ ?_ ?_))
  · rw [isCarrier_of_station station]; exact carrier
  · rw [station]; exact active
  · unfold profilesInRange; rw [tickTested_profiles]; exact profiles

theorem enterActive_ceilingInv {s : State} (running : s.running = true) (inv : ceilingInv s) :
    ceilingInv (enterActive s) := by
  have activated : ceilingInv (activeBase s) := (Move.activate s running).ceilingInv (by decide) (by decide) inv
  rw [enterActive_eq]
  split
  · rename_i carrier
    have inner : Inner (activeBase s) (listingTest (announceQueued (activeBase s))) :=
      (announceQueued_inner _).trans (listingTest_inner _)
    refine authorityTickWork_ceilingInv (by rw [inner.isCarrier]; exact carrier) (by rw [inner.station]; rfl) ?_
    unfold profilesInRange
    rw [inner.auth]
    exact inv.2
  · exact activated

theorem applyStart_ceilingInv {x : Int} {cells : List RouteCell} {s : State} (carrier : s.isCarrier = true)
    (listening : s.station.state = .listen) (few : cells.length ≤ 4) (inRange : ∀ c ∈ cells, c.inRange = true)
    (inv : ceilingInv s) : ceilingInv (applyStart x (layCells 0 cells) s) := by
  obtain ⟨v, moves, running, eq⟩ | moves := applyStart_parts (x := x) carrier listening few inRange
  · rw [eq]
    exact enterActive_ceilingInv running (moves.ceilingInv (by decide) (by decide) inv)
  · exact moves.ceilingInv (by decide) (by decide) inv

theorem giveUpStanding_ceilingInv {s : State} (fixed : s.isCarrier = false) (inv : ceilingInv s) :
    ceilingInv (giveUpStanding s) := (giveUpStanding_moves fixed).ceilingInv (by decide) (by decide) inv

theorem owner_ceilingInv {h : Handler} (owner : Owner h) {s : State} (inv : ceilingInv s) : ceilingInv (h s).1 := by
  obtain result := owner_result owner s
  generalize (h s).1 = t at result
  cases result with
  | plain moves => exact moves.ceilingInv (by decide) (by decide) inv
  | active moves running => exact enterActive_ceilingInv running (moves.ceilingInv (by decide) (by decide) inv)
  | start x cells carrier listening few inRange => exact applyStart_ceilingInv carrier listening few inRange inv
  | cut kept => exact (applyCut_moves kept s).ceilingInv (by decide) (by decide) inv
  | giveUp fixed => exact giveUpStanding_ceilingInv fixed inv
  | park active => exact (applyPark_moves active).ceilingInv (by decide) (by decide) inv

theorem quiet_ceilingInv {s t : State} (move : Quiet s t) (inv : ceilingInv s) : ceilingInv t := by
  cases quiet_whole move with
  | plain moves => exact moves.ceilingInv (by decide) (by decide) inv
  | tick carrier active => exact authorityTickWork_ceilingInv carrier active inv.2
  | active moves running => exact enterActive_ceilingInv running (moves.ceilingInv (by decide) (by decide) inv)
  | sample pA pB => exact (sampleWork_moves pA pB s).ceilingInv (by decide) (by decide) inv
  | handled kind owner room => exact owner_ceilingInv owner inv

/-! ### What the Claim Window makes of the table -/

theorem doubleHoldTest_ceilingInv (z n : Nat) (c : Claim) {s : State} (inv : ceilingInv s) :
    ceilingInv (doubleHoldTest z n c s) := by
  have tested : ceilingInv (commitTest z s) := (commitTest_moves z s).ceilingInv (by decide) (by decide) inv
  unfold doubleHoldTest
  dsimp only
  split
  · exact tested
  · rename_i e found
    have yielded (held : e.state = .held) (unmarked : e.committed = false) :
        ceilingInv (yieldEntry z n (commitTest z s)) :=
      (yieldEntry_moves n found held unmarked).ceilingInv (by decide) (by decide) tested
    split
    · exact tested
    · rename_i notHeld
      have held : e.state = .held := by simpa using notHeld
      split
      · exact conflictOutcome_ceilingInv _ _ tested
      · exact tested
      · exact yielded held (by assumption)
      · split
        · exact yielded held (by assumption)
        · exact tested

theorem windowPart_ceilingInv {s t : State} (part : WindowPart s t) (inv : ceilingInv s) : ceilingInv t := by
  cases part with
  | none => exact inv
  | takes b zones =>
    have folded : ceilingInv ((doubleHeld b s).foldl (fun s z => testAgainst b z s) s) := by
      refine foldl_keeps (I := fun s => Machine.ceilingInv s) (fun s z inv => ?_) _ s inv
      unfold testAgainst
      split
      · exact doubleHoldTest_ceilingInv _ _ _ inv
      · exact inv
    exact (reevaluateZones_moves _ _).ceilingInv (by decide) (by decide) folded
  | reeval sel => exact (reevaluateZones_moves sel s).ceilingInv (by decide) (by decide) inv
  | noted n sel =>
    exact (reevaluateZones_moves sel _).ceilingInv (by decide) (by decide)
      ((Move.notice n s).ceilingInv (by decide) (by decide) inv)

/-- Settles O55. -/
theorem stepKeepsCeiling : Obligations.StepKeepsCeiling := by
  unfold Obligations.StepKeepsCeiling
  refine fun s u start h => step_keeps (I := Machine.ceilingInv) (fun _ _ h => h)
    (fun _ _ move => quiet_ceilingInv move) (fun _ _ move inv => ?_) start h
  obtain ⟨m, table, window⟩ := tableMove_parts move
  exact windowPart_ceilingInv window (table.ceilingInv (by decide) (by decide) inv)

end Sys2Proof.Machine
end

section
/-! The route, the claims it needs and the horizon (O54). The bounds of the route stand at every move. An entry that loses its
need is released or removed by the delivery behind the move that took the need; the horizon stands within the held run but
between a new or a cut route and the recompute that follows it. -/

namespace Sys2Proof.Machine

-- One proof after another: many at a time want more threads than the memory limit of a build leaves.
set_option Elab.async false


/-! ### Zones that stay HELD -/

theorem isHeld_iff {s : State} {z : Nat} : isHeld s z = true ↔ ∃ e ∈ s.window.entries, e.zone = z ∧ e.state = .held := by
  unfold isHeld
  simp

theorem isHeld_map {s t : State} {z : Nat} {f : ClaimEntry → ClaimEntry} (zone : KeepsZone f)
    (entries : (∃ e ∈ s.window.entries.map f, e.zone = z ∧ e.state = .held) →
      ∃ e ∈ t.window.entries, e.zone = z ∧ e.state = .held)
    (held : ∀ e ∈ s.window.entries, e.zone = z → e.state = .held → (f e).state = .held) (h : isHeld s z = true) :
    isHeld t z = true := by
  obtain ⟨e, he, same, state⟩ := isHeld_iff.mp h
  exact isHeld_iff.mpr (entries ⟨f e, List.mem_map_of_mem he, (zone e).trans same, held e he same state⟩)

/-- A change of one entry that leaves it HELD when it is. -/
theorem isHeld_modifyEntry {s : State} {y z : Nat} {f : ClaimEntry → ClaimEntry} (zone : KeepsZone f)
    (held : ∀ e ∈ s.window.entries, e.zone = z → e.state = .held → (f e).state = .held) (h : isHeld s y = true) :
    isHeld (modifyEntry z f s) y = true := by
  refine isHeld_map (s := s) (f := fun e => if e.zone == z then f e else e) (fun e => ?_) id (fun e he _ state => ?_) h
  · dsimp only
    split
    · exact zone e
    · rfl
  · split
    · rename_i same
      exact held e he (by simpa using same) state
    · exact state

/-- An entry that the move has found in another state is not HELD. -/
theorem isHeld_modify_unheld {s : State} {y z : Nat} {f : ClaimEntry → ClaimEntry} (zone : KeepsZone f) {x : ClaimEntry}
    (fits : windowFits s.window) (found : findEntry z s = some x) (unheld : x.state ≠ .held) (h : isHeld s y = true) :
    isHeld (modifyEntry z f s) y = true :=
  isHeld_modifyEntry zone (fun e he same state => by
    subst same
    rw [found_eq fits he found] at unheld
    exact absurd state unheld) h

theorem isHeld_of_perm {s t : State} {z : Nat} (perm : s.window.entries.Perm t.window.entries) (h : isHeld s z = true) :
    isHeld t z = true := by
  obtain ⟨e, he, rest⟩ := isHeld_iff.mp h
  exact isHeld_iff.mpr ⟨e, perm.mem_iff.mp he, rest⟩

theorem isHeld_congr {s t : State} (entries : t.window.entries = s.window.entries) (z : Nat) : isHeld t z = isHeld s z := by
  unfold isHeld
  rw [entries]

/-- Only releases, yields and resets end HELD, and removals. -/
theorem Move.held_stays {f : Flag} {s t : State} (m : Move f s t) (other : f ∉ [Flag.release, .yield, .remove, .reset])
    (fits : Machine.windowFits s.window) {z : Nat} (h : isHeld s z = true) : isHeld t z = true := by
  by_cases entries : f ∉ entryF
  · rw [isHeld_congr (m.entries_same entries).1]
    exact h
  have mapped {g : ClaimEntry → ClaimEntry} {t : State} (zone : KeepsZone g) (same : ∀ e, (g e).state = e.state)
      (entries : t.window.entries = s.window.entries.map g) : isHeld t z = true :=
    isHeld_map zone (by rw [entries]; exact id) (fun e _ _ state => (same e).trans state) h
  cases m with
  | commit | settle | report => exact isHeld_modifyEntry (fun _ => rfl) (fun _ _ _ state => state) h
  | block z _ x found state => exact isHeld_modify_unheld (block_zone _ _) fits found (by rw [state]; decide) h
  | track => exact isHeld_modifyEntry (trackBlock_zone _ _) (fun _ _ _ state => state) h
  | unblock z _ x found state => exact isHeld_modify_unheld (unblock_zone _ _) fits found (by rw [state]; decide) h
  | grant => exact isHeld_modifyEntry grant_zone (fun _ _ _ _ => rfl) h
  | announce z _ queued =>
    obtain ⟨x, found, state⟩ := queued fits
    exact isHeld_modify_unheld (announceFirst_zone _ _) fits found (by rw [state]; decide) h
  | occupy => exact isHeld_modifyEntry occupy_zone (fun e _ _ _ => occupy_state e) h
  | occupyNew | list =>
    obtain ⟨e, he, rest⟩ := isHeld_iff.mp h
    exact isHeld_iff.mpr ⟨e, (addEntry_perm _ _).mem_iff.mpr (List.mem_cons_of_mem _ he), rest⟩
  | revive => exact isHeld_modifyEntry (revive_zone _) (fun _ _ _ _ => rfl) h
  | reorder => exact isHeld_of_perm (reorder_perm s).symm h
  | needs =>
    have updated : isHeld (setEntries (s.window.entries.map (ClaimEntry.updateNeeds s.route.cells)) s) z = true :=
      mapped (updateNeeds_zone _) (fun _ => rfl) rfl
    exact isHeld_of_perm (orderEntries_perm _ _).symm updated
  | waits => exact mapped waitMore_zone (fun e => (waitMore_state e).1) rfl
  | completes => exact mapped completed_zone (fun e => (completed_state e).1) rfl
  | air => exact mapped (g := fun e => { e with air := e.airNow }) (fun _ => rfl) (fun _ => rfl) rfl
  | standing rs _ _ empty =>
    obtain ⟨e, he, -⟩ := isHeld_iff.mp h
    rw [empty] at he
    exact nomatch he
  | giveUp => exact h
  | commitStanding =>
    refine mapped (commitIn_zone _) (fun e => ?_) rfl
    unfold ClaimEntry.commitIn
    split <;> rfl
  | _ =>
    first
      | exact absurd (by decide) other
      | exact absurd (by decide) entries

/-! ### The held run (R112) -/

theorem heldRunEnd_start_le {held : StoredCell → Bool} : ∀ {x : Int} {cells : List StoredCell}, laidFrom x cells →
    x ≤ heldRunEnd held x cells
  | _, [], _ => Int.le_refl _
  | x, c :: cs, laid => by
    obtain ⟨entry, rest⟩ := laid
    unfold heldRunEnd
    split
    · have := heldRunEnd_start_le (held := held) rest
      have : x ≤ c.exit := by unfold StoredCell.exit; omega
      omega
    · exact Int.le_refl _

/-- The held run grows with the zones HELD and with the cells. -/
theorem heldRunEnd_mono {held held' : StoredCell → Bool} : ∀ {x : Int} {cells more : List StoredCell},
    (∀ c ∈ cells, held c = true → held' c = true) → laidFrom x (cells ++ more) →
      heldRunEnd held x cells ≤ heldRunEnd held' x (cells ++ more)
  | _, [], _, _, laid => heldRunEnd_start_le laid
  | x, c :: cs, more, grows, laid => by
    obtain ⟨entry, (rest : laidFrom c.exit (cs ++ more))⟩ := laid
    have ih := heldRunEnd_mono (fun d hd => grows d (List.mem_cons_of_mem c hd)) rest
    rw [List.cons_append]
    unfold heldRunEnd
    by_cases run : held c = true
    · rw [if_pos run, if_pos (grows c List.mem_cons_self run)]
      exact ih
    · rw [if_neg run]
      split
      · have := heldRunEnd_start_le (held := held') rest
        have : x ≤ c.exit := by unfold StoredCell.exit; omega
        omega
      · exact Int.le_refl _

theorem hZone_eq {s : State} (laid : laidFrom 0 s.route.cells) : hZone s = heldRunEnd (cellHeld s) 0 s.route.cells := by
  unfold hZone
  split
  · rename_i empty
    rw [empty]
    rfl
  · rename_i c cs cells
    rw [cells] at laid ⊢
    rw [laid.1]

theorem cellHeld_mono {s t : State} {cells : List StoredCell}
    (grows : ∀ z, isNeeded z cells = true → isHeld s z = true → isHeld t z = true) :
    ∀ c ∈ cells, cellHeld s c = true → cellHeld t c = true := by
  intro c hc held
  unfold cellHeld at held ⊢
  rw [List.all_eq_true] at held ⊢
  exact fun z hz => grows z (isNeeded_of_mem hc hz) (held z hz)

theorem laidFrom_append : ∀ {x : Int} {cells more : List StoredCell},
    laidFrom x (cells ++ more) ↔ laidFrom x cells ∧ laidFrom (((cells.getLast?.map StoredCell.exit)).getD x) more
  | x, [], more => by simp [laidFrom]
  | x, [c], more => by simp [laidFrom]
  | x, c :: d :: cs, more => by
    have ih := laidFrom_append (x := c.exit) (cells := d :: cs) (more := more)
    rw [List.cons_append]
    show (_ ∧ laidFrom c.exit (d :: cs ++ more)) ↔ (_ ∧ laidFrom c.exit (d :: cs)) ∧ _
    rw [ih, and_assoc, List.getLast?_cons_cons]
    have some : ((d :: cs).getLast?.map StoredCell.exit).isSome := by simp
    obtain ⟨y, hy⟩ := Option.isSome_iff_exists.mp some
    rw [hy]
    rfl

theorem hZone_mono {s t : State} {more : List StoredCell} (laid : laidFrom 0 (s.route.cells ++ more))
    (cells : t.route.cells = s.route.cells ++ more)
    (grows : ∀ z, isNeeded z s.route.cells = true → isHeld s z = true → isHeld t z = true) : hZone s ≤ hZone t := by
  have laidS : laidFrom 0 s.route.cells := (laidFrom_append.mp laid).1
  rw [hZone_eq laidS, hZone_eq (cells ▸ laid), cells]
  exact heldRunEnd_mono (cellHeld_mono grows) laid

end Sys2Proof.Machine
end

section
/-! The bounds of the route, the silent start and the class of the station with a route (O54, first part). -/

namespace Sys2Proof.Machine

-- One proof after another: many at a time want more threads than the memory limit of a build leaves.
set_option Elab.async false


/-! ### Cells -/

theorem layCells_length : ∀ (x : Int) (cells : List RouteCell), (layCells x cells).length = cells.length
  | _, [] => rfl
  | _, _ :: cs => congrArg (· + 1) (layCells_length _ cs)

theorem layCells_laid : ∀ (x : Int) (cells : List RouteCell), laidFrom x (layCells x cells)
  | _, [] => trivial
  | _, _ :: cs => ⟨rfl, layCells_laid _ cs⟩

theorem layCells_cell : ∀ {x : Int} {cells : List RouteCell} {c : StoredCell}, c ∈ layCells x cells → c.cell ∈ cells
  | _, _ :: _, _, member => by
    obtain rfl | member := List.mem_cons.mp member
    · exact List.mem_cons_self
    · exact List.mem_cons_of_mem _ (layCells_cell member)

theorem laidFrom_shift (L : Int) : ∀ {x : Int} {cells : List StoredCell}, laidFrom x cells →
    laidFrom (x - L) (cells.map (fun c => { c with entry := c.entry - L }))
  | _, [], _ => trivial
  | x, c :: cs, ⟨entry, rest⟩ => by
    refine ⟨by rw [← entry], ?_⟩
    have exits : StoredCell.exit { c with entry := c.entry - L } = c.exit - L := by
      show c.entry - L + (c.cell.length : Int) = c.entry + (c.cell.length : Int) - L
      omega
    rw [exits]
    exact laidFrom_shift L rest

/-- Cells that keep their places and their contents lie where they lay. -/
theorem laidFrom_modify {f : StoredCell → StoredCell} (entry : ∀ c, (f c).entry = c.entry) (cell : ∀ c, (f c).cell = c.cell) :
    ∀ {i : Nat} {x : Int} {cells : List StoredCell}, laidFrom x cells → laidFrom x (cells.modify i f)
  | _, _, [], _ => by simp [laidFrom]
  | 0, _, c :: cs, ⟨start, rest⟩ => by
    have exits : (f c).exit = c.exit := by unfold StoredCell.exit; rw [entry, cell]
    rw [List.modify_zero_cons]
    exact ⟨(entry c).trans start, exits.symm ▸ rest⟩
  | i + 1, _, c :: cs, ⟨start, rest⟩ => by
    rw [List.modify_succ_cons]
    exact ⟨start, laidFrom_modify entry cell rest⟩

theorem mem_modify {f : StoredCell → StoredCell} {i : Nat} {cells : List StoredCell} {c : StoredCell}
    (member : c ∈ cells.modify i f) : c ∈ cells ∨ ∃ d ∈ cells, c = f d := by
  obtain ⟨j, bound, rfl⟩ := List.getElem_of_mem member
  rw [List.length_modify] at bound
  rw [List.getElem_modify]
  split
  · exact .inr ⟨_, List.getElem_mem bound, rfl⟩
  · exact .inl (List.getElem_mem bound)

theorem parkBase_route (s : State) : (parkBase s).route = s.route := by
  unfold parkBase parkSchedule
  split <;> rfl

/-- The route of `t` is that of `s`. -/
theorem Move.route_same {f : Flag} {s t : State} (m : Move f s t) (other : f ∉ [Flag.cells, .shift, .append, .reset]) :
    t.route = s.route := by
  by_cases kind : f ∈ innerF
  · exact (m.inner kind).route
  cases m with
  | lost =>
    unfold fallToLost
    split
    · rfl
    · exact ((raiseNotice_inner _ _).trans (limitLost_inner _)).route
  | park => exact (parkStopped_inner s).route.trans (parkBase_route s)
  | parkFixed => exact parkBase_route s
  | frame =>
    unfold enqueueFrame
    split <;> rfl
  | _ =>
    first
      | exact absurd (by decide) other
      | exact absurd (by decide) kind
      | rfl

theorem routeLaid_congr {s t : State} (route : t.route = s.route) (laid : routeLaid s) : routeLaid t := by
  unfold routeLaid
  rw [route]
  exact laid

theorem Move.routeLaid {f : Flag} {s t : State} (m : Move f s t) (laid : routeLaid s) : routeLaid t := by
  by_cases other : f ∉ [Flag.cells, .shift, .append, .reset]
  · exact routeLaid_congr (m.route_same other) laid
  obtain ⟨few, inRange, places⟩ := laid
  cases m with
  | lay x cells _ _ _ short allInRange =>
    refine ⟨?_, fun c hc => allInRange _ (layCells_cell hc), layCells_laid 0 cells⟩
    show (layCells 0 cells).length ≤ 64
    rw [layCells_length]
    omega
  | append cells _ _ _ _ allInRange room =>
    refine ⟨?_, fun c hc => ?_, laidFrom_append.mpr ⟨places, layCells_laid _ _⟩⟩
    · show (s.route.cells ++ _).length ≤ 64
      rw [List.length_append, layCells_length]
      exact room
    · obtain hc | hc := List.mem_append.mp hc
      · exact inRange c hc
      · exact allInRange _ (layCells_cell hc)
  | cut kept =>
    refine ⟨Nat.le_trans (List.length_take_le' _ _) few, fun c hc => inRange c (List.mem_of_mem_take hc), ?_⟩
    rw [← List.take_append_drop kept s.route.cells] at places
    exact (laidFrom_append.mp places).1
  | shift c d rest _ cells =>
    rw [cells] at few inRange places
    obtain ⟨entry, places⟩ := places
    refine ⟨?_, fun x hx => ?_, ?_⟩
    · show ((d :: rest).map _).length ≤ 64
      rw [List.length_map]
      simp only [List.length_cons] at few ⊢
      omega
    · obtain ⟨y, hy, rfl⟩ := List.mem_map.mp hx
      exact inRange y (List.mem_cons_of_mem c hy)
    · have shifted := laidFrom_shift c.cell.length places
      have zero : c.exit - (c.cell.length : Int) = 0 := by unfold StoredCell.exit; omega
      rw [zero] at shifted
      exact shifted
  | releaseStop p =>
    refine ⟨?_, fun c hc => ?_, laidFrom_modify (f := fun c => { c with released := true }) (fun _ => rfl)
      (fun _ => rfl) places⟩
    · show (s.route.cells.modify _ _).length ≤ 64
      rw [List.length_modify]
      exact few
    · obtain hc | ⟨d, hd, rfl⟩ := mem_modify hc
      · exact inRange c hc
      · exact inRange d hd
  | finish => exact routeLaid_congr (finish_route s) ⟨few, inRange, places⟩
  | powerOn | restart => exact ⟨Nat.zero_le 64, fun _ h => (nomatch h), trivial⟩
  | reach => exact ⟨few, inRange, places⟩
  | hold reason stands => exact ⟨few, inRange, places⟩
  | runs =>
    unfold releaseReset
    split <;> exact ⟨few, inRange, places⟩
  | _ => exact absurd (by decide) other

/-! ### The silent start (R4, R126) -/

/-- The blocks of a part that has not started are empty, the radio silent. -/
structure Silent (s : State) : Prop where
  cells : s.route.cells = []
  entries : s.window.entries = []
  peers : s.table.peers = []
  queue : s.radio.queue = []
  radio : s.radio.silent

theorem silentAtStart_iff {s : State} : silentAtStart s ↔ (s.running = false → Silent s) := by
  constructor
  · intro h stops
    obtain ⟨cells, entries, peers, queue, tx, slot, next, rx⟩ := h stops
    exact ⟨cells, entries, peers, queue, tx, slot, next, rx⟩
  · intro h stops
    obtain ⟨cells, entries, peers, queue, tx, slot, next, rx⟩ := h stops
    exact ⟨cells, entries, peers, queue, tx, slot, next, rx⟩

theorem urgentRequest_stopped {s : State} (stops : s.running = false) : urgentRequest s = s := by
  unfold urgentRequest
  simp [stops]

theorem raiseNotice_radio (n : Notice) (s : State) : (raiseNotice n s).radio = s.radio := by
  unfold raiseNotice
  split <;> rfl

theorem sendWord_radio (v : Nat) (s : State) : (sendWord v s).radio = s.radio := by
  unfold sendWord
  split
  · split <;> rfl
  · rfl

theorem giveWay_radio (s : State) : (giveWay s).radio = s.radio := by
  unfold giveWay
  split <;> rfl

theorem recordConflict_radio (z n : Nat) (s : State) : (recordConflict z n s).radio = s.radio := by
  rw [recordConflict_eq]
  split
  · rw [raiseNotice_radio]; rfl
  · rfl

theorem dropCeiling_radio (s : State) : (dropCeiling s).radio = s.radio := by
  unfold dropCeiling
  split
  · rw [sendWord_radio]; rfl
  · rfl

theorem overrunCause_radio (s : State) : (overrunCause s).radio = s.radio := by
  unfold overrunCause
  split
  · rfl
  · rw [dropCeiling_radio]; rfl

/-- Of a part that has not started the inner operations leave the radio. -/
theorem Move.radio_stopped {f : Flag} {s t : State} (m : Move f s t) (kind : f ∈ innerF) (stops : s.running = false) :
    t.radio = s.radio := by
  cases m with
  | notice n => exact raiseNotice_radio n s
  | urgent => rw [urgentRequest_stopped stops]
  | word v => exact sendWord_radio v s
  | release z | surrender z | yield z =>
    rw [urgentRequest_stopped (by exact stops)]
    simp only [giveWay_radio, raiseNotice_radio]
    rfl
  | reorder =>
    unfold Machine.reorder
    split <;> rfl
  | conflict z n | firstConflict z n => exact recordConflict_radio z n s
  | clearOverrun =>
    unfold Machine.clearOverrun
    split <;> rfl
  | overrun => exact overrunCause_radio s
  | tick => exact sendWord_radio _ _
  | _ =>
    first
      | exact absurd kind (by decide)
      | rfl

/-- Without cells no zone is needed, and no entry comes. -/
theorem Origin.old {s : State} {f : Flag} {e : ClaimEntry} (origin : Origin s f e) (cells : s.route.cells = [])
    (standing : f ≠ .standing) : s.window.entries ≠ [] := by
  have needless (z : Nat) : isNeeded z s.route.cells ≠ true := by rw [cells]; exact nofun
  cases origin
  case occupyNew z _ needed => exact absurd (by assumption) (needless z)
  case list z _ needed => exact absurd (by assumption) (needless z)
  case standing => exact absurd rfl standing
  case commitStanding => exact absurd rfl standing
  all_goals exact List.ne_nil_of_mem (by assumption)

/-- No kind of move but standing claims brings an entry into an empty window beside an empty store. -/
theorem Move.entries_empty {f : Flag} {s t : State} (m : Move f s t) (standing : f ≠ .standing) (cells : s.route.cells = [])
    (entries : s.window.entries = []) : t.window.entries = [] :=
  List.eq_nil_iff_forall_not_mem.mpr fun _ member => (m.origin member).old cells standing entries

theorem Inner.silent {s t : State} (inner : Inner s t) (entries : t.window.entries = []) (radio : t.radio = s.radio)
    (silent : Silent s) : Silent t where
  cells := by rw [inner.route]; exact silent.cells
  entries := entries
  peers := by rw [inner.table]; exact silent.peers
  queue := by rw [radio]; exact silent.queue
  radio := by rw [radio]; exact silent.radio

/-- The blocks are as they were. -/
theorem Silent.congr {s t : State} (silent : Silent s) (route : t.route = s.route) (window : t.window.entries = s.window.entries)
    (peers : t.table.peers = s.table.peers) (radio : t.radio = s.radio) : Silent t where
  cells := by rw [route]; exact silent.cells
  entries := by rw [window]; exact silent.entries
  peers := by rw [peers]; exact silent.peers
  queue := by rw [radio]; exact silent.queue
  radio := by rw [radio]; exact silent.radio

theorem silent_reset (cause : ResetCause) (profiles : Profiles) (trim : Nat) (s : State) :
    Silent (resetBlocks cause profiles trim s) := ⟨rfl, rfl, rfl, rfl, rfl, rfl, rfl, rfl⟩

theorem finish_silent {s : State} (silent : Silent s) : Silent (finish s) where
  cells := by rw [finish_route]; exact silent.cells
  entries := by rw [finish_window]; exact silent.entries
  peers := by rw [finish_relevance, silent.peers]; rfl
  queue := by rw [finish_radio]; exact silent.queue
  radio := by rw [finish_radio]; exact silent.radio

theorem removePeer_empty {n : Nat} {s : State} (peers : s.table.peers = []) : (removePeer n s).table.peers = [] := by
  show s.table.peers.filter _ = []
  rw [peers]
  rfl

theorem parkBase_running (s : State) : (parkBase s).running = true := by
  unfold State.running
  rw [parkBase_station]

theorem parkStopped_running (s : State) : (parkStopped s).running = true :=
  (parkStopped_inner s).running.trans (parkBase_running s)

theorem Move.silent {f : Flag} {s t : State} (m : Move f s t) (before : s.running = false → Silent s)
    (stops : t.running = false) : Silent t := by
  by_cases kind : f ∈ innerF
  · have inner := m.inner kind
    have stopped : s.running = false := inner.running.symm.trans stops
    have silent := before stopped
    exact inner.silent (m.entries_empty (by rintro rfl; exact absurd kind (by decide)) silent.cells silent.entries)
      (m.radio_stopped kind stopped) silent
  have wrong (running : s.running = true) (same : t.running = s.running) : Silent t :=
    absurd (same.symm.trans stops) (by rw [running]; decide)
  cases m with
  | air b gap _ slot =>
    have silent := before stops
    exact absurd (slot.symm.trans silent.radio.2.1) nofun
  | standing rs _ _ _ _ _ running => exact wrong running rfl
  | giveUp => exact (before stops).congr rfl rfl rfl rfl
  | commitStanding =>
    have silent := before stops
    refine ⟨silent.cells, ?_, silent.peers, silent.queue, silent.radio⟩
    show s.window.entries.map _ = []
    rw [silent.entries]
    rfl
  | lost =>
    have same := fallToLost_tableSame s
    have silent := before (same.running.symm.trans stops)
    refine silent.congr ((Move.lost s).route_same (by decide)) (by rw [fallToLost_window]) same.peers ?_
    unfold fallToLost limitLost
    split
    · rfl
    · split
      · rw [sendWord_radio]
        show (raiseNotice _ _).radio = _
        rw [raiseNotice_radio]
        rfl
      · rw [raiseNotice_radio]
        rfl
  | lay x cells _ _ running => exact wrong running rfl
  | append cells _ _ running => exact wrong running rfl
  | cut kept =>
    have silent := before stops
    refine ⟨?_, silent.entries, silent.peers, silent.queue, silent.radio⟩
    show s.route.cells.take kept = []
    rw [silent.cells, List.take_nil]
  | shift c d rest _ cells =>
    have silent := before stops
    exact absurd (cells.symm.trans silent.cells) nofun
  | releaseStop p =>
    have silent := before stops
    refine ⟨?_, silent.entries, silent.peers, silent.queue, silent.radio⟩
    show s.route.cells.modify _ _ = []
    rw [silent.cells]
    exact List.modify_nil ..
  | fault code w _ boot => exact (before (boot_not_running boot)).congr rfl rfl rfl rfl
  | listen | active | activate => exact nomatch stops
  | park => exact absurd (parkStopped_running s) (by rw [stops]; decide)
  | parkFixed => exact absurd (parkBase_running s) (by rw [stops]; decide)
  | radio r _ queue seq silence =>
    have silent := before stops
    refine ⟨silent.cells, silent.entries, silent.peers, ?_, silence stops silent.radio⟩
    have := queue.length_le
    rw [silent.queue] at this
    exact List.length_eq_zero_iff.mp (Nat.le_zero.mp this)
  | frame bytes _ running =>
    refine wrong running ?_
    unfold enqueueFrame
    split <;> rfl
  | put b _ running | replace b n _ running => exact wrong running rfl
  | drop n =>
    have silent := before stops
    exact ⟨silent.cells, silent.entries, removePeer_empty silent.peers, silent.queue, silent.radio⟩
  | age n =>
    have silent := before stops
    refine ⟨silent.cells, silent.entries, ?_, silent.queue, silent.radio⟩
    show s.table.peers.map _ = []
    rw [silent.peers]
    rfl
  | finish => exact finish_silent (before (by unfold State.running at stops ⊢; rw [finish_station] at stops; exact stops))
  | powerOn => exact (silent_reset .powerOn .default 65536 s).congr rfl rfl rfl rfl
  | restart cause => exact silent_reset cause _ _ s
  | hold reason stands => cases reason <;> exact (before stops).congr rfl rfl rfl rfl
  | runs =>
    unfold releaseReset at stops ⊢
    split
    · rename_i held
      rw [if_pos held] at stops
      exact before stops
    · rename_i free
      rw [if_neg free] at stops
      exact (before stops).congr rfl rfl rfl rfl
  | _ =>
    first
      | exact absurd (by decide) kind
      | exact (before stops).congr rfl rfl rfl rfl

/-! ### A FIXED station has no route (R4) -/

theorem parkBase_isCarrier (s : State) : (parkBase s).isCarrier = s.isCarrier := by
  unfold State.isCarrier State.cls
  rw [parkBase_station]

theorem isCarrier_unread {s : State} (unread : s.station.cfg = none) : s.isCarrier = true := by
  unfold State.isCarrier State.cls
  rw [unread]
  rfl

/-- The class stays but at the reading of the word and at resets. -/
theorem Move.isCarrier_same {f : Flag} {s t : State} (m : Move f s t) (other : f ∉ [Flag.station, .reset]) :
    t.isCarrier = s.isCarrier := by
  by_cases kind : f ∈ innerF
  · exact (m.inner kind).isCarrier
  cases m with
  | lost =>
    unfold fallToLost
    split
    · rfl
    · exact ((raiseNotice_inner _ _).trans (limitLost_inner _)).isCarrier
  | frame =>
    unfold enqueueFrame
    split <;> rfl
  | _ =>
    first
      | exact absurd (by decide) other
      | exact absurd (by decide) kind
      | rfl

theorem Move.fixedHasNoRoute {f : Flag} {s t : State} (m : Move f s t) (before : s.running = false → Silent s)
    (none : fixedHasNoRoute s) : fixedHasNoRoute t := by
  intro fixed
  by_cases other : f ∉ [Flag.cells, .shift, .append, .reset, .station]
  · rw [m.route_same (by revert other; cases f <;> decide)]
    exact none ((m.isCarrier_same (by revert other; cases f <;> decide)).symm.trans fixed)
  cases m with
  | lay _ _ _ carrier | append _ _ carrier => exact absurd (carrier.symm.trans fixed) (by decide)
  | cut kept =>
    show s.route.cells.take kept = []
    rw [none fixed, List.take_nil]
  | shift c d rest _ cells => exact absurd (cells.symm.trans (none fixed)) nofun
  | releaseStop p =>
    show s.route.cells.modify _ _ = []
    rw [none fixed]
    exact List.modify_nil ..
  | fault code w _ boot | listen w _ boot => exact (before (boot_not_running boot)).cells
  | listenTimer | active | activate | mark | reach => exact none fixed
  | park =>
    rw [((parkStopped_inner s).route.trans (parkBase_route s))]
    exact none (((parkStopped_inner s).isCarrier.trans (parkBase_isCarrier s)).symm.trans fixed)
  | parkFixed =>
    rw [parkBase_route]
    exact none ((parkBase_isCarrier s).symm.trans fixed)
  | finish =>
    rw [finish_route]
    refine none ?_
    unfold State.isCarrier State.cls at fixed ⊢
    rw [finish_station] at fixed
    exact fixed
  | powerOn | restart => rfl
  | hold reason stands => cases reason <;> exact none fixed
  | runs =>
    unfold releaseReset at fixed ⊢
    split
    · rename_i held
      rw [if_pos held] at fixed
      exact none fixed
    · rename_i free
      rw [if_neg free] at fixed
      exact none fixed
  | _ => exact absurd (by decide) other

/-- What every move keeps of the route. -/
structure RouteBase (s : State) : Prop where
  laid : routeLaid s
  fits : windowFits s.window
  silent : s.running = false → Silent s
  fixed : fixedHasNoRoute s

theorem Move.routeBase {f : Flag} {s t : State} (m : Move f s t) (base : RouteBase s) : RouteBase t where
  laid := m.routeLaid base.laid
  fits := m.windowFits base.fits
  silent := m.silent base.silent
  fixed := m.fixedHasNoRoute base.silent base.fixed

theorem Moves.routeBase {F : List Flag} {s t : State} (m : Moves F s t) (base : RouteBase s) : RouteBase t :=
  m.keeps (fun _ _ _ _ move => move.routeBase) base

end Sys2Proof.Machine
end

section
/-! Needed claims and the horizon (O54, second part). -/

namespace Sys2Proof.Machine

-- One proof after another: many at a time want more threads than the memory limit of a build leaves.
set_option Elab.async false


/-! ### Claims that are needed (R146) -/

/-- A stored cell names the zone, on a FIXED station a standing claim. -/
def neededZone (s : State) (z : Nat) : Prop :=
  if s.isCarrier then isNeeded z s.route.cells = true else z ∈ s.window.standing.map Standing.zone

/-- An entry not RELEASING is needed, but for the zones of a list. -/
def claimsNeededBut (zs : List Nat) (s : State) : Prop :=
  ∀ e ∈ s.window.entries, e.state ≠ .releasing → e.zone ∈ zs ∨ neededZone s e.zone

theorem claimsNeeded_iff {s : State} : claimsNeeded s ↔ claimsNeededBut [] s := by
  unfold claimsNeeded claimsNeededBut neededZone
  simp

theorem neededZone_carrier {s : State} {z : Nat} (carrier : s.isCarrier = true) :
    neededZone s z ↔ isNeeded z s.route.cells = true := by
  unfold neededZone
  rw [if_pos carrier]

theorem neededZone_congr {s t : State} (carrier : t.isCarrier = s.isCarrier) (route : t.route = s.route)
    (standing : t.window.standing = s.window.standing) (z : Nat) : neededZone t z ↔ neededZone s z := by
  unfold neededZone
  rw [carrier, route, standing]

/-- An entry not RELEASING was such an entry before, or names a needed zone. -/
theorem Origin.needed {s : State} {f : Flag} {e : ClaimEntry} (origin : Origin s f e) (standing : f ≠ .standing)
    (fits : windowFits s.window) (active : e.state ≠ .releasing) :
    (∃ x ∈ s.window.entries, x.zone = e.zone ∧ x.state ≠ .releasing) ∨ neededZone s e.zone := by
  have came {x y : ClaimEntry} {state : ClaimState} (member : x ∈ s.window.entries) (found : findEntry x.zone s = some y)
      (was : y.state = state) (active : state ≠ .releasing) {z : Nat} (zone : x.zone = z) :
      (∃ x ∈ s.window.entries, x.zone = z ∧ x.state ≠ .releasing) ∨ neededZone s z :=
    .inl ⟨x, member, zone, by rw [← found_eq fits member found, was]; exact active⟩
  cases origin with
  | kept _ member | commit e member | track e member | needs e member | settle e member | report e member
  | air e member => exact .inl ⟨_, member, rfl, active⟩
  | block e member x found state | unblock e member x found state | grant e member x found state
  | yield e member x found state => exact came member found state nofun rfl
  | announce e member queued =>
    obtain ⟨x, found, state⟩ := queued fits
    exact came member found state nofun rfl
  | occupy e member need carrier =>
    rw [occupy_zone]
    exact .inr ((neededZone_carrier carrier).mpr need)
  | occupyNew z need carrier =>
    rw [occupy_entryFor_zone]
    exact .inr ((neededZone_carrier carrier).mpr need)
  | list z need runs => exact .inr ((neededZone_carrier (listingRuns_carrier runs)).mpr need)
  | revive e member x found state can need runs =>
    exact .inr ((neededZone_carrier (listingRuns_carrier runs)).mpr need)
  | release => exact absurd rfl active
  | waits e member =>
    obtain ⟨state, -⟩ := waitMore_state e
    exact .inl ⟨e, member, (waitMore_zone e).symm, state ▸ active⟩
  | completes e member =>
    obtain ⟨state, -⟩ := completed_state e
    exact .inl ⟨e, member, (completed_zone e).symm, state ▸ active⟩
  | standing | commitStanding => exact absurd rfl standing

theorem Move.standing_same {f : Flag} {s t : State} (m : Move f s t) (other : f ∉ [Flag.standing, .giveUp, .reset]) :
    t.window.standing = s.window.standing := by
  by_cases kind : f ∈ innerF
  · exact (m.inner kind).standing
  by_cases entries : f ∉ entryF
  · exact (m.entries_same entries).2
  cases m with
  | air => rfl
  | _ =>
    first
      | exact absurd (by decide) other
      | exact absurd (by decide) kind
      | exact absurd (by decide) entries

theorem isNeeded_append {z : Nat} {cells more : List StoredCell} (needed : isNeeded z cells = true) :
    isNeeded z (cells ++ more) = true := by
  unfold isNeeded at needed ⊢
  rw [List.any_append, needed]
  rfl

theorem isNeeded_modify {z : Nat} {f : StoredCell → StoredCell} (cell : ∀ c, (f c).cell = c.cell) :
    ∀ {i : Nat} {cells : List StoredCell}, isNeeded z (cells.modify i f) = isNeeded z cells
  | _, [] => by simp
  | 0, c :: cs => by
    rw [List.modify_zero_cons]
    unfold isNeeded StoredCell.needs
    rw [List.any_cons, List.any_cons, cell]
  | i + 1, c :: cs => by
    have ih := isNeeded_modify cell (z := z) (i := i) (cells := cs)
    unfold isNeeded at ih ⊢
    rw [List.modify_succ_cons, List.any_cons, List.any_cons, ih]

/-- A needed zone stays needed while no cell and no standing claim goes. -/
theorem Move.needed_stays {f : Flag} {s t : State} (m : Move f s t)
    (other : f ∉ [Flag.cells, .shift, .standing, .giveUp, .reset, .station]) {z : Nat} (needed : neededZone s z) :
    neededZone t z := by
  have carrier := m.isCarrier_same (by revert other; cases f <;> decide)
  have standing := m.standing_same (by revert other; cases f <;> decide)
  by_cases append : f ≠ .append
  · exact (neededZone_congr carrier (m.route_same (by revert other append; cases f <;> decide)) standing z).mpr needed
  cases m with
  | append cells _ onCarrier =>
    rw [neededZone_carrier onCarrier] at needed
    exact (neededZone_carrier (carrier.trans onCarrier)).mpr (isNeeded_append needed)
  | releaseStop p =>
    have cells : isNeeded z (Machine.releaseStop p s).route.cells = isNeeded z s.route.cells :=
      isNeeded_modify (f := fun c => { c with released := true }) fun _ => rfl
    unfold neededZone at needed ⊢
    rw [carrier, standing, cells]
    exact needed
  | _ => exact absurd nofun append

/-- Every move but those that take cells or standing claims keeps the claims needed. -/
theorem Move.claims {f : Flag} {s t : State} (m : Move f s t) (other : f ∉ [Flag.cells, .shift, .giveUp])
    (base : RouteBase s) {zs : List Nat} (claims : claimsNeededBut zs s) : claimsNeededBut zs t := by
  have same {t : State} (entries : t.window.entries = s.window.entries) (carrier : t.isCarrier = s.isCarrier)
      (route : t.route = s.route) (standing : t.window.standing = s.window.standing) : claimsNeededBut zs t := by
    intro e member active
    rw [neededZone_congr carrier route standing]
    exact claims e (entries ▸ member) active
  by_cases plain : f ∉ [Flag.cells, .shift, .standing, .giveUp, .reset, .station]
  · intro e member active
    refine Or.imp_right (m.needed_stays plain) ?_
    obtain ⟨x, hx, zone, was⟩ | needed :=
      (m.origin member).needed (by revert plain; cases f <;> decide) base.fits active
    · rw [← zone]
      exact claims x hx was
    · exact .inr needed
  have emptied {t : State} (entries : t.window.entries = []) : claimsNeededBut zs t := by
    intro e member
    rw [entries] at member
    exact nomatch member
  cases m with
  | standing rs _ fixed =>
    intro e member _
    obtain ⟨r, hr, rfl⟩ := List.mem_map.mp member
    refine .inr ?_
    unfold neededZone
    rw [if_neg (by rw [show (standingBase rs s).isCarrier = s.isCarrier from rfl, fixed]; decide)]
    exact List.mem_map_of_mem hr
  | commitStanding =>
    intro e member active
    obtain ⟨x, hx, rfl⟩ := List.mem_map.mp member
    have kept : ∀ y : ClaimEntry, y.state ≠ .releasing → y = x.commit ∨ y = x → y.zone ∈ zs ∨ neededZone s y.zone := by
      rintro y state (rfl | rfl)
      · exact claims x hx state
      · exact claims _ hx state
    refine kept _ active ?_
    split
    · exact .inl rfl
    · exact .inr rfl
  | reach => exact claims
  | finish =>
    exact same (by rw [finish_window]) (by unfold State.isCarrier State.cls; rw [finish_station]) (finish_route s)
      (by rw [finish_window])
  | powerOn | restart => exact emptied rfl
  | hold reason stands => cases reason <;> exact claims
  | runs =>
    unfold releaseReset
    split <;> exact claims
  | fault code w _ boot | listen w _ boot => exact emptied (base.silent (boot_not_running boot)).entries
  | listenTimer | active | activate | mark => exact claims
  | park =>
    exact same (by rw [parkStopped_window]) ((parkStopped_inner s).isCarrier.trans (parkBase_isCarrier s))
      ((parkStopped_inner s).route.trans (parkBase_route s)) (by rw [parkStopped_window])
  | parkFixed =>
    exact same (by rw [parkBase_window]) (parkBase_isCarrier s) (parkBase_route s) (by rw [parkBase_window])
  | _ => first | exact absurd (by decide) other | exact absurd (by decide) plain

theorem Moves.claims {F : List Flag} {s t : State} (m : Moves F s t) (cells : .cells ∉ F) (shift : .shift ∉ F)
    (giveUp : .giveUp ∉ F) (base : RouteBase s) {zs : List Nat} (claims : claimsNeededBut zs s) :
    claimsNeededBut zs t := by
  refine (m.keeps (I := fun t => RouteBase t ∧ claimsNeededBut zs t) (fun f _ _ member move ⟨base, claims⟩ =>
    ⟨move.routeBase base, move.claims ?_ base claims⟩) ⟨base, claims⟩).2
  intro bad
  simp only [List.mem_cons, List.not_mem_nil, or_false] at bad
  obtain rfl | member := member
  · revert bad; decide
  · obtain rfl | rfl | rfl := bad
    · exact cells member
    · exact shift member
    · exact giveUp member

/-! ### The horizon (R108, R113) -/

theorem hZone_congr {s t : State} (route : t.route = s.route) (entries : t.window.entries = s.window.entries) :
    hZone t = hZone s := by
  have held : cellHeld t = cellHeld s := by
    funext c
    unfold cellHeld
    congr 1
    funext z
    exact isHeld_congr entries z
  unfold hZone
  rw [route, held]

theorem grantedHorizon_le (s : State) : grantedHorizon s ≤ hZone s := by
  unfold grantedHorizon
  split
  · exact Int.min_le_left _ _
  · exact Int.le_refl _

theorem lowerHorizon_horizonHeld (s : State) : horizonHeld (lowerHorizon s) := by
  show min s.auth.horizon (grantedHorizon s) ≤ hZone (lowerHorizon s)
  rw [hZone_congr (s := s) (t := lowerHorizon s) rfl rfl]
  exact Int.le_trans (Int.min_le_right _ _) (grantedHorizon_le s)

theorem setGranted_horizonHeld (s : State) : horizonHeld (setHorizon (grantedHorizon s) s) := by
  show grantedHorizon s ≤ hZone (setHorizon (grantedHorizon s) s)
  rw [hZone_congr (s := s) (t := setHorizon (grantedHorizon s) s) rfl rfl]
  exact grantedHorizon_le s

theorem hZone_empty {s : State} (cells : s.route.cells = []) : hZone s = 0 := by
  unfold hZone
  rw [cells]

/-- A carrier gives way to the computed horizon; a FIXED station has the run and the horizon it had. -/
theorem giveWay_horizonHeld {s t : State} (route : t.route = s.route) (carrier : t.isCarrier = s.isCarrier)
    (horizon : t.auth.horizon = s.auth.horizon) (none : fixedHasNoRoute s) (held : horizonHeld s) :
    horizonHeld (giveWay t) := by
  unfold giveWay
  split
  · exact lowerHorizon_horizonHeld t
  · rename_i fixed
    have cells : s.route.cells = [] := none (by rw [← carrier]; exact Bool.eq_false_iff.mpr fixed)
    unfold horizonHeld at held ⊢
    rw [horizon, hZone_empty (route ▸ cells)]
    rw [hZone_empty cells] at held
    exact held

theorem sendWord_horizon (v : Nat) (s : State) : (sendWord v s).auth.horizon = s.auth.horizon := by
  unfold sendWord
  split
  · split <;> rfl
  · rfl

theorem dropCeiling_horizon (s : State) : (dropCeiling s).auth.horizon = s.auth.horizon := by
  unfold dropCeiling
  split
  · rw [sendWord_horizon]; rfl
  · rfl

theorem recordConflict_horizon (z n : Nat) (s : State) : (recordConflict z n s).auth.horizon = s.auth.horizon := by
  rw [recordConflict_eq]
  split
  · rw [raiseNotice_auth]; rfl
  · rfl

/-- The other moves raise no horizon. -/
theorem Move.horizon_le {f : Flag} {s t : State} (m : Move f s t)
    (other : f ∉ [Flag.horizon, .release, .yield, .reset]) : t.auth.horizon ≤ s.auth.horizon := by
  cases m with
  | notice n => exact Int.le_of_eq (by rw [raiseNotice_auth])
  | urgent => exact Int.le_of_eq (by rw [urgentRequest_auth])
  | word v => exact Int.le_of_eq (by rw [sendWord_horizon])
  | reorder =>
    unfold Machine.reorder
    split <;> exact Int.le_refl _
  | conflict | firstConflict => exact Int.le_of_eq (by rw [recordConflict_horizon])
  | clearOverrun =>
    unfold Machine.clearOverrun
    split <;> exact Int.le_refl _
  | overrun =>
    unfold overrunCause
    split
    · exact Int.le_refl _
    · rw [dropCeiling_horizon]
      exact Int.min_le_left _ _
  | lower => exact Int.min_le_left _ _
  | tick => exact Int.le_of_eq (sendWord_horizon _ _)
  | lost =>
    unfold fallToLost limitLost
    split
    · exact Int.le_refl _
    · split
      · rw [sendWord_horizon]
        show (raiseNotice _ _).auth.horizon ≤ _
        rw [raiseNotice_auth]
        exact Int.le_refl _
      · rw [raiseNotice_auth]
        exact Int.le_refl _
  | shift c d rest =>
    show s.auth.horizon - (c.cell.length : Int) ≤ s.auth.horizon
    omega
  | park =>
    unfold parkStopped
    rw [sendWord_horizon]
    show (parkBase s).auth.horizon ≤ _
    exact Int.le_of_eq (congrArg Authority.horizon (parkBase_auth s))
  | parkFixed => exact Int.le_of_eq (congrArg Authority.horizon (parkBase_auth s))
  | frame =>
    unfold enqueueFrame
    split <;> exact Int.le_refl _
  | _ =>
    first
      | exact absurd (by decide) other
      | exact Int.le_refl _

theorem heldRunEnd_modify {held : StoredCell → Bool} {f : StoredCell → StoredCell} (same : ∀ c, held (f c) = held c)
    (exits : ∀ c, (f c).exit = c.exit) :
    ∀ {i : Nat} {x : Int} {cells : List StoredCell}, heldRunEnd held x (cells.modify i f) = heldRunEnd held x cells
  | _, _, [] => by simp
  | 0, _, c :: cs => by
    rw [List.modify_zero_cons]
    unfold heldRunEnd
    rw [same, exits]
  | i + 1, _, c :: cs => by
    rw [List.modify_succ_cons]
    unfold heldRunEnd
    rw [heldRunEnd_modify same exits]

theorem hZone_releaseStop {p : Nat} {s : State} (laid : routeLaid s) : hZone (releaseStop p s) = hZone s := by
  rw [hZone_eq laid.2.2, hZone_eq ((Move.releaseStop p s).routeLaid laid).2.2]
  exact heldRunEnd_modify (f := fun c => { c with released := true }) (fun _ => rfl) fun _ => rfl

/-- Nothing but a new or a cut route, releases and resets takes from the held run. -/
theorem Move.hZone_le {f : Flag} {s t : State} (m : Move f s t)
    (other : f ∉ [Flag.cells, .shift, .release, .yield, .reset]) (base : RouteBase s) : hZone s ≤ hZone t := by
  have grows (z : Nat) (needed : isNeeded z s.route.cells = true) (held : isHeld s z = true) : isHeld t z = true := by
    by_cases plain : f ∉ [Flag.release, .yield, .remove, .reset]
    · exact m.held_stays plain base.fits held
    cases m with
    | remove zs _ gone =>
      obtain ⟨e, he, zone, state⟩ := isHeld_iff.mp held
      refine isHeld_iff.mpr ⟨e, List.mem_filter.mpr ⟨he, ?_⟩, zone, state⟩
      have carrier : s.isCarrier = true := by
        rw [← Bool.not_eq_false]
        intro fixed
        rw [base.fixed fixed] at needed
        exact nomatch needed
      rw [Bool.not_eq_true', ← Bool.not_eq_true, List.contains_iff_mem, zone]
      exact fun member => absurd (held.symm.trans (gone carrier base.fits z member needed)) (by decide)
    | _ => first | exact absurd (by decide) plain | exact absurd (by decide) other
  by_cases append : f ≠ .append
  · have route := m.route_same (by revert other append; cases f <;> decide)
    exact hZone_mono (more := []) (by rw [List.append_nil]; exact base.laid.2.2) (by rw [route, List.append_nil]) grows
  cases m with
  | append cells _ _ _ _ inRange room =>
    have laid := ((Move.append cells s (by assumption) (by assumption) (by assumption) inRange room).routeLaid base.laid).2.2
    exact hZone_mono laid rfl grows
  | releaseStop p => exact Int.le_of_eq (hZone_releaseStop base.laid).symm
  | _ => exact absurd nofun append

theorem heldRunEnd_shift {L : Int} (held : StoredCell → Bool)
    (same : ∀ c : StoredCell, held { c with entry := c.entry - L } = held c) : ∀ (x : Int) (cells : List StoredCell),
    heldRunEnd held (x - L) (cells.map (fun c => { c with entry := c.entry - L })) = heldRunEnd held x cells - L
  | _, [] => rfl
  | x, c :: cs => by
    have exits : StoredCell.exit { c with entry := c.entry - L } = c.exit - L := by
      show c.entry - L + (c.cell.length : Int) = c.entry + (c.cell.length : Int) - L
      omega
    rw [List.map_cons]
    unfold heldRunEnd
    rw [same, exits, heldRunEnd_shift held same]
    split <;> rfl

theorem shift_horizonHeld {c d : StoredCell} {rest : List StoredCell} {s : State} (cells : s.route.cells = c :: d :: rest)
    (laid : routeLaid s) (held : horizonHeld s) : horizonHeld (shiftDatum c.cell.length (d :: rest) s) := by
  have after := ((Move.shift c d rest s cells).routeLaid laid).2.2
  obtain ⟨-, -, places⟩ := laid
  unfold horizonHeld at held ⊢
  rw [hZone_eq places, cells] at held
  rw [cells] at places
  obtain ⟨entry, places⟩ := places
  rw [hZone_eq after]
  have exit : c.exit = (c.cell.length : Int) := by unfold StoredCell.exit; omega
  have shifted := heldRunEnd_shift (cellHeld s) (L := c.cell.length) (fun _ => rfl) c.exit (d :: rest)
  have start := heldRunEnd_start_le (held := cellHeld s) places
  show s.auth.horizon - (c.cell.length : Int) ≤
    heldRunEnd (cellHeld s) 0 ((d :: rest).map (fun x => { x with entry := x.entry - (c.cell.length : Int) }))
  rw [exit, Int.sub_self] at shifted
  rw [exit] at start
  rw [shifted]
  unfold heldRunEnd at held
  split at held
  · rw [exit] at held
    omega
  · omega

theorem Move.horizonHeld {f : Flag} {s t : State} (m : Move f s t) (other : f ≠ .cells) (base : RouteBase s)
    (held : horizonHeld s) : horizonHeld t := by
  by_cases plain : f ∉ [Flag.cells, .shift, .release, .yield, .reset, .horizon]
  · exact Int.le_trans (m.horizon_le (by revert plain; cases f <;> decide))
      (Int.le_trans held (m.hZone_le (by revert plain; cases f <;> decide) base))
  cases m with
  | horizon => exact setGranted_horizonHeld s
  | shift c d rest _ cells => exact shift_horizonHeld cells base.laid held
  | release z =>
    have inner : Inner s (urgentRequest (modifyEntry z ClaimEntry.release s)) :=
      (modifyEntry_inner _ _ _).trans (urgentRequest_inner _)
    exact giveWay_horizonHeld inner.route inner.isCarrier (by rw [urgentRequest_auth]; rfl) base.fixed held
  | surrender z =>
    have inner : Inner s (raiseNotice (.doubleHold z 0) (urgentRequest (modifyEntry z ClaimEntry.release s))) :=
      (modifyEntry_inner _ _ _).trans ((urgentRequest_inner _).trans (raiseNotice_inner _ _))
    exact giveWay_horizonHeld inner.route inner.isCarrier (by rw [raiseNotice_auth, urgentRequest_auth]; rfl) base.fixed held
  | yield z n =>
    have inner : Inner s (raiseNotice (.doubleHold z n) (urgentRequest (modifyEntry z (ClaimEntry.yieldTo s.now) s))) :=
      (modifyEntry_inner _ _ _).trans ((urgentRequest_inner _).trans (raiseNotice_inner _ _))
    exact giveWay_horizonHeld inner.route inner.isCarrier (by rw [raiseNotice_auth, urgentRequest_auth]; rfl) base.fixed held
  | reach => exact held
  | finish =>
    unfold Machine.horizonHeld
    rw [finish_auth, hZone_congr (finish_route s) (by rw [finish_window])]
    exact held
  | powerOn | restart => exact Int.le_refl _
  | hold reason stands => cases reason <;> exact held
  | runs =>
    unfold releaseReset
    split <;> exact held
  | _ => first | exact absurd rfl other | exact absurd (by decide) plain

theorem Moves.horizonHeld {F : List Flag} {s t : State} (m : Moves F s t) (cells : .cells ∉ F) (base : RouteBase s)
    (held : horizonHeld s) : horizonHeld t := by
  refine (m.keeps (I := fun t => RouteBase t ∧ Machine.horizonHeld t) (fun f _ _ member move ⟨base, held⟩ =>
    ⟨move.routeBase base, move.horizonHeld ?_ base held⟩) ⟨base, held⟩).2
  rintro rfl
  exact member.elim nofun cells

/-! ### Deliveries (R24, R37, R40) -/

/-- The released entry's zone leaves the list: its entry is RELEASING, or needed when something behind it took it up. -/
theorem releaseEntry_claims {z : Nat} {zs : List Nat} {s : State} (base : RouteBase s)
    (claims : claimsNeededBut (z :: zs) s) : claimsNeededBut zs (releaseEntry z s) := by
  have released : claimsNeededBut zs (giveWay (urgentRequest (modifyEntry z ClaimEntry.release s))) := by
    have inner : Inner s (giveWay (urgentRequest (modifyEntry z ClaimEntry.release s))) :=
      (Move.release z s).inner (by decide)
    intro e member active
    rw [neededZone_congr inner.isCarrier inner.route inner.standing]
    rw [giveWay_window, urgentRequest_window] at member
    obtain ⟨x, hx, rfl⟩ := List.mem_map.mp member
    by_cases zone : x.zone = z
    · simp [zone, ClaimEntry.release] at active
    · simp only [beq_iff_eq, zone, if_false] at active ⊢
      have known := claims x hx active
      rw [List.mem_cons] at known
      exact known.imp_left fun h => h.resolve_left zone
  exact (immediateRecompute_rest _).claims (by decide) (by decide) (by decide) ((Move.release z s).routeBase base) released

theorem releaseEntries_claims : ∀ {lost zs : List Nat} {s : State}, RouteBase s → claimsNeededBut (lost ++ zs) s →
    claimsNeededBut zs (lost.foldl (fun s z => releaseEntry z s) s)
  | [], _, _, _, claims => claims
  | z :: _, _, s, base, claims => releaseEntries_claims (s := releaseEntry z s) ((releaseEntry_moves z s).routeBase base)
      (releaseEntry_claims base claims)

theorem removeZones_claims {zs : List Nat} {s : State} (claims : claimsNeededBut zs s) :
    claimsNeededBut [] (removeZones zs s) := by
  intro e member active
  obtain ⟨member, stays⟩ := List.mem_filter.mp member
  obtain lost | needed := claims e member active
  · rw [Bool.not_eq_true', ← Bool.not_eq_true, List.contains_iff_mem] at stays
    exact absurd lost stays
  · exact .inr needed

theorem unheld_or {e : ClaimEntry} (active : e.state ≠ .releasing) : e.state = .held ∨ e.unheld = true := by
  unfold ClaimEntry.unheld
  cases state : e.state <;> simp_all

/-- On a carrier a delivery leaves no claim without need, whatever cells have come and gone. -/
theorem deliverNeeds_claims {s : State} (carrier : s.isCarrier = true) (base : RouteBase s) :
    claimsNeededBut [] (deliverNeeds s) := by
  have updated : RouteBase (updateAll s) := (Move.needs s).routeBase base
  generalize lostEq : (s.window.entries.filter (fun e => e.state = .held && !isNeeded e.zone s.route.cells)).map
    ClaimEntry.zone = lost
  generalize withdrawnEq : (s.window.entries.filter (fun e => e.unheld && !isNeeded e.zone s.route.cells)).map
    ClaimEntry.zone = withdrawn
  have claims : claimsNeededBut (lost ++ withdrawn) (updateAll s) := by
    intro e member active
    obtain ⟨x, hx, rfl⟩ := List.mem_map.mp ((orderEntries_perm _ _).mem_iff.mp member)
    show x.zone ∈ lost ++ withdrawn ∨ neededZone (updateAll s) x.zone
    rw [neededZone_congr (s := s) (t := updateAll s) rfl rfl rfl, neededZone_carrier carrier, List.mem_append]
    by_cases needed : isNeeded x.zone s.route.cells = true
    · exact .inr needed
    · rw [Bool.not_eq_true] at needed
      refine .inl ((unheld_or (e := x) active).imp (fun held => ?_) fun unheld => ?_)
      · rw [← lostEq]
        exact List.mem_map.mpr ⟨x, List.mem_filter.mpr ⟨hx, by simp [held, needed]⟩, rfl⟩
      · rw [← withdrawnEq]
        exact List.mem_map.mpr ⟨x, List.mem_filter.mpr ⟨hx, by simp [unheld, needed]⟩, rfl⟩
  have removed := removeZones_claims (releaseEntries_claims updated claims)
  have removedBase : RouteBase (removeZones withdrawn (lost.foldl (fun s z => releaseEntry z s) (updateAll s))) := by
    have released := (releaseEntries_moves lost _).routeBase updated
    exact { released with
      fits := windowFits_of_sublist (List.filter_sublist.map _) rfl released.fits
      silent := fun stops => { released.silent stops with
        entries := by
          show List.filter _ _ = []
          rw [(released.silent stops).entries]
          rfl } }
  subst lostEq withdrawnEq
  exact (reevaluateZones_moves _ _).claims (by decide) (by decide) (by decide) removedBase removed

end Sys2Proof.Machine
end

section
/-! The route, its claims and the horizon over a step (O54, third part): a new route, a cut, the rear removals of a sample
and standing claims given up. -/

namespace Sys2Proof.Machine

-- One proof after another: many at a time want more threads than the memory limit of a build leaves.
set_option Elab.async false


theorem routeInv_iff {s : State} : routeInv s ↔ RouteBase s ∧ claimsNeededBut [] s ∧ horizonHeld s := by
  constructor
  · rintro ⟨laid, fits, silent, fixed, claims, horizon⟩
    exact ⟨⟨laid, fits, silentAtStart_iff.mp silent, fixed⟩, claimsNeeded_iff.mp claims, horizon⟩
  · rintro ⟨⟨laid, fits, silent, fixed⟩, claims, horizon⟩
    exact ⟨laid, fits, silentAtStart_iff.mpr silent, fixed, claimsNeeded_iff.mpr claims, horizon⟩

theorem Moves.routeInv {F : List Flag} {s t : State} (m : Moves F s t) (cells : .cells ∉ F) (shift : .shift ∉ F)
    (giveUp : .giveUp ∉ F) (inv : routeInv s) : routeInv t := by
  obtain ⟨base, claims, horizon⟩ := routeInv_iff.mp inv
  exact routeInv_iff.mpr ⟨m.routeBase base, m.claims cells shift giveUp base claims, m.horizonHeld cells base horizon⟩

/-! ### Samples (R11) -/

theorem rearRemovals_routeInv : ∀ (k : Nat) {s : State}, s.isCarrier = true → routeInv s → routeInv (rearRemovals k s)
  | 0, _, _, inv => inv
  | k + 1, s, carrier, inv => by
    unfold rearRemovals
    split
    · rename_i c d rest cells
      split
      · obtain ⟨base, -, horizon⟩ := routeInv_iff.mp inv
        have shifted := (Move.shift c d rest s cells).routeBase base
        have held := shift_horizonHeld cells base.laid horizon
        have delivered : routeInv (deliverNeeds (shiftDatum c.cell.length (d :: rest) s)) :=
          routeInv_iff.mpr ⟨(deliverNeeds_moves _).routeBase shifted, deliverNeeds_claims carrier shifted,
            (deliverNeeds_moves _).horizonHeld (by decide) shifted held⟩
        refine rearRemovals_routeInv k ?_ ((listingTest_moves _).routeInv (by decide) (by decide) (by decide) delivered)
        rw [(deliver_inner _).isCarrier]
        exact carrier
      · exact inv
    · exact inv

theorem sampleUnit_isCarrier (pA pB : Nat) (s : State) : (sampleUnit pA pB s).isCarrier = s.isCarrier := by
  have moves := sampleUnit_moves pA pB s
  exact moves.keeps (I := fun t => t.isCarrier = s.isCarrier) (fun f _ _ member move same =>
    (move.isCarrier_same (by
      obtain rfl | member := member
      · decide
      · revert member; cases f <;> decide)).trans same) rfl

theorem sampleWork_routeInv (pA pB : Nat) {s : State} (carrier : s.isCarrier = true) (inv : routeInv s) :
    routeInv (sampleWork pA pB s) := by
  have next : routeInv (setOdo { s.odo with nextSample := s.odo.nextSample.map (· + samplePeriod) } s) := inv
  have sampled := (sampleUnit_moves pA pB _).routeInv (by decide) (by decide) (by decide) next
  exact (listingTest_moves _).routeInv (by decide) (by decide) (by decide)
    (rearRemovals_routeInv _ (by rw [sampleUnit_isCarrier]; exact carrier) sampled)

/-! ### A new route and a cut (R14, R176) -/

/-- The new route up to its recompute. -/
theorem startLaid_routeInv {x : Int} {cells : List RouteCell} {s : State} (carrier : s.isCarrier = true)
    (listening : s.station.state = .listen) (few : cells.length ≤ 4) (inRange : ∀ c ∈ cells, c.inRange = true)
    (base : RouteBase s) : routeInv (startLaid x (layCells 0 cells) s) := by
  have laid : RouteBase (layStart x (layCells 0 cells) s) :=
    (Move.lay x cells s carrier (running_of_state (.inl listening)) few inRange).routeBase base
  have delivered := (deliverNeeds_moves _).routeBase laid
  have claims := deliverNeeds_claims (s := layStart x (layCells 0 cells) s) carrier laid
  have occupied := startOccupants_moves x cells carrier listening
  have occupiedBase := occupied.routeBase delivered
  have occupiedClaims := occupied.claims (by decide) (by decide) (by decide) delivered claims
  have listed := listingTest_moves (startOccupants (deliverNeeds (layStart x (layCells 0 cells) s)))
  have listedBase := listed.routeBase occupiedBase
  have listedClaims := listed.claims (by decide) (by decide) (by decide) occupiedBase occupiedClaims
  exact routeInv_iff.mpr ⟨(Move.horizon _).routeBase listedBase, (Move.horizon _).claims (by decide) listedBase listedClaims,
    setGranted_horizonHeld _⟩

theorem immediateRecompute_routeInv {s : State} (carrier : s.isCarrier = true) (base : RouteBase s)
    (claims : claimsNeededBut [] s) : routeInv (immediateRecompute s) := by
  have gave : routeInv (giveWay s) := by
    refine routeInv_iff.mpr ⟨(giveWay_moves s).routeBase base,
      (giveWay_moves s).claims (by decide) (by decide) (by decide) base claims, ?_⟩
    unfold giveWay
    rw [if_pos carrier]
    exact lowerHorizon_horizonHeld s
  exact (immediateRecompute_rest s).routeInv (by decide) (by decide) (by decide) gave

theorem applyCut_routeInv {kept : Nat} {s : State} (carrier : s.isCarrier = true) (inv : routeInv s) :
    routeInv (applyCut kept s) := by
  unfold applyCut
  split
  · have cutBase := (Move.cut kept s).routeBase (routeInv_iff.mp inv).1
    have delivered := (deliverNeeds_moves _).routeBase cutBase
    have claims := deliverNeeds_claims (s := setCells (s.route.cells.take kept) s) carrier cutBase
    refine immediateRecompute_routeInv (by rw [(deliver_inner _).isCarrier]; exact carrier)
      ((listingTest_moves _).routeBase delivered)
      ((listingTest_moves _).claims (by decide) (by decide) (by decide) delivered claims)
  · exact inv

theorem enterActive_routeInv {s : State} (running : s.running = true) (inv : routeInv s) : routeInv (enterActive s) :=
  (enterActive_moves running).routeInv (by decide) (by decide) (by decide) inv

theorem applyStart_routeInv {x : Int} {cells : List RouteCell} {s : State} (carrier : s.isCarrier = true)
    (listening : s.station.state = .listen) (few : cells.length ≤ 4) (inRange : ∀ c ∈ cells, c.inRange = true)
    (base : RouteBase s) : routeInv (applyStart x (layCells 0 cells) s) := by
  have laid := startLaid_routeInv (x := x) carrier listening few inRange base
  have marked := (Moves.one (F := [.station]) (.mark _)).routeInv (by decide) (by decide) (by decide) laid
  have running : (markStarted (startLaid x (layCells 0 cells) s)).running = true := markStarted_running listening
  rw [applyStart_eq]
  generalize markStarted (startLaid x (layCells 0 cells) s) = m at marked running
  split
  · exact (enterActiveFromListen_moves running).routeInv (by decide) (by decide) (by decide) marked
  · exact marked

/-! ### Standing claims given up (R148) -/

/-- With no standing claims the withdrawn zones go and the held zones are released. -/
theorem giveUpStanding_routeInv {s : State} (fixed : s.isCarrier = false) (inv : routeInv s) :
    routeInv (giveUpStanding s) := by
  obtain ⟨base, -, horizon⟩ := routeInv_iff.mp inv
  have moves := giveUpStanding_moves fixed
  refine routeInv_iff.mpr ⟨moves.routeBase base, ?_, moves.horizonHeld (by decide) base horizon⟩
  rw [giveUpStanding_eq]
  have emptied := (Move.giveUp s fixed).routeBase base
  have removed := (Move.remove ((s.window.entries.filter ClaimEntry.unheld).map ClaimEntry.zone) (setStanding [] s)
    fun carrier => nomatch carrier.symm.trans fixed).routeBase emptied
  refine releaseEntries_claims (zs := []) removed ?_
  intro e member active
  obtain ⟨member, stays⟩ := List.mem_filter.mp member
  have old : e ∈ s.window.entries := member
  obtain held | unheld := unheld_or active
  · exact .inl (List.mem_append_left _ (List.mem_map_of_mem (List.mem_filter.mpr ⟨old, by simp [held]⟩)))
  · rw [Bool.not_eq_true', ← Bool.not_eq_true, List.contains_iff_mem] at stays
    exact absurd (List.mem_map_of_mem (List.mem_filter.mpr ⟨old, unheld⟩)) stays

theorem applyPark_routeInv {s : State} (active : s.station.state = .active) (inv : routeInv s) :
    routeInv (applyPark s) := by
  rw [applyPark_eq]
  split
  · rename_i carrier
    have parked : Moves [.station] s (parkStopped s) :=
      .one (.park s active ((parkBase_isCarrier s).symm.trans carrier))
    exact (giveUpAhead_moves (parkStopped_idle s)).routeInv (by decide) (by decide) (by decide)
      (parked.routeInv (by decide) (by decide) (by decide) inv)
  · rename_i fixed
    rw [Bool.not_eq_true] at fixed
    have parked : Moves [.station] s (parkBase s) :=
      .one (.parkFixed s active ((parkBase_isCarrier s).symm.trans fixed))
    exact giveUpStanding_routeInv fixed (parked.routeInv (by decide) (by decide) (by decide) inv)

/-! ### The step -/

theorem owner_routeInv {h : Handler} (owner : Owner h) {s : State} (inv : routeInv s) : routeInv (h s).1 := by
  obtain result := owner_result owner s
  generalize (h s).1 = t at result
  cases result with
  | plain moves => exact moves.routeInv (by decide) (by decide) (by decide) inv
  | active moves running => exact enterActive_routeInv running (moves.routeInv (by decide) (by decide) (by decide) inv)
  | start x cells carrier listening few inRange =>
    exact applyStart_routeInv carrier listening few inRange (routeInv_iff.mp inv).1
  | cut kept carrier => exact applyCut_routeInv carrier inv
  | giveUp fixed => exact giveUpStanding_routeInv fixed inv
  | park active => exact applyPark_routeInv active inv

theorem quiet_routeInv {s t : State} (move : Quiet s t) (inv : routeInv s) : routeInv t := by
  cases quiet_whole move with
  | plain moves => exact moves.routeInv (by decide) (by decide) (by decide) inv
  | tick carrier active => exact (authorityTickWork_moves carrier active).routeInv (by decide) (by decide) (by decide) inv
  | active moves running => exact enterActive_routeInv running (moves.routeInv (by decide) (by decide) (by decide) inv)
  | sample pA pB carrier => exact sampleWork_routeInv pA pB carrier inv
  | handled kind owner room => exact owner_routeInv owner inv

/-- Settles O54. -/
theorem stepKeepsRouteAndHorizon : Obligations.StepKeepsRouteAndHorizon := by
  unfold Obligations.StepKeepsRouteAndHorizon
  exact fun s u start h => step_keeps (I := Machine.routeInv) (fun _ _ h => h) (fun _ _ move => quiet_routeInv move)
    (fun _ _ move => (tableMove_moves move).routeInv (by decide) (by decide) (by decide)) start h

end Sys2Proof.Machine
end

section
/-! A message that is taken: the reply that ends its event, and what the end of an event leaves to be read off the state
before it. -/

namespace Sys2Proof.Machine

-- One proof after another: many at a time want more threads than the memory limit of a build leaves.
set_option Elab.async false


/-! ### Envelopes and the commands of the kinds (R158, R183) -/

theorem crcBytes_length (bs : List Byte) : (crcBytes bs).length = 2 := rfl

theorem envelope_length (kind : Byte) (payload : List Byte) : (envelope kind payload).length = payload.length + 5 := by
  simp [envelope, crcBytes_length]

/-- A command is an event from outside that its owner handles. -/
theorem exec_command {kind : Byte} {t : Time} {payload : List Byte} {c : Instr}
    (command : commandOf kind.toNat t payload = some c) : ∃ l h, handlerFor kind payload = some (l, h) ∧
      fixedLength kind.toNat = l ∧ ∀ s, exec c s = .next (outsideEvent t (takeCommand kind l payload h) s) := by
  unfold commandOf at command
  unfold handlerFor
  split at command
  case h_16 => exact nomatch command
  all_goals
    rename_i code
    obtain rfl := Option.some.inj command
    have spelled : kind = BitVec.ofNat 8 kind.toNat := by simp
    rw [code] at spelled
    subst spelled
    exact ⟨_, _, rfl, rfl, fun _ => rfl⟩

theorem not_command {kind : Byte} {payload : List Byte} (other : ¬(1 ≤ kind.toNat ∧ kind.toNat ≤ 15)) :
    handlerFor kind payload = none := by
  unfold handlerFor
  split
  all_goals first | (rename_i code; omega) | rfl

/-! ### The state in which a message is handled -/

@[simp] theorem received_now (t : Time) (s : State) : (received t s).now = max s.now t := rfl
@[simp] theorem received_station (t : Time) (s : State) : (received t s).station = s.station := rfl
@[simp] theorem received_running (t : Time) (s : State) : (received t s).running = s.running := rfl
@[simp] theorem received_cls (t : Time) (s : State) : (received t s).cls = s.cls := rfl
@[simp] theorem received_isCarrier (t : Time) (s : State) : (received t s).isCarrier = s.isCarrier := rfl

theorem received_settled {t : Time} {s : State} (settled : eventEndInv s) : eventEndInv (received t s) := settled

/-! ### The reply at the end of an event (R161, R164) -/

theorem finish_of_agreeing {s : State} (line : lineAgrees s) (relevant : relevanceAgrees s) :
    finish s = serveOutbound s := by
  unfold finish
  rw [refreshRelevance_agrees relevant, reassessLine_agrees line]

/-- A reply on a line that is free with no other reply goes out at once; behind a message it waits. -/
theorem finish_queueReply {kind : Byte} {a : Answer} {s : State} (line : lineAgrees s) (relevant : relevanceAgrees s)
    (alone : s.port.out = none → s.port.replies = []) : finish (queueReply kind a s) = answered kind a s := by
  rw [finish_of_agreeing (s := queueReply kind a s) line relevant]
  unfold answered serveOutbound
  cases out : s.port.out with
  | some m => simp [queueReply, out]
  | none =>
    have replies := alone out
    have length : ((envelope kindReply (Reply.payload ⟨kind, a⟩)).length : Nat) * portByteTime =
        ((Reply.payload ⟨kind, a⟩).length + 5) * 40 := by rw [envelope_length]; rfl
    simp only [queueReply, out, replies, startNext, startMessage, List.nil_append, length]
    rfl

theorem finish_queueReply_settled {kind : Byte} {a : Answer} {s : State} (settled : eventEndInv s) :
    finish (queueReply kind a s) = answered kind a s :=
  finish_queueReply settled.1 settled.2.2 fun out => (settled.2.1 out).1

/-- A message that finds a place for its reply. -/
theorem takeCommand_ready {kind : Byte} {l : Option Nat} {payload : List Byte} {h : Handler} {s : State}
    (free : s.port.restartPending = false) (room : s.port.replies.length < 4)
    (length : ∀ n, l = some n → payload.length = n) :
    takeCommand kind l payload h s = queueReply kind (h (inboundDone s)).2 (h (inboundDone s)).1 := by
  have fits : l.any (fun n => n != payload.length) = false := by
    cases l with
    | none => rfl
    | some n => simp [length n rfl]
  have room' : ¬maxReplies ≤ (inboundDone s).port.replies.length := Nat.not_le.mpr room
  have free' : (inboundDone s).port.restartPending = false := free
  unfold takeCommand
  simp only [free', fits, room', Bool.false_eq_true, if_false]

/-- A command of a part that is ready ends with its owner's answer. -/
theorem exec_ready {kind : Byte} {t : Time} {payload : List Byte} {c : Instr} {l : Option Nat} {h : Handler} {s : State}
    (eq : ∀ s, exec c s = .next (outsideEvent t (takeCommand kind l payload h) s)) (ready : ready s)
    (length : ∀ n, l = some n → payload.length = n) :
    exec c s = .next (finish (queueReply kind (h (received t s)).2 (h (received t s)).1)) := by
  obtain ⟨held, free, room⟩ := ready
  rw [eq, outsideEvent_free held, takeCommand_ready (s := s.reach t) free room length]
  rfl

/-- A command that its owner refuses and changes nothing. -/
theorem turnsAway_of {kind : Byte} {t : Time} {payload q : List Byte} {c : Instr} {l : Option Nat} {h : Handler} {s : State}
    {code : RefuseCode} (eq : ∀ s, exec c s = .next (outsideEvent t (takeCommand kind l payload h) s)) (ready : ready s)
    (settled : eventEndInv s) (length : ∀ n, l = some n → payload.length = n)
    (refused : h (received t s) = (received t s, .refuse code q)) : turnsAway c t kind code q s := by
  unfold turnsAway
  rw [exec_ready eq ready length, refused]
  exact congrArg _ (finish_queueReply_settled (received_settled settled))

/-- A command that ends with an answer on a state whose line and flags agree. -/
theorem exec_answered {kind : Byte} {t : Time} {payload : List Byte} {c : Instr} {l : Option Nat} {h : Handler} {s v : State}
    {a : Answer} (eq : ∀ s, exec c s = .next (outsideEvent t (takeCommand kind l payload h) s)) (ready : ready s)
    (length : ∀ n, l = some n → payload.length = n) (handled : h (received t s) = (v, a)) (line : lineAgrees v)
    (relevant : relevanceAgrees v) (alone : v.port.out = none → v.port.replies = []) :
    exec c s = .next (answered kind a v) := by
  rw [exec_ready eq ready length, handled]
  exact congrArg _ (finish_queueReply line relevant alone)

/-! ### Owners by class -/

theorem classHandler_stopped {cls : StationClass} {h : Handler} {s : State} (stops : s.running = false) :
    classHandler cls h s = (s, refuse .badState) := by
  simp [classHandler, inBootOrFault, stops]

theorem classHandler_other {cls : StationClass} {h : Handler} {s : State} (running : s.running = true) (other : s.cls ≠ cls) :
    classHandler cls h s = (s, refuse .wrongClass) := by
  simp [classHandler, inBootOrFault, running, other]

theorem classHandler_own {cls : StationClass} {h : Handler} {s : State} (running : s.running = true) (own : s.cls = cls) :
    classHandler cls h s = h s := by
  simp [classHandler, inBootOrFault, running, own]

theorem cls_of_carrier {s : State} (carrier : s.isCarrier = true) : s.cls = .carrier := by
  simpa [State.isCarrier] using carrier

theorem cls_of_fixed {s : State} (fixed : s.isCarrier = false) : s.cls = .fixed := by
  cases cls : s.cls with
  | fixed => rfl
  | carrier => simp [State.isCarrier, cls] at fixed

/-! ### Reading off the end of an event -/

theorem ownZones_finish (s : State) : ownZones (finish s) = ownZones s := by
  unfold ownZones windowZones State.isCarrier State.cls
  rw [finish_station, finish_route, finish_window]

theorem finish_tableKept {s w : State} (table : w.table = s.table) : tableKept s (finish w) := by
  unfold tableKept
  rw [finish_table, ownZones_finish]
  unfold refreshRelevance
  rw [table]

theorem serveOutbound_busy_port {s : State} {m : OutMessage} (out : s.port.out = some m) : serveOutbound s = s :=
  serveOutbound_busy (by rw [out]; rfl)

/-- The state of the end of an event before the outbound line is served. -/
def reassessed (s : State) : State := reassessLine (refreshRelevance s)

theorem finish_eq_serve (s : State) : finish s = serveOutbound (reassessed s) := rfl

theorem reassessed_port (s : State) : (reassessed s).port =
    { s.port with notices := (reassessed s).port.notices, dropped := (reassessed s).port.dropped } :=
  reassessLine_port (refreshRelevance s)

theorem reassessed_out (s : State) : (reassessed s).port.out = s.port.out := by rw [reassessed_port]
theorem reassessed_replies (s : State) : (reassessed s).port.replies = s.port.replies := by rw [reassessed_port]
theorem reassessed_restart (s : State) : (reassessed s).port.restartPending = s.port.restartPending := by
  rw [reassessed_port]
theorem reassessed_report (s : State) : (reassessed s).port.reportPending = s.port.reportPending := by rw [reassessed_port]

theorem reassessed_now (s : State) : (reassessed s).now = s.now := by
  unfold reassessed
  rw [reassessLine_eq]
  rfl

theorem reassessed_notices (s : State) : s.port.notices <+: (reassessed s).port.notices := by
  have raised (n : Notice) : s.port.notices <+: (raiseNotice n (refreshRelevance s)).port.notices :=
    (raiseNotice_inner n (refreshRelevance s)).notices
  unfold reassessed reassessLine
  dsimp only
  split
  · exact List.prefix_refl _
  · split
    · exact raised _
    · split
      · exact raised _
      · exact List.prefix_refl _

/-- The answer of an event whose work has left the outbound line and the replies. -/
theorem finish_answers {kind : Byte} {a : Answer} {s v : State} (out : v.port.out = s.port.out)
    (replies : v.port.replies = s.port.replies) : answers s (finish (queueReply kind a v)) kind a := by
  have replies' : (reassessed (queueReply kind a v)).port.replies = s.port.replies ++ [⟨kind, a⟩] := by
    rw [reassessed_replies, ← replies]; rfl
  have out' : (reassessed (queueReply kind a v)).port.out = s.port.out := by rw [reassessed_out]; exact out
  refine ⟨fun busy => ?_, fun free none => ?_⟩
  · rw [finish_eq_serve, serveOutbound_busy (by rw [out']; exact busy)]
    exact ⟨out', replies'⟩
  · rw [none, List.nil_append] at replies'
    have served := serveOutbound_reply (out'.trans free) replies'
    rw [envelope_length] at served
    rw [finish_now, finish_eq_serve, served]
    exact ⟨rfl, by rw [reassessed_now]; rfl⟩

/-- A notice of the work stands in the queue at the end of its event, or has just started. -/
theorem serveOutbound_noticed {n : Notice} {s : State} (member : n ∈ s.port.notices) :
    n ∈ (serveOutbound s).port.notices ∨ ∃ m, (serveOutbound s).port.out = some m ∧ m.content = .notice n := by
  unfold serveOutbound startNext
  split
  · exact .inl member
  · split
    · exact .inl member
    · split
      · exact .inl member
      · split
        · rename_i x xs queued
          rw [queued] at member
          obtain rfl | member := List.mem_cons.mp member
          · exact .inr ⟨_, rfl, rfl⟩
          · exact .inl member
        · split
          · exact .inl member
          · exact .inl member

theorem finish_noticed {n : Notice} {s : State} (member : n ∈ s.port.notices) :
    n ∈ (finish s).port.notices ∨ ∃ m, (finish s).port.out = some m ∧ m.content = .notice n :=
  serveOutbound_noticed ((reassessed_notices s).subset member)

theorem finish_reports {s : State} (pending : s.port.reportPending = true) : reportComing (finish s) := by
  have pending' : (reassessed s).port.reportPending = true := by rw [reassessed_report]; exact pending
  rw [finish_eq_serve]
  unfold reportComing serveOutbound startNext
  split
  · exact .inl pending'
  · split
    · exact .inl pending'
    · split
      · exact .inl pending'
      · split
        · exact .inl pending'
        · exact .inr ⟨_, rfl, rfl⟩

/-- A notice raised with fewer than 16 waiting stands in the queue. -/
theorem raiseNotice_mem {n : Notice} {s : State} (room : s.port.notices.length < 16) : n ∈ (raiseNotice n s).port.notices := by
  unfold raiseNotice
  rw [if_pos (show s.port.notices.length < maxNotices from room)]
  simp

theorem finish_portKept {s w : State} (inbound : w.port.inbound = s.port.inbound) (gap : w.port.inGap = s.port.inGap)
    (restart : w.port.restartPending = s.port.restartPending) (status : w.port.statusAt = s.port.statusAt)
    (counters : w.port.counters = s.port.counters) : portKept s (finish w) := by
  obtain ⟨h1, h2, h3, h4, h5⟩ := finish_port w
  exact ⟨h1.trans inbound, h2.trans gap, h3.trans restart, h4.trans status, h5.trans counters⟩

theorem Inner.finish_portKept {s w : State} (inner : Inner s w) : portKept s (finish w) := by
  have port := inner.port
  exact Machine.finish_portKept (by rw [port]) (by rw [port]) (by rw [port]) (by rw [port]) (by rw [port])

theorem Inner.profilesKept {s w : State} (inner : Inner s w) : profilesKept s w := by
  have auth := inner.auth
  exact ⟨by rw [auth], by rw [auth], by rw [auth], by rw [auth]⟩

theorem finish_profilesKept {s w : State} (kept : profilesKept s w) : profilesKept s (finish w) := by
  unfold profilesKept
  rw [finish_auth]
  exact kept

theorem finish_radioKept {s w : State} (kept : radioKept s w) : radioKept s (finish w) := by
  unfold radioKept
  rw [finish_radio]
  exact kept

end Sys2Proof.Machine
end

section
/-! The commands whose owners refuse and accept with few words: the port's own refusals, PROCEED, the load commands,
STATUS_QUERY and RESTART, RESUME, COMMIT, and the refusals of START_POSITION. -/

namespace Sys2Proof.Machine

-- One proof after another: many at a time want more threads than the memory limit of a build leaves.
set_option Elab.async false


/-! ### What the port does before a command reaches its owner (R158 to R160) -/

theorem takeCommand_full {kind : Byte} {l : Option Nat} {payload : List Byte} {h : Handler} {s : State}
    (free : s.port.restartPending = false) (full : 4 ≤ s.port.replies.length) :
    takeCommand kind l payload h s = countPortBad (inboundDone s) := by
  have free' : (inboundDone s).port.restartPending = false := free
  have full' : maxReplies ≤ (inboundDone s).port.replies.length := full
  unfold takeCommand
  simp only [free', full', Bool.false_eq_true, if_false, if_true]

theorem takeCommand_badLength {kind : Byte} {n : Nat} {payload : List Byte} {h : Handler} {s : State}
    (free : s.port.restartPending = false) (room : s.port.replies.length < 4) (length : payload.length ≠ n) :
    takeCommand kind (some n) payload h s = queueReply kind (refuse .badLength) (inboundDone s) := by
  have free' : (inboundDone s).port.restartPending = false := free
  have room' : ¬maxReplies ≤ (inboundDone s).port.replies.length := Nat.not_le.mpr room
  have wrong : (some n).any (fun n => n != payload.length) = true := by simpa using fun eq => length eq.symm
  unfold takeCommand
  simp only [free', room', wrong, Bool.false_eq_true, if_false, if_true]

theorem takeNonCommand_full {kind : Byte} {s : State} (free : s.port.restartPending = false)
    (full : 4 ≤ s.port.replies.length) : takeNonCommand kind s = countPortBad (inboundDone s) := by
  have free' : (inboundDone s).port.restartPending = false := free
  have full' : maxReplies ≤ (inboundDone s).port.replies.length := full
  unfold takeNonCommand
  simp only [free', full', Bool.false_eq_true, if_false, if_true]

theorem takeNonCommand_ready {kind : Byte} {s : State} (free : s.port.restartPending = false)
    (room : s.port.replies.length < 4) :
    takeNonCommand kind s = queueReply kind (refuse .badKind) (inboundDone s) := by
  have free' : (inboundDone s).port.restartPending = false := free
  have room' : ¬maxReplies ≤ (inboundDone s).port.replies.length := Nat.not_le.mpr room
  unfold takeNonCommand
  simp only [free', room', Bool.false_eq_true, if_false]

theorem finish_countPortBad {s : State} (settled : eventEndInv s) : finish (countPortBad s) = countPortBad s :=
  finish_settled (eventEndInv_countPortBad settled)

/-- Settles O9: the first rows of the port's table. -/
theorem portTakesMessages : Obligations.PortTakesMessages := by
  intro t kind payload s held free settled
  refine ⟨fun c spells full => ?_, fun other room => ?_, fun c n command length wrong room => ?_⟩
  · obtain command | ⟨rfl, other⟩ := spells
    · obtain ⟨l, h, _, _, eq⟩ := exec_command command
      rw [eq, outsideEvent_free held, takeCommand_full (s := s.reach t) free full]
      exact congrArg _ (finish_countPortBad (received_settled settled))
    · show Host.Outcome.next (outsideEvent t (takeNonCommand kind) s) = _
      rw [outsideEvent_free held, takeNonCommand_full (s := s.reach t) free full]
      exact congrArg _ (finish_countPortBad (received_settled settled))
  · show Host.Outcome.next (outsideEvent t (takeNonCommand kind) s) = _
    rw [outsideEvent_free held, takeNonCommand_ready (s := s.reach t) free room]
    exact congrArg _ (finish_queueReply_settled (received_settled settled))
  · obtain ⟨l, h, _, fixed, eq⟩ := exec_command command
    obtain rfl : l = some n := fixed.symm.trans length
    unfold turnsAway
    rw [eq, outsideEvent_free held, takeCommand_badLength (s := s.reach t) free room wrong]
    exact congrArg _ (finish_queueReply_settled (received_settled settled))

/-! ### START_POSITION refused (R176) -/

theorem firstBadCell_split {before after : List RouteCell} {c : RouteCell} (good : ∀ b ∈ before, b.inRange = true)
    (bad : c.inRange = false) : firstBadCell (before ++ c :: after) = some (before.length + 1) := by
  have none : before.findIdx? (fun c => !c.inRange) = .none := by
    rw [List.findIdx?_eq_none_iff]
    intro b member
    simp [good b member]
  unfold firstBadCell
  rw [List.findIdx?_append, none, List.findIdx?_cons]
  simp [bad]

theorem firstBadCell_allGood {cells : List RouteCell} (good : ∀ c ∈ cells, c.inRange = true) :
    firstBadCell cells = none := by
  unfold firstBadCell
  rw [Option.map_eq_none_iff, List.findIdx?_eq_none_iff]
  intro b member
  simp [good b member]

/-- The last cell laid begins where the lengths before it end. -/
theorem layCells_getLast? : ∀ (x : Int) {cells : List RouteCell} {c : RouteCell}, cells.getLast? = some c →
    (layCells x cells).getLast? =
      some { cell := c, entry := x + ((cells.dropLast.map RouteCell.length).sum : Nat), released := false }
  | x, [d], c, h => by simp_all [layCells]
  | x, d :: e :: rest, c, h => by
    have ih := layCells_getLast? (x + d.length) (cells := e :: rest) (c := c) (by simpa using h)
    rw [layCells, List.getLast?_cons, ih]
    simp only [List.dropLast_cons_cons, List.map_cons, List.sum_cons, Option.getD_some, Option.some.injEq, StoredCell.mk.injEq,
      true_and, and_true]
    push_cast
    omega

theorem sum_dropLast {cells : List RouteCell} {c : RouteCell} (last : cells.getLast? = some c) :
    (cells.map RouteCell.length).sum = (cells.dropLast.map RouteCell.length).sum + c.length := by
  obtain ⟨front, rfl⟩ := List.getLast?_eq_some_iff.mp last
  simp

theorem outsideLast_layCells {x : Int} {cells : List RouteCell} (some : 1 ≤ cells.length) :
    outsideLast x (layCells 0 cells) = true ↔
      x < ((cells.dropLast.map RouteCell.length).sum : Nat) ∨ ((cells.map RouteCell.length).sum : Nat) ≤ x := by
  obtain ⟨c, last⟩ : ∃ c, cells.getLast? = .some c := by
    cases h : cells.getLast? with
    | none => simp [List.getLast?_eq_none_iff.mp h] at some
    | some c => exact ⟨c, rfl⟩
  unfold outsideLast
  rw [layCells_getLast? 0 last, sum_dropLast last]
  simp [StoredCell.exit]

/-- Settles O10: the refusals of START_POSITION, in order. -/
theorem startPositionRefusals : Obligations.StartPositionRefusals := by
  intro t payload s ready settled
  have away {code : RefuseCode} {q : List Byte}
      (refused : startPositionHandler payload (received t s) = (received t s, .refuse code q)) :
      turnsAway (.startPosition t payload) t 1#8 code q s :=
    turnsAway_of (fun _ => rfl) ready settled (fun _ h => nomatch h) refused
  refine ⟨fun stops => away (classHandler_stopped stops), fun running fixed => away (classHandler_other running ?_),
    fun running carrier => ?_⟩
  · simp [cls_of_fixed fixed]
  have own : startPositionHandler payload (received t s) = _ :=
    classHandler_own (s := received t s) running (cls_of_carrier carrier)
  refine ⟨fun parsed => away (by rw [own, parsed]; rfl), fun x cells parsed => ⟨fun other => away ?_, fun listening =>
    ⟨fun before c after split good bad => away ?_, fun good outside => away ?_⟩⟩⟩
  · rw [own, parsed]
    simp [other, refuse]
  · rw [own, parsed]
    simp [listening, split, firstBadCell_split good bad]
  · have outside' := (outsideLast_layCells (parseStart_length parsed).1).mpr outside
    rw [own, parsed]
    simp [listening, firstBadCell_allGood good, outside']

end Sys2Proof.Machine
end

section
/-! PROCEED, the load commands, STATUS_QUERY and RESTART. -/

namespace Sys2Proof.Machine

-- One proof after another: many at a time want more threads than the memory limit of a build leaves.
set_option Elab.async false


/-! ### PROCEED (R17) -/

/-- A position that PROCEED may release: from the front cell on, with the identifier, a stop point and a clear mark. -/
def StopNamed (ident : Nat) (s : State) (p : Nat) : Prop :=
  s.front ≤ p ∧ 1 ≤ p ∧ ∃ c, s.route.cells[p - 1]? = some c ∧ c.cell.ident = ident ∧ c.cell.stop ≠ none ∧ c.released = false

theorem unreleased_iff {c : StoredCell} : c.unreleased = true ↔ c.cell.stop ≠ none ∧ c.released = false := by
  unfold StoredCell.unreleased
  cases c.cell.stop <;> simp

theorem stopNamed_of_index {ident i : Nat} {s : State} {c : StoredCell}
    (at_ : (s.route.cells.drop (s.front - 1))[i]? = some c) (is : (c.cell.ident == ident && c.unreleased) = true) :
    StopNamed ident s (s.front - 1 + i + 1) := by
  rw [List.getElem?_drop] at at_
  simp only [Bool.and_eq_true, beq_iff_eq, unreleased_iff] at is
  obtain ⟨name, stop, clear⟩ := is
  exact ⟨by omega, by omega, c, by simpa using at_, name, stop, clear⟩

theorem index_of_stopNamed {ident p : Nat} {s : State} (named : StopNamed ident s p) :
    ∃ c, (s.route.cells.drop (s.front - 1))[p - 1 - (s.front - 1)]? = some c ∧
      (c.cell.ident == ident && c.unreleased) = true := by
  obtain ⟨front, one, c, at_, name, stop, clear⟩ := named
  refine ⟨c, ?_, by simp [name, unreleased_iff.mpr ⟨stop, clear⟩]⟩
  rw [List.getElem?_drop, show s.front - 1 + (p - 1 - (s.front - 1)) = p - 1 by omega, at_]

theorem proceedPosition_none {ident : Nat} {s : State} (none : ∀ p, ¬StopNamed ident s p) :
    proceedPosition ident s = .none := by
  unfold proceedPosition
  rw [Option.map_eq_none_iff, List.findIdx?_eq_none_iff]
  intro c member
  obtain ⟨i, bound, rfl⟩ := List.getElem_of_mem member
  exact Bool.eq_false_iff.mpr fun is => none _ (stopNamed_of_index (List.getElem?_eq_getElem bound) is)

theorem proceedPosition_some {ident p : Nat} {s : State} (named : StopNamed ident s p)
    (least : ∀ q, StopNamed ident s q → p ≤ q) : proceedPosition ident s = some p := by
  obtain ⟨c, at_, is⟩ := index_of_stopNamed named
  have bound := (List.getElem?_eq_some_iff.mp at_).1
  have index : (s.route.cells.drop (s.front - 1)).findIdx? (fun c => c.cell.ident == ident && c.unreleased) =
      some (p - 1 - (s.front - 1)) := by
    rw [List.findIdx?_eq_some_iff_getElem]
    refine ⟨bound, by rw [(List.getElem?_eq_some_iff.mp at_).2]; exact is, fun j before => fun found => ?_⟩
    have := least _ (stopNamed_of_index (List.getElem?_eq_getElem (by omega)) found)
    omega
  obtain ⟨front, one, _⟩ := named
  unfold proceedPosition
  rw [index, Option.map_some, show s.front - 1 + (p - 1 - (s.front - 1)) + 1 = p by omega]

theorem flatMap_modify {f : StoredCell → StoredCell} (cell : ∀ c, (f c).cell = c.cell) :
    ∀ (i : Nat) (cells : List StoredCell),
      (cells.modify i f).flatMap (fun c => c.cell.zones) = cells.flatMap (fun c => c.cell.zones)
  | _, [] => by simp
  | 0, c :: cs => by simp [cell]
  | i + 1, c :: cs => by simp [flatMap_modify cell i cs]

theorem ownZones_releaseStop (p : Nat) (s : State) : ownZones (releaseStop p s) = ownZones s := by
  unfold ownZones
  rw [show (releaseStop p s).route.cells = s.route.cells.modify (p - 1) (fun c => { c with released := true }) from rfl,
    flatMap_modify (f := fun c => { c with released := true }) fun _ => rfl]
  rfl

/-- A settled state with another route of the same zones stays so. -/
theorem relevanceAgrees_congr {s t : State} (zones : ownZones t = ownZones s) (peers : t.table.peers = s.table.peers)
    (agrees : relevanceAgrees s) : relevanceAgrees t := by
  unfold relevanceAgrees
  rw [zones, peers]
  exact agrees

/-- Settles O14: PROCEED. -/
theorem proceed : Obligations.Proceed := by
  intro t hi lo s ready settled away named
  have eq : ∀ s, exec (.proceed t [hi, lo]) s =
      .next (outsideEvent t (takeCommand 4#8 (some 2) [hi, lo] (proceedHandler [hi, lo])) s) := fun _ => rfl
  have length : ∀ n, some 2 = some n → [hi, lo].length = n := fun n h => by cases h; rfl
  have refuses {code : RefuseCode}
      (refused : proceedHandler [hi, lo] (received t s) = (received t s, .refuse code [])) : away code :=
    turnsAway_of eq ready settled length refused
  refine ⟨fun stops => refuses (classHandler_stopped stops), fun running fixed => refuses (classHandler_other running ?_),
    fun running carrier => ?_⟩
  · simp [cls_of_fixed fixed]
  have own : proceedHandler [hi, lo] (received t s) = _ :=
    classHandler_own (s := received t s) running (cls_of_carrier carrier)
  refine ⟨fun none => refuses ?_, fun p is least => ?_⟩
  · rw [own]
    dsimp only
    rw [proceedPosition_none (ident := word16 hi lo) (s := received t s) none]
    rfl
  · refine exec_answered (v := releaseStop p (received t s)) eq ready length ?_ settled.1
      (relevanceAgrees_congr (ownZones_releaseStop p (received t s)) rfl settled.2.2)
      (fun out => (settled.2.1 out).1)
    rw [own]
    dsimp only
    rw [proceedPosition_some (ident := word16 hi lo) (s := received t s) is least]

/-! ### LOAD_STATE (R103) -/

theorem ofByte_eq_some_iff {b : Byte} {ix : LoadIndex} : LoadIndex.ofByte b = some ix ↔ b = byteOf ix.code := by
  constructor
  · intro found
    unfold LoadIndex.ofByte at found
    split at found
    case h_4 => exact nomatch found
    all_goals
      rename_i code
      obtain rfl := Option.some.inj found
      have spelled : b = BitVec.ofNat 8 b.toNat := by simp
      rw [code] at spelled
      exact spelled
  · rintro rfl
    cases ix <;> rfl

/-! ### PROFILE_SET (R104) -/

theorem parseProfile_none {payload : List Byte} (wrong : payload.length ≠ 13 ∨ 2 < (payload.headD 0).toNat) :
    parseProfile payload = none := by
  unfold parseProfile
  split
  · rename_i i _ _ _ _ _ _ _ _ _ _ _ _
    obtain length | head := wrong
    · exact absurd rfl length
    · have unknown : LoadIndex.ofByte i = none := by
        cases found : LoadIndex.ofByte i with
        | none => rfl
        | some ix =>
          rw [List.headD_cons, ofByte_eq_some_iff.mp found] at head
          cases ix <;> exact absurd head (by decide)
      rw [unknown]
  · rfl

theorem word16_bytes {v : Nat} (fits : v < 65536) : word16 (BitVec.ofNat 8 (v / 256 ^ 1)) (BitVec.ofNat 8 (v / 256 ^ 0)) = v := by
  unfold word16
  simp only [BitVec.toNat_ofNat]
  omega

theorem unsignedField_two {v : Nat} (fits : v < 65536) : unsignedField 2 v = beBytes 2 v := if_pos fits

theorem parseProfile_record {ix : LoadIndex} {p : Profile} (cap : p.cap < 65536) (decel : p.decel < 65536)
    (rise : p.rise < 65536) (margin : p.margin < 65536) (reaction : p.reaction < 65536) (extra : p.leadExtra < 65536) :
    parseProfile (profileRecord ix p) = some (ix, p) := by
  have index : LoadIndex.ofByte (byteOf ix.code) = some ix := ofByte_eq_some_iff.mpr rfl
  unfold profileRecord parseProfile
  simp only [beBytes, List.cons_append, List.nil_append, index, word16_bytes cap, word16_bytes decel, word16_bytes rise,
    word16_bytes margin, word16_bytes reaction, word16_bytes extra]

theorem clamp_le (x : Nat) {lo hi : Nat} (ordered : lo ≤ hi) : clamp x lo hi ≤ hi :=
  Nat.max_le.mpr ⟨ordered, Nat.min_le_right _ _⟩

theorem profileBytes_limited (ix : LoadIndex) (p : Profile) : profileBytes ix p.limited = profileRecord ix p.limited := by
  have fits {x lo hi : Nat} (ordered : lo ≤ hi) (small : hi < 65536) : clamp x lo hi < 65536 :=
    Nat.lt_of_le_of_lt (clamp_le x ordered) small
  unfold profileBytes profileRecord
  rw [unsignedField_two (v := p.limited.cap) (fits (by decide) (by decide)),
    unsignedField_two (v := p.limited.decel) (fits (by decide) (by decide)),
    unsignedField_two (v := p.limited.rise) (fits (by decide) (by decide)),
    unsignedField_two (v := p.limited.margin) (fits (by decide) (by decide)),
    unsignedField_two (v := p.limited.reaction) (fits (by decide) (by decide)),
    unsignedField_two (v := p.limited.leadExtra) (fits (by decide) (by decide))]

theorem limited_eq (p : Profile) : p.limited =
    ⟨max 500 (min p.cap 8000), max 200 (min p.decel 3000), max 100 (min p.rise 2000), max 500 (min p.margin 5000),
      max 50 (min p.reaction 1000), min p.leadExtra 30000⟩ := by
  simp [Profile.limited, clamp]

/-- LOAD_STATE, by R103's table. -/
theorem loadState_table (t : Time) (payload : List Byte) (s : State) (ready : ready s) (settled : eventEndInv s) :
    let away := fun code => turnsAway (.loadState t payload) t 5#8 code [] s
    (s.running = false → away .badState) ∧
    (s.running = true → s.isCarrier = false → away .wrongClass) ∧
    (s.running = true → s.isCarrier = true →
      ((∀ ix : LoadIndex, payload ≠ [byteOf ix.code]) → away .badLength) ∧
      ∀ ix : LoadIndex, payload = [byteOf ix.code] →
        exec (.loadState t payload) s = .next (answered 5#8 (.accept [byteOf ix.code])
          { received t s with auth := { s.auth with pendingIx := some ix } })) := by
  intro away
  have refuses {code : RefuseCode} (refused : loadStateHandler payload (received t s) = (received t s, .refuse code [])) :
      away code := turnsAway_of (fun _ => rfl) ready settled (fun _ h => nomatch h) refused
  refine ⟨fun stops => refuses (classHandler_stopped stops), fun running fixed => refuses (classHandler_other running ?_),
    fun running carrier => ?_⟩
  · simp [cls_of_fixed fixed]
  have own : loadStateHandler payload (received t s) = _ :=
    classHandler_own (s := received t s) running (cls_of_carrier carrier)
  refine ⟨fun none => refuses ?_, fun ix spelled => ?_⟩
  · rw [own]
    split
    · rename_i b
      cases found : LoadIndex.ofByte b with
      | none => rfl
      | some ix => exact absurd (congrArg (fun x => [x]) (ofByte_eq_some_iff.mp found)) (none ix)
    · rfl
  · subst spelled
    refine exec_answered (l := none) (h := loadStateHandler [byteOf ix.code]) (v := setPendingIx ix (received t s))
      (fun _ => rfl) ready (fun _ h => nomatch h) ?_ settled.1 settled.2.2 fun out => (settled.2.1 out).1
    rw [own]
    dsimp only
    rw [ofByte_eq_some_iff.mpr rfl]
    rfl

/-- PROFILE_SET, by R104's table. -/
theorem profileSet_table (t : Time) (payload : List Byte) (s : State) (ready : ready s) (settled : eventEndInv s) :
    let away := fun code => turnsAway (.profileSet t payload) t 6#8 code [] s
    (s.running = false → away .badState) ∧
    (s.running = true → s.isCarrier = false → away .wrongClass) ∧
    (s.running = true → s.isCarrier = true →
      (payload.length ≠ 13 ∨ 2 < (payload.headD 0).toNat → away .badLength) ∧
      ∀ (ix : LoadIndex) (p : Profile), parseProfile payload = some (ix, p) →
        (s.station.state ≠ .parked → away .notParked) ∧
        (s.station.state = .parked →
          exec (.profileSet t payload) s = .next (answered 6#8 (.accept (profileRecord ix p.limited))
            { received t s with auth := { s.auth with profiles := s.auth.profiles.set ix p.limited } }))) := by
  intro away
  have refuses {code : RefuseCode} (refused : profileSetHandler payload (received t s) = (received t s, .refuse code [])) :
      away code := turnsAway_of (fun _ => rfl) ready settled (fun _ h => nomatch h) refused
  refine ⟨fun stops => refuses (classHandler_stopped stops), fun running fixed => refuses (classHandler_other running ?_),
    fun running carrier => ?_⟩
  · simp [cls_of_fixed fixed]
  have own : profileSetHandler payload (received t s) = _ :=
    classHandler_own (s := received t s) running (cls_of_carrier carrier)
  refine ⟨fun wrong => refuses ?_, fun ix p parsed => ⟨fun moving => refuses ?_, fun parked => ?_⟩⟩
  · rw [own, parseProfile_none wrong]
    rfl
  · rw [own, parsed]
    simp [moving, refuse]
  · refine exec_answered (l := none) (h := profileSetHandler payload)
      (v := setProfiles (s.auth.profiles.set ix p.limited) (received t s))
      (fun _ => rfl) ready (fun _ h => nomatch h) ?_ settled.1 settled.2.2 fun out => (settled.2.1 out).1
    rw [own, parsed]
    simp [parked, profileBytes_limited, setProfiles]
    rfl

/-- Settles O15: the load commands, by the tables of R103 and R104. -/
theorem loadCommands : Obligations.LoadCommands := by
  refine ⟨loadState_table, fun t payload s ready settled => ?_⟩
  obtain ⟨stopped, other, own⟩ := profileSet_table t payload s ready settled
  refine ⟨stopped, other, fun running carrier => ?_⟩
  obtain ⟨wrong, right⟩ := own running carrier
  refine ⟨wrong, fun ix p cap decel rise margin reaction extra spelled => ?_⟩
  obtain ⟨moving, parked⟩ := right ix p (spelled ▸ parseProfile_record cap decel rise margin reaction extra)
  refine ⟨moving, fun still => ?_⟩
  rw [parked still, limited_eq]
  cases ix <;> rfl

/-! ### STATUS_QUERY and RESTART (R162, R163) -/

/-- Settles O19: both are answered at once. -/
theorem statusQueryAndRestart : Obligations.StatusQueryAndRestart := by
  intro t s ready settled
  have length : ∀ n, some 0 = some n → ([] : List Byte).length = n := fun n h => by cases h; rfl
  have alone : s.port.out = none → s.port.replies = [] := fun out => (settled.2.1 out).1
  refine ⟨fun boot => ?_, fun on => ?_, ?_⟩
  · refine turnsAway_of (l := some 0) (h := statusQueryHandler) (fun _ => rfl) ready settled length ?_
    simp [statusQueryHandler, boot, refuse]
  · refine exec_answered (l := some 0) (h := statusQueryHandler) (v := askReport (received t s)) (fun _ => rfl) ready length
      ?_ settled.1 settled.2.2 alone
    simp [statusQueryHandler, on, askReport]
  · exact exec_answered (l := some 0) (h := restartHandler) (v := askRestart (received t s)) (fun _ => rfl) ready length
      rfl settled.1 settled.2.2 alone

end Sys2Proof.Machine
end

section
/-! RESUME and COMMIT, and the notices of the hold-off line. -/

namespace Sys2Proof.Machine

-- One proof after another: many at a time want more threads than the memory limit of a build leaves.
set_option Elab.async false


/-! ### Urgent requests, by what they read -/

theorem urgentRequest_eq (s : State) : urgentRequest s = setRadio (urgentRequest s).radio s := by
  unfold urgentRequest
  split <;> rfl

theorem urgentRequest_radio_congr {s t : State} (now : t.now = s.now) (station : t.station = s.station)
    (radio : t.radio = s.radio) : (urgentRequest t).radio = (urgentRequest s).radio := by
  have running : t.running = s.running := by unfold State.running; rw [station]
  have period : t.period = s.period := by unfold State.period; rw [station]
  have closed : limiterClosed t = limiterClosed s := by unfold limiterClosed; rw [radio, now, period]
  unfold urgentRequest
  rw [running, radio, closed]
  split
  · exact radio
  · simp only [now, period]

/-! ### The line at the end of an event -/

theorem stopLevel_held {s t : State} (station : t.station = s.station) (standing : t.window.standing = s.window.standing)
    (conflicts : t.window.conflicts = s.window.conflicts) (causes : t.auth.causes = s.auth.causes)
    (held : ∀ z, isHeld t z = isHeld s z) : stopLevel t = stopLevel s := by
  unfold stopLevel State.isCarrier State.cls holdOffAsserted firstUnheldStanding conflictStands
  simp only [station, standing, conflicts, causes, held]

/-- The reply at the end of an event of a carrier, whose line takes its level and gives no notice. -/
theorem finish_queueReply_carrier {kind : Byte} {a : Answer} {s : State} (carrier : s.isCarrier = true)
    (relevant : relevanceAgrees s) (alone : s.port.out = none → s.port.replies = []) :
    finish (queueReply kind a s) = answered kind a { s with stopLine := stopLevel s } := by
  rw [← finish_queueReply (s := { s with stopLine := stopLevel s }) rfl relevant alone]
  unfold finish
  rw [refreshRelevance_agrees (s := queueReply kind a s) relevant,
    refreshRelevance_agrees (s := queueReply kind a { s with stopLine := stopLevel s }) relevant,
    reassessLine_carrier (s := queueReply kind a s) carrier,
    reassessLine_carrier (s := queueReply kind a { s with stopLine := stopLevel s }) carrier]
  rfl

theorem stopLevel_refresh (s : State) : stopLevel (refreshRelevance s) = stopLevel s := rfl

/-- The release of the hold-off line gives GRANT (R153). -/
theorem finish_grants {s : State} (fixed : s.isCarrier = false) (up : s.stopLine = true) (down : stopLevel s = false)
    (room : s.port.notices.length < 16) :
    .grant s.window.standing.length ∈ (finish s).port.notices ∨
      ∃ m, (finish s).port.out = some m ∧ m.content = .notice (.grant s.window.standing.length) := by
  refine serveOutbound_noticed (s := reassessed s) ?_
  have raised := raiseNotice_mem (n := .grant s.window.standing.length) (s := refreshRelevance s) room
  unfold reassessed reassessLine
  rw [stopLevel_refresh, down, show (refreshRelevance s).isCarrier = false from fixed,
    show (refreshRelevance s).stopLine = true from up]
  simpa using raised

/-- The assertion of the hold-off line gives HOLD_OFF (R154). -/
theorem finish_holdsOff {s : State} (fixed : s.isCarrier = false) (down : s.stopLine = false) (up : stopLevel s = true)
    (room : s.port.notices.length < 16) :
    holdOffNotice (refreshRelevance s) ∈ (finish s).port.notices ∨
      ∃ m, (finish s).port.out = some m ∧ m.content = .notice (holdOffNotice (refreshRelevance s)) := by
  refine serveOutbound_noticed (s := reassessed s) ?_
  have raised := raiseNotice_mem (n := holdOffNotice (refreshRelevance s)) (s := refreshRelevance s) room
  unfold reassessed reassessLine
  rw [stopLevel_refresh, up, show (refreshRelevance s).isCarrier = false from fixed,
    show (refreshRelevance s).stopLine = false from down]
  simpa using raised

/-! ### RESUME (R78) -/

theorem lowestHolder_some {z n : Nat} {s : State} (lowest : lowestHolding z n s) : lowestHolder z s = some n := by
  obtain ⟨⟨p, member, rfl, holds⟩, least⟩ := lowest
  unfold lowestHolder
  rw [List.min?_eq_some_iff]
  refine ⟨List.mem_map.mpr ⟨p, List.mem_filter.mpr ⟨member, holds⟩, rfl⟩, fun b among => ?_⟩
  obtain ⟨q, found, rfl⟩ := List.mem_map.mp among
  obtain ⟨member', holds'⟩ := List.mem_filter.mp found
  exact least q member' holds'

theorem lowestHolder_none {z : Nat} {s : State} (none : ∀ p ∈ s.table.peers, p.holds z = false) :
    lowestHolder z s = .none := by
  unfold lowestHolder
  rw [List.filter_eq_nil_iff.mpr fun p member => by simp [none p member]]
  rfl

theorem stillConflict_none {s : State} (none : ∀ r ∈ s.window.conflicts, ∀ p ∈ s.table.peers, p.holds r.zone = false) :
    stillConflict s = .none := by
  unfold stillConflict
  rw [List.findSome?_eq_none_iff]
  intro r member
  rw [lowestHolder_none (none r member)]
  rfl

theorem stillConflict_first {s : State} {before after : List ConflictRecord} {r : ConflictRecord} {n : Nat}
    (split : s.window.conflicts = before ++ r :: after)
    (clear : ∀ b ∈ before, ∀ p ∈ s.table.peers, p.holds b.zone = false) (lowest : lowestHolding r.zone n s) :
    stillConflict s = some (r.zone, n) := by
  have none : before.findSome? (fun r => (lowestHolder r.zone s).map (fun n => (r.zone, n))) = .none := by
    rw [List.findSome?_eq_none_iff]
    intro b member
    rw [lowestHolder_none (clear b member)]
    rfl
  unfold stillConflict
  rw [split, List.findSome?_append, none, List.findSome?_cons, lowestHolder_some lowest]
  rfl

/-- What RESUME leaves when no peer shows HOLD on a zone of a record. -/
def resumed (s : State) : State :=
  { s with
    window := { s.window with conflicts := [] }
    auth := { s.auth with
      overrun := s.auth.overrun && decide (s.auth.horizon < s.s)
      causes := { s.auth.causes with
        conflict := false, overrun := s.auth.causes.overrun && decide (s.auth.horizon < s.s) } } }

theorem clear_resumed (s : State) : clearOverrun (clearConflicts s) = resumed s := by
  unfold clearOverrun resumed
  by_cases beyond : s.auth.horizon < s.s
  · rw [if_neg (show ¬(clearConflicts s).s ≤ (clearConflicts s).auth.horizon from Int.not_le.mpr beyond)]
    simp [beyond, clearConflicts]
  · rw [if_pos (show (clearConflicts s).s ≤ (clearConflicts s).auth.horizon from Int.not_lt.mp beyond)]
    simp [beyond, clearConflicts]

theorem resumed_relevant {s : State} (relevant : relevanceAgrees s) : relevanceAgrees (resumed s) := relevant

/-- Settles O20: RESUME. -/
theorem resume : Obligations.Resume := by
  intro t s ready settled away
  have length : ∀ n, some 0 = some n → ([] : List Byte).length = n := fun n h => by cases h; rfl
  have refuses {code : RefuseCode} {q : List Byte}
      (refused : resumeHandler (received t s) = (received t s, .refuse code q)) : away code q :=
    turnsAway_of (l := some 0) (fun _ => rfl) ready settled length refused
  refine ⟨fun stops => refuses (by simp [resumeHandler, inBootOrFault, stops, refuse]), fun running =>
    ⟨fun none clear => refuses ?_, fun stands => ⟨fun before r after n split clear lowest zone station => refuses ?_,
      fun free => ?_⟩⟩⟩
  · unfold resumeHandler
    rw [if_neg (by simp [inBootOrFault, running]), if_pos (by simp [received, inboundDone, none, clear])]
    rfl
  · have stands' : ((received t s).window.conflicts.isEmpty && !(received t s).auth.overrun) = false := by
      have some : (received t s).window.conflicts.isEmpty = false := by
        rw [show (received t s).window.conflicts = _ from split]
        simp
      rw [some, Bool.false_and]
    unfold resumeHandler
    rw [if_neg (by simp [inBootOrFault, running]), if_neg (by rw [stands']; exact Bool.false_ne_true),
      stillConflict_first (s := received t s) split clear lowest]
    dsimp only
    rw [unsignedField_two zone, unsignedField_two station]
  · have accepted : resumeHandler (received t s) = (resumed (received t s), .accept [stopByte (resumed (received t s))]) := by
      have stands' : ((received t s).window.conflicts.isEmpty && !(received t s).auth.overrun) = false := by
        obtain records | overrun := stands
        · simp [received, inboundDone, records]
        · simp [received, inboundDone, overrun]
      unfold resumeHandler
      rw [if_neg (by simp [inBootOrFault, running]), if_neg (by rw [stands']; exact Bool.false_ne_true),
        stillConflict_none (s := received t s) free]
      dsimp only
      rw [clear_resumed]
    have relevant : relevanceAgrees (resumed (received t s)) := resumed_relevant settled.2.2
    have done : exec (.resume t []) s = .next (finish (queueReply 9#8 (.accept [stopByte (resumed (received t s))])
        (resumed (received t s)))) := by
      rw [exec_ready (kind := 9#8) (l := some 0) (h := resumeHandler) (payload := []) (fun _ => rfl) ready length, accepted]
    refine ⟨fun carrier => ?_, fun fixed => ⟨_, done, ?_⟩⟩
    · rw [done, finish_queueReply_carrier (s := resumed (received t s)) carrier relevant fun out => (settled.2.1 out).1]
      unfold stopLevel
      rw [if_pos (show (resumed (received t s)).isCarrier = true from carrier)]
      rfl
    · have level : stopLevel (resumed (received t s)) = holdOffAsserted (resumed (received t s)) := by
        unfold stopLevel
        rw [if_neg (by rw [show (resumed (received t s)).isCarrier = false from fixed]; exact Bool.false_ne_true)]
      refine ⟨by simp; rfl, by simp; rfl, by simp; rfl, by simp; rfl, by simp; rfl, by simp; rfl, by simp; rfl, ?_, ?_, ?_, ?_, ?_⟩
      · rw [finish_table, refreshRelevance_agrees
          (s := queueReply 9#8 (.accept [stopByte (resumed (received t s))]) (resumed (received t s))) relevant]
        rfl
      · rw [finish_stopLine]
        exact level
      · intro up down room
        refine finish_grants (s := queueReply 9#8 (.accept [stopByte (resumed (received t s))]) (resumed (received t s)))
          fixed up ?_ room
        rw [← down, finish_stopLine]
        rfl
      · exact finish_portKept rfl rfl rfl rfl rfl
      · exact finish_answers rfl rfl

/-! ### COMMIT (R149) -/

theorem firstUnheldStanding_none {s : State} :
    firstUnheldStanding s = none ↔ ∀ r ∈ s.window.standing, isHeld s r.zone = true := by
  unfold firstUnheldStanding
  rw [List.find?_eq_none]
  simp

/-- The mark that COMMIT sets. -/
theorem commitStanding_entries (s : State) : (commitStanding s).window.entries = s.window.entries.map (fun e =>
    if e.state = .held ∧ e.zone ∈ s.window.standing.map Standing.zone then { e with committed := true } else e) := by
  refine List.map_congr_left fun e _ => ?_
  simp [ClaimEntry.commit]

theorem any_map_same {f : ClaimEntry → ClaimEntry} {p : ClaimEntry → Bool} (same : ∀ e, p (f e) = p e)
    (es : List ClaimEntry) : (es.map f).any p = es.any p := by
  rw [List.any_map]
  exact congrArg _ (funext same)

theorem map_eq_self_iff {f : ClaimEntry → ClaimEntry} {es : List ClaimEntry} : es.map f = es ↔ ∀ e ∈ es, f e = e :=
  ⟨fun same => List.map_inj_left.mp (same.trans (List.map_id es).symm),
    fun each => (List.map_inj_left.mpr each).trans (List.map_id es)⟩

theorem isHeld_map_same {s t : State} {f : ClaimEntry → ClaimEntry} (zone : KeepsZone f) (state : ∀ e, (f e).state = e.state)
    (entries : t.window.entries = s.window.entries.map f) (z : Nat) : isHeld t z = isHeld s z := by
  unfold isHeld
  rw [entries, any_map_same fun e => by rw [zone e, state e]]

theorem windowZones_map {s t : State} {f : ClaimEntry → ClaimEntry} (zone : KeepsZone f)
    (entries : t.window.entries = s.window.entries.map f) : windowZones t = windowZones s := by
  unfold windowZones
  rw [entries, List.map_map]
  exact List.map_congr_left fun e _ => zone e

theorem commitStanding_level (s : State) : stopLevel (commitStanding s) = stopLevel s :=
  stopLevel_held rfl rfl rfl rfl fun z =>
    isHeld_map_same (fun e => by split <;> rfl) (fun e => by split <;> rfl) (commitStanding_entries s) z

theorem commitStanding_zones (s : State) : ownZones (commitStanding s) = ownZones s := by
  have zones := windowZones_map (fun e => by split <;> rfl) (commitStanding_entries s)
  unfold ownZones
  rw [zones]
  rfl

/-- Settles O23: COMMIT. -/
theorem commit : Obligations.Commit := by
  intro t s ready settled away standing
  have length : ∀ n, some 0 = some n → ([] : List Byte).length = n := fun n h => by cases h; rfl
  have refuses {code : RefuseCode} (refused : commitHandler (received t s) = (received t s, .refuse code [])) : away code :=
    turnsAway_of (l := some 0) (fun _ => rfl) ready settled length refused
  refine ⟨fun stops => refuses (classHandler_stopped stops), fun running carrier => refuses (classHandler_other running ?_),
    fun running fixed => ?_⟩
  · simp [cls_of_carrier carrier]
  have own : commitHandler (received t s) = _ := classHandler_own (s := received t s) running (cls_of_fixed fixed)
  refine ⟨fun none => refuses ?_, fun r member unheld => refuses ?_, fun some held => ?_⟩
  · rw [own, if_pos (by simp [received, inboundDone, none])]
    rfl
  · have found : (firstUnheldStanding (received t s)).isSome = true := by
      rw [Option.isSome_iff_ne_none, Ne, firstUnheldStanding_none]
      intro all
      exact Bool.false_ne_true (unheld.symm.trans (all r member))
    rw [own, if_pos (by rw [found, Bool.or_true])]
    rfl
  · have granted : ((received t s).window.standing.isEmpty || (firstUnheldStanding (received t s)).isSome) = false := by
      rw [(firstUnheldStanding_none (s := received t s)).mpr held]
      simpa [received, inboundDone] using some
    have marks : (commitStanding (received t s)).window.entries =
        s.window.entries.map (fun e => if standing e then { e with committed := true } else e) :=
      commitStanding_entries (received t s)
    have whole : commitStanding (received t s) = { received t s with window := { s.window with
        entries := s.window.entries.map (fun e => if standing e then { e with committed := true } else e) } } := by
      rw [← marks]
      rfl
    refine ⟨?_, ?_⟩
    · rintro ⟨e, member, is, unmarked⟩
      have moved : (commitStanding (received t s)).window.entries ≠ (received t s).window.entries := by
        rw [marks]
        intro same
        have fixedPoint := map_eq_self_iff.mp same e member
        rw [if_pos is] at fixedPoint
        rw [← fixedPoint] at unmarked
        exact nomatch unmarked
      have asked : urgentRequest (commitStanding (received t s)) =
          setRadio (urgentRequest (s.reach t)).radio (commitStanding (received t s)) := by
        rw [urgentRequest_eq,
          urgentRequest_radio_congr (s := s.reach t) (t := commitStanding (received t s)) rfl rfl rfl]
      refine exec_answered (l := .some 0) (h := commitHandler) (a := .accept [byteOf s.window.standing.length])
        (v := setRadio (urgentRequest (s.reach t)).radio (commitStanding (received t s))) (fun _ => rfl) ready length ?_ ?_ ?_ ?_
          |>.trans ?_
      · rw [own, if_neg (by rw [granted]; exact Bool.false_ne_true)]
        dsimp only
        rw [if_neg moved, asked]
        rfl
      · exact settled.1.trans (commitStanding_level (received t s)).symm
      · exact relevanceAgrees_congr (commitStanding_zones (received t s)) rfl settled.2.2
      · exact fun out => (settled.2.1 out).1
      · rw [whole]
        rfl
    · intro marked
      have same : (commitStanding (received t s)).window.entries = (received t s).window.entries := by
        rw [marks]
        refine map_eq_self_iff.mpr fun e member => ?_
        split
        · rename_i is
          have mark := marked e member is
          cases e
          cases mark
          rfl
        · rfl
      have still : commitStanding (received t s) = received t s := by
        rw [show commitStanding (received t s) = setEntries (commitStanding (received t s)).window.entries (received t s)
          from rfl, same]
        rfl
      refine exec_answered (l := .some 0) (h := commitHandler) (v := received t s) (fun _ => rfl) ready length ?_ settled.1
        settled.2.2 fun out => (settled.2.1 out).1
      rw [own, if_neg (by rw [granted]; exact Bool.false_ne_true)]
      dsimp only
      rw [if_pos same, still]
      rfl

end Sys2Proof.Machine
end

section
/-! The equipment port's lines: bad messages, the bytes of a message, the outbound line and the status timer. -/

namespace Sys2Proof.Machine

-- One proof after another: many at a time want more threads than the memory limit of a build leaves.
set_option Elab.async false


/-! ### What holds the part at reset stands through a message -/

/-- No move but a reset changes the reasons that hold the part. -/
theorem Move.held_same {f : Flag} {s t : State} (m : Move f s t) (other : f ≠ .reset) :
    t.station.held = s.station.held := by
  by_cases kind : f ∈ innerF
  · rw [(m.inner kind).station]
  cases m with
  | lost =>
    unfold fallToLost
    split
    · rfl
    · rw [((raiseNotice_inner _ _).trans (limitLost_inner _)).station]
      rfl
  | frame =>
    unfold enqueueFrame
    split <;> rfl
  | park =>
    rw [(parkStopped_inner s).station]
    unfold parkBase
    rw [parkSchedule_station]
    rfl
  | parkFixed =>
    unfold parkBase
    rw [parkSchedule_station]
    rfl
  | _ =>
    first
      | exact absurd rfl other
      | exact absurd (by decide) kind
      | rfl

theorem Moves.held_same {F : List Flag} {s t : State} (m : Moves F s t) (reset : .reset ∉ F) :
    t.station.held = s.station.held := by
  refine m.keeps (I := fun t => t.station.held = s.station.held) (fun f u v member move same => ?_) rfl
  refine (move.held_same ?_).trans same
  rintro rfl
  exact member.elim (fun h => nomatch h) reset

theorem owner_held {h : Handler} (owner : Owner h) (s : State) : (h s).1.station.held = s.station.held :=
  (owner_moves owner s).held_same (by decide)

theorem takeCommand_held {kind : Byte} {l : Option Nat} {payload : List Byte} {h : Handler} (owner : Owner h) (s : State) :
    (takeCommand kind l payload h s).station.held = s.station.held ∧ (takeCommand kind l payload h s).now = s.now := by
  unfold takeCommand
  dsimp only
  split
  · exact ⟨rfl, rfl⟩
  · split
    · exact ⟨rfl, rfl⟩
    · split
      · exact ⟨rfl, rfl⟩
      · exact ⟨owner_held owner (inboundDone s), (owner_within owner (inboundDone s)).now⟩

theorem takeMessage_held (kind : Byte) (payload : List Byte) (s : State) :
    (takeMessage kind payload s).station.held = s.station.held ∧ (takeMessage kind payload s).now = s.now := by
  unfold takeMessage
  split
  · rename_i found
    exact takeCommand_held (handlerFor_owner found) s
  · unfold takeNonCommand
    dsimp only
    split
    · exact ⟨rfl, rfl⟩
    · split <;> exact ⟨rfl, rfl⟩

theorem reach_past {t : Time} {s : State} (past : t ≤ s.now) : s.reach t = s := by
  unfold State.reach
  rw [Nat.max_eq_left past]

/-! ### The inbound assembler (R157) -/

theorem portByte_pending {x : Byte} {s : State} (pending : s.port.restartPending = true) : portByte x s = s := by
  simp [portByte, pending]

theorem portBytes_pending {s : State} (pending : s.port.restartPending = true) (settled : eventEndInv s) :
    ∀ bytes : List Byte, portBytes bytes s = s
  | [] => rfl
  | x :: xs => by
    rw [portBytes_cons, portByte_pending pending, finish_settled settled]
    exact portBytes_pending pending settled xs

theorem portByte_outside {x : Byte} {s : State} (hunt : s.port.inbound = .hunt) (other : x ≠ 0xC3#8) : portByte x s = s := by
  simp [portByte, hunt, other]

theorem portBytes_outside {s : State} (hunt : s.port.inbound = .hunt) (settled : eventEndInv s) :
    ∀ {bytes : List Byte}, 0xC3#8 ∉ bytes → portBytes bytes s = s
  | [], _ => rfl
  | x :: xs, absent => by
    rw [portBytes_cons, portByte_outside hunt fun eq => absent (eq ▸ List.mem_cons_self), finish_settled settled]
    exact portBytes_outside hunt settled fun member => absent (List.mem_cons_of_mem _ member)

/-- The assembler amid a message, its gap timer running from the present time. -/
def amid (a : PortAssembler) (s : State) : State := setInbound a (some (s.now + portGap)) s

/-- A message given up: counted as bad, the assembler back in HUNT. -/
def countedBad (s : State) : State := countPortBad (inboundDone s)

theorem finish_amid {a : PortAssembler} {s : State} (settled : eventEndInv s) : finish (amid a s) = amid a s :=
  finish_setInbound settled

theorem finish_countedBad {s : State} (settled : eventEndInv s) : finish (countedBad s) = countedBad s :=
  finish_countPortBad settled

theorem portByte_start {s : State} (free : s.port.restartPending = false) (hunt : s.port.inbound = .hunt) :
    portByte 0xC3#8 s = amid .kind s := by
  simp [portByte, free, hunt, amid]

theorem portByte_kind {k : Byte} {s : State} (free : s.port.restartPending = false) :
    portByte k (amid .kind s) = amid (.length k) s := by
  simp [portByte, amid, setInbound, free]

theorem portByte_length {k len : Byte} {s : State} (free : s.port.restartPending = false) (fits : len.toNat ≤ 250) :
    portByte len (amid (.length k) s) = amid (.body k len.toNat []) s := by
  simp [portByte, amid, setInbound, free, fits]

theorem portByte_badLength {k len : Byte} {s : State} (free : s.port.restartPending = false) (long : 250 < len.toNat) :
    portByte len (amid (.length k) s) = countedBad s := by
  simp [portByte, amid, setInbound, free, Nat.not_le.mpr long, countedBad, countPortBad, inboundDone]

theorem portByte_more {k x : Byte} {len : Nat} {got : List Byte} {s : State} (free : s.port.restartPending = false)
    (more : got.length + 1 < len + 2) : portByte x (amid (.body k len got) s) = amid (.body k len (got ++ [x])) s := by
  simp [portByte, amid, setInbound, free, more]

theorem portByte_last {k x : Byte} {len : Nat} {got : List Byte} {s : State} (free : s.port.restartPending = false)
    (last : got.length + 1 = len + 2) : portByte x (amid (.body k len got) s) =
      if messageCrcOk k len (got ++ [x]) then takeMessage k ((got ++ [x]).take len) (amid (.body k len got) s)
      else countedBad s := by
  have done : ¬(got ++ [x]).length < len + 2 := by simp; omega
  unfold portByte
  rw [if_neg (by rw [show (amid (.body k len got) s).port.restartPending = false from free]; exact Bool.false_ne_true)]
  dsimp only [amid, setInbound]
  rw [if_neg done]
  rfl

theorem portBytes_start {s : State} (free : s.port.restartPending = false) (hunt : s.port.inbound = .hunt)
    (settled : eventEndInv s) (xs : List Byte) : portBytes (0xC3#8 :: xs) s = portBytes xs (amid .kind s) := by
  rw [portBytes_cons, portByte_start free hunt, finish_amid settled]

theorem portBytes_header {k : Byte} {s : State} (free : s.port.restartPending = false) (hunt : s.port.inbound = .hunt)
    (settled : eventEndInv s) (xs : List Byte) : portBytes (0xC3#8 :: k :: xs) s = portBytes xs (amid (.length k) s) := by
  rw [portBytes_start free hunt settled, portBytes_cons, portByte_kind free, finish_amid settled]

theorem portBytes_body {k : Byte} {len : Nat} {s : State} (free : s.port.restartPending = false) (settled : eventEndInv s) :
    ∀ {got xs : List Byte}, got.length + xs.length < len + 2 →
      portBytes xs (amid (.body k len got) s) = amid (.body k len (got ++ xs)) s
  | got, [], _ => by rw [portBytes_nil, List.append_nil]
  | got, x :: xs, more => by
    have more' : got.length + 1 + xs.length < len + 2 := by simpa [Nat.add_assoc, Nat.add_comm 1] using more
    rw [portBytes_cons, portByte_more free (by omega), finish_amid settled,
      portBytes_body free settled (by simpa using more'), List.append_assoc]
    rfl

theorem takeMessage_amid (k : Byte) (payload : List Byte) (a : PortAssembler) (s : State) :
    takeMessage k payload (amid a s) = takeMessage k payload s := by
  unfold takeMessage
  split <;> rfl

/-- The bytes of a whole message, its CRC right or wrong. -/
theorem portBytes_message {k : Byte} {payload check : List Byte} {s : State} (free : s.port.restartPending = false)
    (hunt : s.port.inbound = .hunt) (settled : eventEndInv s) (short : payload.length ≤ 250) (two : check.length = 2) :
    portBytes (0xC3#8 :: k :: byteOf payload.length :: (payload ++ check)) s = finish
      (if check = crcBytes (k :: byteOf payload.length :: payload) then takeMessage k payload s else countedBad s) := by
  have len : (byteOf payload.length).toNat = payload.length := by
    simp only [byteOf, BitVec.toNat_ofNat]
    omega
  obtain ⟨x, y, rfl⟩ : ∃ x y, check = [x, y] := exists_pair two
  rw [portBytes_header free hunt settled, portBytes_cons, portByte_length free (by rw [len]; exact short), finish_amid settled,
    len, show payload ++ [x, y] = (payload ++ [x]) ++ [y] by simp, portBytes_append,
    portBytes_body free settled (by simp), List.nil_append, portBytes_cons, portBytes_nil,
    portByte_last free (by simp), takeMessage_amid]
  congr 1
  have taken : (payload ++ [x] ++ [y]).take payload.length = payload := by simp
  have rest : (payload ++ [x] ++ [y]).drop payload.length = [x, y] := by simp
  unfold messageCrcOk
  rw [taken, rest]
  by_cases right : [x, y] = crcBytes (k :: byteOf payload.length :: payload)
  · rw [if_pos right, if_pos (by rw [← right]; simp)]
  · rw [if_neg right, if_neg (by simpa using fun eq => right eq.symm)]

/-! ### The gap (R157) -/

theorem inboundGapOut_amid {a : PortAssembler} {s : State} (inside : a ≠ .hunt) :
    inboundGapOut (amid a s) = countedBad (s.reach (s.now + 5000)) := by
  unfold inboundGapOut
  cases a with
  | hunt => exact absurd rfl inside
  | kind => rfl
  | length k => rfl
  | body k len got => rfl

/-- Settles O24: bad messages are counted. -/
theorem badMessagesAreCounted : Obligations.BadMessagesAreCounted := by
  intro t s held settled counted
  have settled' : eventEndInv (s.reach t) := eventEndInv_reach settled
  have arrives {bytes : List Byte} {u : State} (work : portBytes bytes (s.reach t) = u) (still : finish u = u) :
      exec (.badMessage t bytes) s = .next u := by
    show Host.Outcome.next (outsideEvent t (portBytes bytes) s) = _
    rw [outsideEvent_free held, work, still]
  have lapses {bytes : List Byte} {u : State} (work : inboundGapOut (portBytes bytes (s.reach t)) = u) (still : finish u = u) :
      exec (.inboundGapTimeout t bytes) s = .next u := by
    show Host.Outcome.next (outsideEvent t (fun s => inboundGapOut (portBytes bytes s)) s) = _
    rw [outsideEvent_free held, work, still]
  have counts : finish (countedBad (s.reach t)) = countedBad (s.reach t) := finish_countedBad settled'
  refine ⟨fun pending bytes => arrives (portBytes_pending (s := s.reach t) pending settled' bytes) (finish_settled settled'),
    fun free hunt => ⟨fun bytes none => ?_, fun kind payload check short two wrong => ?_, fun kind len long => ?_,
      fun kind len got short few part member => ?_⟩, fun inside g running => ?_⟩
  · exact arrives (portBytes_outside (s := s.reach t) hunt settled' none) (finish_settled settled')
  · refine arrives ?_ counts
    rw [portBytes_message (s := s.reach t) free hunt settled' short two, if_neg wrong, counts]
    rfl
  · refine arrives ?_ counts
    rw [portBytes_header (s := s.reach t) free hunt settled', portBytes_cons,
      portByte_badLength (s := s.reach t) free long, counts, portBytes_nil]
    rfl
  · have late : (max s.now t + 5000) = max (max s.now t) (max s.now t + 5000) :=
      (Nat.max_eq_right (Nat.le_add_right _ _)).symm
    obtain ⟨a, inside, work⟩ : ∃ a, a ≠ .hunt ∧ portBytes part (s.reach t) = amid a (s.reach t) := by
      simp only [List.mem_cons, List.not_mem_nil, or_false] at member
      obtain rfl | rfl | rfl := member
      · exact ⟨.kind, nofun, portBytes_start (s := s.reach t) free hunt settled' []⟩
      · exact ⟨.length kind, nofun, portBytes_header (s := s.reach t) free hunt settled' []⟩
      · refine ⟨.body kind len.toNat got, nofun, ?_⟩
        rw [portBytes_header (s := s.reach t) free hunt settled', portBytes_cons,
          portByte_length (s := s.reach t) free short, finish_amid settled',
          portBytes_body (s := s.reach t) free settled' (by simpa using few), List.nil_append]
    refine lapses (u := { counted with now := max s.now t + 5000 }) ?_ (finish_settled (s := { counted with now := _ }) settled)
    rw [work, inboundGapOut_amid inside, late]
    rfl
  · refine lapses (u := { counted with now := max (max s.now t) g }) ?_ (finish_settled (s := { counted with now := _ }) settled)
    rw [portBytes_nil]
    unfold inboundGapOut
    rw [show (s.reach t).port.inbound = s.port.inbound from rfl, show (s.reach t).port.inGap = some g from running]
    cases assembler : s.port.inbound with
    | hunt => exact absurd assembler inside
    | kind => rfl
    | length k => rfl
    | body k len got => rfl

/-! ### The bytes of a message are its command (R157 to R159) -/

/-- Every message that spells a command, or none, is the taking of the message. -/
theorem exec_spelled {kind : Byte} {t : Time} {payload : List Byte} {c : Instr}
    (spells : commandOf kind.toNat t payload = some c ∨
      (c = .nonCommandMessage t kind payload ∧ ¬(1 ≤ kind.toNat ∧ kind.toNat ≤ 15))) (s : State) :
    exec c s = .next (outsideEvent t (takeMessage kind payload) s) := by
  obtain command | ⟨rfl, other⟩ := spells
  · obtain ⟨l, h, found, _, eq⟩ := exec_command command
    have same : takeMessage kind payload = takeCommand kind l payload h := by
      funext s
      unfold takeMessage
      rw [found]
    rw [eq, same]
  · have same : takeMessage kind payload = takeNonCommand kind := by
      funext s
      unfold takeMessage
      rw [not_command other]
    rw [same]
    rfl

/-- The message whose CRC is right, byte by byte. -/
theorem portBytes_envelope {k : Byte} {payload : List Byte} {s : State} (free : s.port.restartPending = false)
    (hunt : s.port.inbound = .hunt) (settled : eventEndInv s) (short : payload.length ≤ 250) :
    portBytes (envelope k payload) s = finish (takeMessage k payload s) := by
  have whole := portBytes_message (k := k) (check := crcBytes (k :: byteOf payload.length :: payload)) free hunt settled short
    (crcBytes_length _)
  rw [if_pos rfl] at whole
  exact whole

/-- Settles O27: the bytes of a message are the command they spell. -/
theorem messageBytesAreTheCommand : Obligations.MessageBytesAreTheCommand := by
  intro t kind payload rest c s spells short hunt free settled
  rw [exec_spelled spells]
  cases held : s.station.held with
  | true =>
    have asleep {w : State → State} : outsideEvent t w s = s.reach t := outsideEvent_held held
    have again {w : State → State} : outsideEvent t w (s.reach t) = s.reach t := by
      rw [outsideEvent_held (s := s.reach t) held]
      simp [State.reach]
    refine ⟨congrArg _ (asleep.trans asleep.symm), _, rfl, ?_, ?_⟩ <;>
      exact congrArg _ (asleep.trans (by rw [asleep]; exact again.symm))
  | false =>
    have settled' : eventEndInv (s.reach t) := eventEndInv_reach settled
    have bytes := portBytes_envelope (k := kind) (s := s.reach t) free hunt settled' short
    obtain ⟨stands, time⟩ := takeMessage_held kind payload (s.reach t)
    have awake : (finish (takeMessage kind payload (s.reach t))).station.held = false := by
      rw [finish_station, stands]
      exact held
    have present : (finish (takeMessage kind payload (s.reach t))).reach t = finish (takeMessage kind payload (s.reach t)) := by
      refine reach_past ?_
      rw [finish_now, time]
      exact Nat.le_max_right _ _
    have next : outsideEvent t (takeMessage kind payload) s = finish (takeMessage kind payload (s.reach t)) :=
      outsideEvent_free held
    refine ⟨?_, _, rfl, ?_, ?_⟩
    · show Host.Outcome.next (outsideEvent t (portBytes (envelope kind payload)) s) = _
      rw [outsideEvent_free held, bytes, finish_finish, next]
    · show Host.Outcome.next (outsideEvent t (portBytes (envelope kind payload ++ rest)) s) =
        Host.Outcome.next (outsideEvent t (portBytes rest) _)
      rw [outsideEvent_free held, portBytes_append, bytes, next, outsideEvent_free awake, present]
    · show Host.Outcome.next (outsideEvent t (fun s => inboundGapOut (portBytes (envelope kind payload ++ rest) s)) s) =
        Host.Outcome.next (outsideEvent t (fun s => inboundGapOut (portBytes rest s)) _)
      rw [outsideEvent_free held, portBytes_append, bytes, next, outsideEvent_free awake, present]

end Sys2Proof.Machine
end

section
/-! The outbound line, the status timer, the bytes from the modem, and the taking instants that discard a frame. -/

namespace Sys2Proof.Machine

-- One proof after another: many at a time want more threads than the memory limit of a build leaves.
set_option Elab.async false


/-! ### The outbound line and the status timer (R164, R165) -/

theorem startMessage_out (content : OutContent) (kind : Byte) (payload : List Byte) (s : State) :
    startMessage content kind payload s = { s with port := { s.port with
      out := some ⟨content, envelope kind payload, s.now + (payload.length + 5) * 40⟩ } } := by
  unfold startMessage
  dsimp only
  rw [envelope_length]
  rfl

theorem startNext_reply {r : Reply} {rs : List Reply} {s : State} (replies : s.port.replies = r :: rs) :
    startNext s = { s with port := { s.port with
      replies := rs, out := some ⟨.reply r, envelope 0x81#8 r.payload, s.now + (r.payload.length + 5) * 40⟩ } } := by
  unfold startNext
  rw [replies]
  exact startMessage_out _ _ _ _

theorem startNext_restart {s : State} (replies : s.port.replies = []) (restart : s.port.restartPending = true) :
    startNext s = s := by
  unfold startNext
  rw [replies]
  exact if_pos restart

theorem startNext_notice {n : Notice} {ns : List Notice} {s : State} (replies : s.port.replies = [])
    (free : s.port.restartPending = false) (notices : s.port.notices = n :: ns) :
    startNext s = { s with port := { s.port with
      notices := ns, out := some ⟨.notice n, envelope 0x83#8 n.payload, s.now + (n.payload.length + 5) * 40⟩ } } := by
  unfold startNext
  rw [replies, notices]
  dsimp only
  rw [if_neg (by rw [free]; exact Bool.false_ne_true)]
  exact startMessage_out _ _ _ _

theorem startNext_report {s : State} (replies : s.port.replies = []) (free : s.port.restartPending = false)
    (notices : s.port.notices = []) (report : s.port.reportPending = true) :
    startNext s = { s with port := { s.port with
      reportPending := false, dropped := false
      out := some ⟨.status, envelope 0x82#8 (statusPayload s), s.now + ((statusPayload s).length + 5) * 40⟩ } } := by
  unfold startNext
  rw [replies, notices]
  dsimp only
  rw [if_neg (by rw [free]; exact Bool.false_ne_true), if_pos report]
  exact startMessage_out _ _ _ _

theorem startNext_idle {s : State} (replies : s.port.replies = []) (free : s.port.restartPending = false)
    (notices : s.port.notices = []) (report : s.port.reportPending = false) : startNext s = s := by
  unfold startNext
  rw [replies, notices]
  dsimp only
  rw [if_neg (by rw [free]; exact Bool.false_ne_true), if_neg (by rw [report]; exact Bool.false_ne_true)]

theorem isRestartReply_false {c : OutContent} (other : ∀ p, c ≠ .reply ⟨0x0F#8, .accept p⟩) : isRestartReply c = false := by
  unfold isRestartReply
  split
  · rename_i r
    obtain ⟨kind, answer⟩ := r
    cases answer with
    | accept p =>
      by_cases restart : kind = kindRestart
      · exact absurd (by rw [restart]; rfl) (other p)
      · simpa using restart
    | refuse code q => simp
  · rfl
  · rfl

/-- Settles O25: the arbitration of the outbound line. -/
theorem outboundArbitration : Obligations.OutboundArbitration := by
  intro s m out other settled v sends
  have done : exec .outboundMessageComplete s = .next (startNext v) := by
    show Host.Outcome.next (match s.port.out with
      | none => s
      | some m => outboundComplete m (s.reach m.endsAt)) = _
    rw [out]
    have complete : outboundComplete m (s.reach m.endsAt) = finish v :=
      if_neg (by rw [isRestartReply_false other]; exact Bool.false_ne_true)
    dsimp only
    rw [complete, finish_of_agreeing (s := v) settled.1 settled.2.2]
    rfl
  refine ⟨fun r rs replies => done.trans (congrArg _ (startNext_reply (s := v) replies)), fun replies =>
    ⟨fun restart => done.trans (congrArg _ (startNext_restart (s := v) replies restart)), fun free =>
      ⟨fun n ns notices => done.trans (congrArg _ (startNext_notice (s := v) replies free notices)), fun notices =>
        ⟨fun report => done.trans (congrArg _ (startNext_report (s := v) replies free notices report)),
          fun report => done.trans (congrArg _ (startNext_idle (s := v) replies free notices report))⟩⟩⟩⟩

theorem statusPeriod_eq (st : StationState) : statusPeriod st = if st = .active then 200000 else 1000000 := by
  cases st <;> rfl

/-- Settles O26: the status timer. -/
theorem statusTimer : Obligations.StatusTimer := by
  intro s d held due settled next
  have waits : statusExpiry (s.reach d) = { s.reach d with port := { s.port with statusAt := some next, reportPending := true } } := by
    unfold statusExpiry
    rw [show (s.reach d).port.statusAt = some d from due, statusPeriod_eq]
    rfl
  have done : exec .statusTimerExpiry s = .next (serveOutbound (statusExpiry (s.reach d))) := by
    show Host.Outcome.next (timedEvent s.port.statusAt statusExpiry s) = _
    rw [due, timedEvent_some held, finish_of_agreeing (s := statusExpiry (s.reach d)) settled.1 settled.2.2]
  rw [done, waits]
  refine ⟨fun busy => congrArg _ ?_, fun out free => congrArg _ ?_⟩
  · cases out : s.port.out with
    | some m => exact serveOutbound_busy (by simp [out])
    | none =>
      have restart : s.port.restartPending = true := by simpa [out] using busy
      simp [serveOutbound, startNext, out, (settled.2.1 out).1, restart]
  · obtain ⟨replies, rest⟩ := settled.2.1 out
    obtain ⟨notices, _⟩ : s.port.notices = [] ∧ _ := by simpa [free] using rest
    unfold serveOutbound
    rw [if_neg (by simp [out])]
    exact startNext_report (s := { s.reach d with port := { s.port with statusAt := some next, reportPending := true } })
      replies free notices rfl

/-! ### Bytes from the modem (R140 to R143) -/

/-- The receive assembler amid a frame, its gap timer running from the present time. -/
def amidRx (a : RadioAssembler) (s : State) : State := setRx a (some (s.now + radioGap)) s

/-- The receive assembler idle. -/
def idleRx (s : State) : State := setRx .hunt none s

theorem radioBytes_deaf {bytes : List Byte} {s : State} (deaf : s.running = false ∨ s.radio.tx.isSome = true) :
    radioBytes bytes s = s := by
  unfold radioBytes
  obtain stops | key := deaf
  · simp [stops]
  · have tx : s.radio.tx.isNone = false := by rw [← Option.not_isSome, key]; rfl
    simp [tx]

theorem radioBytes_open {bytes : List Byte} {s : State} (running : s.running = true) (tx : s.radio.tx = none) :
    radioBytes bytes s = bytes.foldl (fun s x => radioByte x s) s := by
  simp [radioBytes, running, tx]

theorem radioByte_start {s : State} (hunt : s.radio.rx = .hunt) : radioByte 0xA5#8 s = amidRx .length s := by
  simp [radioByte, hunt, amidRx]

theorem radioByte_length {len : Byte} {s : State} (fits : 5 ≤ len.toNat ∧ len.toNat ≤ 29) :
    radioByte len (amidRx .length s) = amidRx (.body len.toNat []) s := by
  unfold radioByte amidRx setRx
  dsimp only
  rw [if_pos fits]

theorem radioByte_badLength {x : Byte} {s : State} (wrong : ¬(5 ≤ x.toNat ∧ x.toNat ≤ 29)) (other : x ≠ 0xA5#8) :
    radioByte x (amidRx .length s) = countRadioBad (idleRx s) := by
  unfold radioByte amidRx setRx
  dsimp only
  rw [if_neg wrong, if_neg other]
  rfl

theorem radioByte_again (s : State) : radioByte 0xA5#8 (amidRx .length s) = amidRx .length (countRadioBad s) := rfl

theorem radioByte_more {x : Byte} {len : Nat} {got : List Byte} {s : State} (more : got.length + 1 < len + 2) :
    radioByte x (amidRx (.body len got) s) = amidRx (.body len (got ++ [x])) s := by
  unfold radioByte amidRx setRx
  dsimp only
  rw [if_pos (by simpa using more)]

theorem radioByte_last {x : Byte} {len : Nat} {got : List Byte} {s : State} (last : got.length + 1 = len + 2) :
    radioByte x (amidRx (.body len got) s) =
      if frameCrcOk len (got ++ [x]) then enqueueFrame ((got ++ [x]).take len) (idleRx s) else countRadioBad (idleRx s) := by
  have done : ¬(got ++ [x]).length < len + 2 := by simp; omega
  unfold radioByte amidRx setRx
  dsimp only
  rw [if_neg done]
  rfl

theorem radioBytes_body {len : Nat} {s : State} : ∀ {got xs : List Byte}, got.length + xs.length < len + 2 →
    xs.foldl (fun s x => radioByte x s) (amidRx (.body len got) s) = amidRx (.body len (got ++ xs)) s
  | got, [], _ => by rw [List.foldl_nil, List.append_nil]
  | got, x :: xs, more => by
    have more' : got.length + 1 + xs.length < len + 2 := by simpa [Nat.add_assoc, Nat.add_comm 1] using more
    rw [List.foldl_cons, radioByte_more (by omega), radioBytes_body (by simpa using more'), List.append_assoc]
    rfl

/-- The bytes of a whole frame, its CRC right or wrong. -/
theorem radioBytes_frame {body check : List Byte} {s : State} (hunt : s.radio.rx = .hunt) (low : 5 ≤ body.length)
    (high : body.length ≤ 29) (two : check.length = 2) :
    (0xA5#8 :: ((byteOf body.length :: body) ++ check)).foldl (fun s x => radioByte x s) s =
      if check = crcBytes (byteOf body.length :: body) then enqueueFrame body (idleRx s) else countRadioBad (idleRx s) := by
  have len : (byteOf body.length).toNat = body.length := by
    simp only [byteOf, BitVec.toNat_ofNat]
    omega
  obtain ⟨x, y, rfl⟩ : ∃ x y, check = [x, y] := exists_pair two
  rw [List.foldl_cons, radioByte_start hunt, List.cons_append, List.foldl_cons,
    radioByte_length (by rw [len]; exact ⟨low, high⟩), len, show body ++ [x, y] = (body ++ [x]) ++ [y] by simp,
    List.foldl_append, radioBytes_body (by simp), List.nil_append, List.foldl_cons, List.foldl_nil, radioByte_last (by simp)]
  have taken : (body ++ [x] ++ [y]).take body.length = body := by simp
  have rest : (body ++ [x] ++ [y]).drop body.length = [x, y] := by simp
  unfold frameCrcOk
  rw [taken, rest]
  by_cases right : [x, y] = crcBytes (byteOf body.length :: body)
  · rw [if_pos right, if_pos (by rw [← right]; simp)]
  · rw [if_neg right, if_neg (by simpa using fun eq => right eq.symm)]

theorem radioGapOut_amid {a : RadioAssembler} {s : State} (inside : a ≠ .hunt) :
    radioGapOut (amidRx a s) = countRadioBad (idleRx (s.reach (s.now + 2000))) := by
  unfold radioGapOut
  cases a with
  | hunt => exact absurd rfl inside
  | length => rfl
  | body len got => rfl

theorem enqueueFrame_room {frame : List Byte} {s : State} (room : s.radio.queue.length < 6) :
    enqueueFrame frame s = setRadio { s.radio with queue := s.radio.queue ++ [frame] } s := if_pos room

theorem enqueueFrame_full {frame : List Byte} {s : State} (full : 6 ≤ s.radio.queue.length) :
    enqueueFrame frame s = countQueueDrop s := if_neg (Nat.not_lt.mpr full)

theorem idleRx_radio {s : State} (hunt : s.radio.rx = .hunt) :
    idleRx s = { s with radio := { s.radio with rxGap := none } } := by
  unfold idleRx setRx
  rw [← hunt]

/-- Settles O31: the bytes from the modem. -/
theorem radioFrames : Obligations.RadioFrames := by
  intro t s held settled
  have arrives {bytes : List Byte} {u : State} (work : radioBytes bytes (s.reach t) = u) (still : eventEndInv u) :
      exec (.radioFrameReceived t bytes) s = .next u ∧ exec (.radioBadLengthByte t bytes) s = .next u := by
    have both : outsideEvent t (radioBytes bytes) s = u := by
      rw [outsideEvent_free held, work, finish_settled still]
    exact ⟨congrArg _ both, congrArg _ both⟩
  have lapses {bytes : List Byte} {u : State} (work : radioGapOut (radioBytes bytes (s.reach t)) = u) (still : eventEndInv u) :
      exec (.radioGapTimeout t bytes) s = .next u := by
    show Host.Outcome.next (outsideEvent t (fun s => radioGapOut (radioBytes bytes s)) s) = _
    rw [outsideEvent_free held, work, finish_settled still]
  refine ⟨fun deaf bytes => arrives (radioBytes_deaf (s := s.reach t) deaf) settled, fun running tx hunt => ?_,
    fun running tx inside g due => ?_⟩
  · have opens {bytes : List Byte} : radioBytes bytes (s.reach t) = bytes.foldl (fun s x => radioByte x s) (s.reach t) :=
      radioBytes_open running tx
    have idle := idleRx_radio (s := s.reach t) hunt
    refine ⟨fun body check low high two => ⟨fun right room => ?_, fun right full => ?_, fun wrong => ?_⟩,
      fun x wrong other => ?_, ?_, fun len got low high few part member => ?_⟩
    · refine (arrives (opens.trans ?_) ?_).1
      · rw [radioBytes_frame (s := s.reach t) hunt low high two, if_pos right, idle]
        exact enqueueFrame_room (s := { s.reach t with radio := { s.radio with rxGap := none } }) room
      · exact settled
    · refine (arrives (opens.trans ?_) ?_).1
      · rw [radioBytes_frame (s := s.reach t) hunt low high two, if_pos right, idle]
        exact enqueueFrame_full (s := { s.reach t with radio := { s.radio with rxGap := none } }) full
      · exact settled
    · refine (arrives (opens.trans ?_) ?_).1
      · rw [radioBytes_frame (s := s.reach t) hunt low high two, if_neg wrong, idle]
        rfl
      · exact settled
    · refine (arrives (opens.trans ?_) ?_).2
      · rw [List.foldl_cons, radioByte_start (s := s.reach t) hunt, List.foldl_cons, radioByte_badLength wrong other, List.foldl_nil, idle]
        rfl
      · exact settled
    · refine (arrives (opens.trans ?_) ?_).2
      · rw [List.foldl_cons, radioByte_start (s := s.reach t) hunt, List.foldl_cons, radioByte_again, List.foldl_nil]
        rfl
      · exact settled
    · obtain ⟨a, within, work⟩ : ∃ a, a ≠ .hunt ∧ radioBytes part (s.reach t) = amidRx a (s.reach t) := by
        simp only [List.mem_cons, List.not_mem_nil, or_false] at member
        rw [opens]
        obtain rfl | rfl := member
        · exact ⟨.length, nofun, by rw [List.foldl_cons, radioByte_start (s := s.reach t) hunt, List.foldl_nil]⟩
        · refine ⟨.body len.toNat got, nofun, ?_⟩
          rw [List.foldl_cons, radioByte_start (s := s.reach t) hunt, List.foldl_cons, radioByte_length ⟨low, high⟩,
            radioBytes_body (by simpa using few), List.nil_append]
      have late : max s.now t + 2000 = max (max s.now t) (max s.now t + 2000) :=
        (Nat.max_eq_right (Nat.le_add_right _ _)).symm
      refine lapses ?_ ?_
      · rw [work, radioGapOut_amid within, idleRx_radio (s := (s.reach t).reach _) hunt, late]
        rfl
      · exact settled
  · refine lapses ?_ ?_
    · rw [radioBytes_open (bytes := []) (s := s.reach t) running tx, List.foldl_nil]
      unfold radioGapOut
      rw [show (s.reach t).radio.rx = s.radio.rx from rfl, show (s.reach t).radio.rxGap = some g from due]
      cases assembler : s.radio.rx with
      | hunt => exact absurd assembler inside
      | length => rfl
      | body len got => rfl
    · exact settled

/-! ### Taking instants that discard (R49 to R52, R56) -/

/-- The state in which a taking instant looks at the queue. -/
def takeReady (d : Time) (s : State) : State := setNextTake (some (d + 4000)) (s.reach d)

/-- A taking instant, with the frame at the head of the queue taken. -/
theorem exec_takeFrame {s : State} {d : Time} {frame : List Byte} {rest : List (List Byte)} (held : s.station.held = false)
    (running : s.running = true) (due : s.table.nextTake = some d) (queue : s.radio.queue = frame :: rest) :
    exec .takeFrame s = .next (finish (takeContent frame (setRadio { s.radio with queue := rest } (takeReady d s)))) := by
  show Host.Outcome.next (timedEvent (takeDue s) takeInstant s) = _
  unfold takeDue
  rw [if_pos running, due, timedEvent_some held]
  unfold takeInstant
  dsimp only
  rw [show (s.reach d).radio.queue = frame :: rest from queue, show (s.reach d).table.nextTake = some d from due]
  rfl

theorem findPeer_none {n : Nat} {s : State} (none : ∀ p ∈ s.table.peers, p.station ≠ n) : findPeer n s = .none := by
  unfold findPeer
  rw [List.find?_eq_none]
  intro p member
  simpa using none p member

theorem touches_false {zones : List Nat} {cs : List Claim} (none : ∀ c ∈ cs, c.zone ∉ zones) : touches zones cs = false := by
  unfold touches
  rw [List.any_eq_false]
  intro c member
  simpa using none c member

theorem touches_true {zones : List Nat} {cs : List Claim} (some : ∃ c ∈ cs, c.zone ∈ zones) : touches zones cs = true := by
  obtain ⟨c, member, zone⟩ := some
  unfold touches
  exact List.any_eq_true.mpr ⟨c, member, by simpa using zone⟩

theorem isNewer_iff {n m : Nat} : isNewer n m = true ↔ 1 ≤ (n + 65536 - m) % 65536 ∧ (n + 65536 - m) % 65536 ≤ 32767 := by
  simp [isNewer]

/-- Settles O32: the taking instants at which no entry changes. -/
theorem framesDiscarded : Obligations.FramesDiscarded := by
  intro s d held running due settled idle
  refine ⟨fun empty => ?_, fun frame rest queue => ?_⟩
  · show Host.Outcome.next (timedEvent (takeDue s) takeInstant s) = _
    unfold takeDue
    rw [if_pos running, due, timedEvent_some held]
    unfold takeInstant
    dsimp only
    rw [show (s.reach d).radio.queue = [] from empty, show (s.reach d).table.nextTake = some d from due]
    exact congrArg _ (finish_settled (s := idle) settled)
  · intro taken
    have done : exec .takeFrame s = .next (finish (takeContent frame taken)) := exec_takeFrame held running due queue
    have still : finish taken = taken := finish_settled (s := taken) settled
    refine ⟨fun malformed => ?_, fun b parsed => ⟨fun own => ⟨_, done, ?_⟩, fun other => ⟨fun p known stale old => ?_,
      fun unknown apart => ?_⟩⟩⟩
    · rw [done]
      unfold takeContent
      rw [malformed]
      exact congrArg _ (finish_settled (s := countRadioBad taken) settled)
    · have work : takeContent frame taken = raiseNotice (.duplicateId b.seq b.cls) taken := by
        unfold takeContent
        rw [parsed]
        exact if_pos own
      have inner := raiseNotice_inner (.duplicateId b.seq b.cls) taken
      rw [work]
      refine ⟨?_, inner.finish_portKept, fun room => finish_noticed (raiseNotice_mem room)⟩
      have table : (refreshRelevance (raiseNotice (.duplicateId b.seq b.cls) taken)).table = taken.table := by
        rw [refreshRelevance_agrees (relevanceAgrees_congr (s := taken) ?_ ?_ settled.2.2), inner.table]
        · unfold ownZones windowZones State.isCarrier State.cls
          rw [inner.station, inner.route, raiseNotice_window]
        · rw [inner.table]
      have line : stopLevel (refreshRelevance (raiseNotice (.duplicateId b.seq b.cls) taken)) = taken.stopLine := by
        rw [stopLevel_refresh, stopLevel_congr inner.station (raiseNotice_window _ _) (raiseNotice_auth _ _)]
        exact settled.1.symm
      rw [finish_eq, table, line]
      unfold raiseNotice
      split <;> rfl
    · rw [done]
      have work : takeContent frame taken = taken := by
        unfold takeContent
        rw [parsed]
        dsimp only
        rw [if_neg (show ¬b.station = taken.ownNumber from other), show findPeer b.station taken = some p from known]
        unfold knownStation
        have newer : (b.fresh || isNewer b.seq p.seq) = false := by
          rw [stale, Bool.false_or, Bool.eq_false_iff, Ne, isNewer_iff]
          exact old
        dsimp only
        rw [newer]
        rfl
      rw [work, still]
    · rw [done]
      have work : takeContent frame taken = taken := by
        unfold takeContent
        rw [parsed]
        dsimp only
        rw [if_neg (show ¬b.station = taken.ownNumber from other), findPeer_none (s := taken) unknown]
        unfold unknownStation
        dsimp only
        rw [touches_false (zones := ownZones taken) apart]
        rfl
      rw [work, still]

end Sys2Proof.Machine
end

section
/-! Gridlock, the placement point, the due time, the start of a beacon and the end of a tail. -/

namespace Sys2Proof.Machine

-- One proof after another: many at a time want more threads than the memory limit of a build leaves.
set_option Elab.async false


/-! ### Gridlock (R42) -/

/-- Settles O40: the gridlock notice. -/
theorem gridlock : Obligations.Gridlock := by
  intro z n s e b held found waiting unmarked since lowest fits settled
  have zone : e.zone = z := findEntry_zone found
  have done : exec (.gridlock z) s = .next (finish (modifyEntry z ClaimEntry.reported
      (raiseNotice (.gridlock z n) (s.reach (b + 30000000))))) := by
    show Host.Outcome.next (timedEvent (gridlockDue z s) (gridlockOut z) s) = _
    unfold gridlockDue
    rw [found]
    dsimp only
    rw [if_pos (by simp [waiting, unmarked]), since, Option.map_some, timedEvent_some held]
    unfold gridlockOut
    rw [lowestHolder_some (s := s.reach (b + gridlockTime)) lowest]
    rfl
  have inner := (raiseNotice_inner (.gridlock z n) (s.reach (b + 30000000))).trans
    (modifyEntry_inner z ClaimEntry.reported (raiseNotice (.gridlock z n) (s.reach (b + 30000000))))
  have entries : (modifyEntry z ClaimEntry.reported (raiseNotice (.gridlock z n) (s.reach (b + 30000000)))).window =
      (modifyEntry z ClaimEntry.reported s).window := by
    rw [modifyEntry_window, raiseNotice_window]
    rfl
  have sameState : ∀ f : ClaimEntry, (if f.zone == z then f.reported else f).state = f.state := fun f => by split <;> rfl
  have sameZone : KeepsZone fun f => if f.zone == z then f.reported else f := fun f => by
    dsimp only
    split <;> rfl
  have mapped : (modifyEntry z ClaimEntry.reported (raiseNotice (.gridlock z n) (s.reach (b + 30000000)))).window.entries =
      s.window.entries.map fun f => if f.zone == z then f.reported else f := by
    rw [entries]
    rfl
  refine ⟨_, done, by rw [finish_now]; exact inner.now, ?_, fun f member other => ?_, fun room => ?_,
    by rw [finish_station]; exact inner.station, by rw [finish_route]; exact inner.route,
    by rw [finish_odo]; exact inner.odo, by rw [finish_auth]; exact raiseNotice_auth _ _, ?_,
    by rw [finish_radio]; exact raiseNotice_radio _ _, ?_, inner.finish_portKept⟩
  · rw [finish_window, mapped]
    exact List.mem_map.mpr ⟨e, findEntry_mem found, by simp [zone, ClaimEntry.reported]⟩
  · rw [finish_window, mapped]
    exact List.mem_map.mpr ⟨f, member, by simp [other]⟩
  · exact finish_noticed (s := modifyEntry z ClaimEntry.reported (raiseNotice (.gridlock z n) (s.reach (b + 30000000))))
      (raiseNotice_mem (s := s.reach (b + 30000000)) room)
  · rw [finish_table, refreshRelevance_agrees (relevanceAgrees_congr (s := s) ?_ ?_ settled.2.2), inner.table]
    · rfl
    · unfold ownZones
      rw [windowZones_map sameZone mapped, inner.isCarrier, inner.route, inner.standing]
      rfl
    · rw [inner.table]
      rfl
  · rw [finish_stopLine, stopLevel_refresh]
    refine (stopLevel_held inner.station inner.standing ?_ ?_ fun z => isHeld_map_same sameZone sameState mapped z).trans
      settled.1.symm
    · rw [entries]
      rfl
    · exact congrArg _ (raiseNotice_auth _ _)

/-! ### Placement and due time (R127, R129, R133) -/

/-- A draw between two numbers that are not negative. -/
theorem draw_snd (g : BitVec 16) (lo hi : Int) : (draw g lo hi).2 = lo + ((stepGen g).toNat : Int) % (hi - lo + 1) := rfl

theorem backoff_draw (g : BitVec 16) : (draw g 1 16).2.toNat = 1 + (stepGen g).toNat % 16 := by
  rw [draw_snd]
  omega

theorem jitter_due (g : BitVec 16) (n q : Nat) :
    ((n : Int) + (draw g (-(q : Int)) q).2 * 1000).toNat = n + (stepGen g).toNat % (2 * q + 1) * 1000 - q * 1000 := by
  rw [draw_snd, show (q : Int) - -(q : Int) + 1 = ((2 * q + 1 : Nat) : Int) by omega]
  generalize (stepGen g).toNat = x
  rw [← Int.natCast_emod]
  omega

theorem jitter_bounds (n p : Nat) {j : Nat} (small : j < 2 * (p / 4) + 1) :
    n - p * 250 ≤ n + j * 1000 - p / 4 * 1000 ∧ n + j * 1000 - p / 4 * 1000 ≤ n + p * 250 := by
  omega

/-- A placement point runs when its instant is known and it is still to come. -/
theorem exec_placementPoint {s : State} {n : Time} (held : s.station.held = false) (next : s.radio.next = some n)
    (still : s.radio.placementOpen = true) :
    exec .placementPoint s = .next (finish (placeScheduled n (s.reach (n - s.period * 250)))) := by
  show Host.Outcome.next (match s.radio.next with
    | none => s
    | some n => timedEvent (if s.radio.placementOpen then some (n - placementLead s) else none) (placeScheduled n) s) = _
  rw [next]
  dsimp only
  rw [if_pos still, timedEvent_some held]
  rfl

theorem exec_beaconDue {s : State} {b : PendingBeacon} (clear : Bool) (held : s.station.held = false)
    (slot : s.radio.slot = some b) (waits : b.arrived = false) :
    exec (.beaconDue clear) s = .next (finish (beaconDueNow clear (s.reach b.due))) := by
  show Host.Outcome.next (timedEvent (beaconDueAt s) (beaconDueNow clear) s) = _
  unfold beaconDueAt
  rw [slot]
  dsimp only
  rw [if_neg (by rw [waits]; exact Bool.false_ne_true), timedEvent_some held]

/-- Settles O47: placement and due time. -/
theorem placementAndDueTime : Obligations.PlacementAndDueTime := by
  unfold Obligations.PlacementAndDueTime
  intro stepped
  refine ⟨fun s n held next still settled => ?_, fun s b clear held slot waits settled => ?_⟩
  · intro v
    have done := exec_placementPoint held next still
    refine ⟨fun full => ?_, fun empty => ?_⟩
    · rw [done, placeScheduled_full (s := s.reach _) (Option.isSome_iff_ne_none.mpr full)]
      exact congrArg _ (finish_settled (s := v) settled)
    · intro g jitter due placed
      have small : jitter < 2 * (s.period / 4) + 1 := Nat.mod_lt _ (Nat.succ_pos _)
      have place : placeScheduled n (s.reach (n - s.period * 250)) =
          if due ≤ v.now then beaconDueNow (Config.channelClear s.radio.samples)
            { v with radio := { placed with samples := s.radio.samples + 1 } }
          else { v with radio := placed } := by
        have empty' := placeScheduled_empty (n := n) (s := s.reach (n - s.period * 250)) empty
        dsimp only at empty'
        rw [show (s.reach (n - s.period * 250)).period = s.period from rfl, jitter_due] at empty'
        exact empty'
      obtain ⟨early, late⟩ := jitter_bounds n s.period small
      refine ⟨early, late, fun ahead => ?_, fun past => ?_⟩
      · rw [done, place, if_neg (Nat.not_le.mpr ahead)]
        exact congrArg _ (finish_settled (s := { v with radio := placed }) settled)
      · have due' := exec_beaconDue (s := { v with radio := { placed with samples := s.radio.samples + 1 } })
          (b := ⟨.scheduled, due, 0, false⟩) (Config.channelClear s.radio.samples) held rfl rfl
        rw [done, place, if_pos past, due',
          reach_past (s := { v with radio := { placed with samples := s.radio.samples + 1 } }) past]
  · intro v outcome
    have done := exec_beaconDue clear held slot waits
    have settled' : eventEndInv v := settled
    refine ⟨fun key => ?_, fun free => ⟨fun level => ?_, fun level few => ?_, fun level full => ?_⟩⟩
    · show exec (.beaconDue clear) s = _
      rw [done, beaconDueNow_key (s := v) slot key]
      exact congrArg _ (finish_settled (s := { v with radio := { s.radio with slot := some { b with arrived := true } } })
        settled)
    · subst level
      refine ⟨_, done, ?_⟩
      rw [beaconDueNow_clear (s := v) slot free, finish_radio]
      exact ⟨finish_now _, rfl, rfl⟩
    · subst level
      show exec (.beaconDue false) s = _
      rw [done, beaconDueNow_backoff (s := v) slot free few, backoff_draw, finish_settled]
      · rfl
      · exact settled
    · subst level
      show exec (.beaconDue false) s = _
      rw [done, beaconDueNow_drop (s := v) slot free (Nat.not_lt.mpr full), finish_settled]
      · rfl
      · exact settled

/-! ### The start of a beacon and the end of a tail (R134 to R136) -/

theorem beBytes_length : ∀ n v : Nat, (beBytes n v).length = n
  | 0, _ => rfl
  | n + 1, v => by rw [beBytes, List.length_cons, beBytes_length n v]

theorem claims_bytes_length (cs : List Claim) : (cs.flatMap (fun c => beBytes 3 c.bits)).length = 3 * cs.length := by
  induction cs with
  | nil => rfl
  | cons c cs ih =>
    rw [List.flatMap_cons, List.length_append, ih, beBytes_length, List.length_cons]
    omega

theorem body_length (b : Beacon) : b.body.length = 5 + 3 * b.claims.length := by
  unfold Beacon.body
  rw [List.length_append, claims_bytes_length]
  simp only [List.length_append, beBytes_length, List.length_cons, List.length_nil]

theorem frame_length (b : Beacon) : b.frame.length = 9 + 3 * b.claims.length := by
  unfold Beacon.frame
  simp only [List.length_cons, List.length_append, body_length, crcBytes_length]
  omega

/-- What the frame that starts carries changes nothing that an event's end reads. -/
theorem eventEndInv_startBeacon {b : PendingBeacon} {gap : Time} {s : State} (settled : eventEndInv s) :
    eventEndInv (startBeacon b gap s) := by
  have zone : KeepsZone fun e => { e with air := e.airNow } := fun _ => rfl
  have mapped : (startBeacon b gap s).window.entries = s.window.entries.map fun e => { e with air := e.airNow } := rfl
  refine ⟨?_, settled.2.1, relevanceAgrees_congr (s := s) ?_ rfl settled.2.2⟩
  · exact settled.1.trans (stopLevel_held (s := s) (t := startBeacon b gap s) rfl rfl rfl rfl fun z => isHeld_map_same zone (fun _ => rfl) mapped z).symm
  · unfold ownZones
    rw [windowZones_map zone mapped]
    rfl

theorem exec_tailEnd {s : State} {x : Transmission} (held : s.station.held = false) (tx : s.radio.tx = some x)
    (tail : x.phase = .tail) : exec .tailEnd s = .next (finish (tailEnds (s.reach x.endsAt))) := by
  show Host.Outcome.next (match s.radio.tx with
    | none => s
    | some x => timedEvent (if x.phase = TxPhase.tail then some x.endsAt else none) tailEnds s) = _
  rw [tx]
  dsimp only
  rw [if_pos tail, timedEvent_some held]

/-- The tail ends with the beacon of the slot. -/
theorem tailEnds_follow {s : State} {b : PendingBeacon} (slot : s.radio.slot = some b)
    (follows : b.arrived = true ∨ b.due < s.now) : tailEnds s = startBeacon b 0 s := by
  unfold tailEnds
  rw [slot]
  exact if_pos (by simpa using follows)

theorem tailEnds_release {s : State} (none : ∀ b, s.radio.slot = some b → b.arrived = false ∧ s.now ≤ b.due) :
    tailEnds s = setRadio { s.radio with tx := .none } s := by
  unfold tailEnds
  split
  · rename_i b slot
    obtain ⟨waits, ahead⟩ := none b slot
    exact if_neg (by simp [waits, ahead])
  · rfl

/-- Settles O48: the start of a beacon and the end of a tail. -/
theorem beaconStartsAndTailEnds : Obligations.BeaconStartsAndTailEnds := by
  refine ⟨fun s x held tx tail settled none => ?_, fun s b w held cfg slot settled => ?_⟩
  · rw [exec_tailEnd held tx tail, tailEnds_release (s := s.reach x.endsAt) none]
    exact congrArg _ (finish_settled (s := setRadio { s.radio with tx := .none } (s.reach x.endsAt)) settled)
  · intro claim sent starts
    have content (now : Time) : beaconNow (s.reach now) = sent := by
      have claims : claim = ClaimEntry.claim := rfl
      unfold beaconNow State.ownNumber State.cls
      rw [show (s.reach now).station.cfg = some w from cfg]
      rfl
    have started (now gap : Time) : starts (max s.now now) gap (finish (startBeacon b gap (s.reach now))) := by
      rw [finish_settled (eventEndInv_startBeacon (s := s.reach now) settled)]
      refine ⟨rfl, ?_, rfl, rfl, rfl, rfl, rfl, rfl, rfl, ?_⟩
      · have length : (beaconNow (s.reach now)).frame.length * radioByteTime = (9 + 3 * sent.claims.length) * 250 := by
          rw [content, frame_length]
          rfl
        unfold startBeacon
        dsimp only
        rw [length, content]
        cases b.kind <;> rfl
      · refine congrArg (fun es => { s.window with entries := es }) (List.map_congr_left fun e _ => ?_)
        unfold ClaimEntry.airNow
        cases e.state <;> rfl
    refine ⟨fun waits free => ⟨_, ?_, started b.due 2000⟩, fun x tx tail follows => ⟨_, ?_, started x.endsAt 0⟩⟩
    · rw [exec_beaconDue true held slot waits, beaconDueNow_clear (s := s.reach b.due) slot free]
      rfl
    · rw [exec_tailEnd held tx tail, tailEnds_follow (s := s.reach x.endsAt) slot follows]

end Sys2Proof.Machine
end

section
/-! Re-evaluations, entry by entry: what one leaves of an entry, where a pass comes to a zone, and the urgent request of an
event. The settle timer and the nominal instant. -/

namespace Sys2Proof.Machine

-- One proof after another: many at a time want more threads than the memory limit of a build leaves.
set_option Elab.async false


/-! ### One urgent request to an event (R130, R131) -/

/-- An urgent request changes nothing: none is taken, or the slot holds a beacon, or the limiter is closed. -/
def Asked (s : State) : Prop := s.running = false ∨ s.radio.slot.isSome = true ∨ limiterClosed s = true

theorem urgentRequest_asked {s : State} (asked : Asked s) : urgentRequest s = s := by
  unfold urgentRequest
  refine if_pos ?_
  obtain stops | slot | closed := asked
  · simp [stops]
  · simp [slot]
  · simp [closed]

theorem asked_urgentRequest (s : State) : Asked (urgentRequest s) := by
  by_cases asked : Asked s
  · rw [urgentRequest_asked asked]
    exact asked
  · refine .inr (.inl ?_)
    unfold urgentRequest
    rw [if_neg (by simpa [Asked, and_assoc] using asked)]
    rfl

theorem Asked.congr {s t : State} (asked : Asked s) (now : t.now = s.now) (station : t.station = s.station)
    (radio : t.radio = s.radio) : Asked t := by
  unfold Asked limiterClosed State.running State.period at asked ⊢
  rw [now, station, radio]
  exact asked

theorem urgentRequest_radio_asked {s t : State} (asked : Asked s) (now : t.now = s.now) (station : t.station = s.station)
    (radio : t.radio = s.radio) : (urgentRequest t).radio = s.radio := by
  rw [urgentRequest_asked (asked.congr now station radio)]
  exact radio

/-- Once the request is made, what comes in the same event leaves the radio. -/
theorem Move.radio_asked {f : Flag} {s t : State} (m : Move f s t) (kind : f ∈ innerF) (asked : Asked s) :
    t.radio = s.radio := by
  cases m with
  | notice n => exact raiseNotice_radio n s
  | urgent => rw [urgentRequest_asked asked]
  | word v => exact sendWord_radio v s
  | release z | surrender z | yield z =>
    simp only [giveWay_radio, raiseNotice_radio]
    exact urgentRequest_radio_asked asked rfl rfl rfl
  | reorder =>
    unfold Machine.reorder
    split <;> rfl
  | conflict z n | firstConflict z n => exact recordConflict_radio z n s
  | clearOverrun =>
    unfold Machine.clearOverrun
    split <;> rfl
  | overrun => exact overrunCause_radio s
  | tick => exact sendWord_radio _ _
  | _ =>
    first
      | exact absurd kind (by decide)
      | rfl

/-- An inner move leaves the radio, or makes the request of the event. -/
theorem Move.radio_either {f : Flag} {s t : State} (m : Move f s t) (kind : f ∈ innerF) :
    t.radio = s.radio ∨ t.radio = (urgentRequest s).radio := by
  cases m with
  | notice n => exact .inl (raiseNotice_radio n s)
  | urgent => exact .inr rfl
  | word v => exact .inl (sendWord_radio v s)
  | release z | surrender z | yield z =>
    refine .inr ?_
    simp only [giveWay_radio, raiseNotice_radio]
    exact urgentRequest_radio_congr rfl rfl rfl
  | reorder =>
    unfold Machine.reorder
    split <;> exact .inl rfl
  | conflict z n | firstConflict z n => exact .inl (recordConflict_radio z n s)
  | clearOverrun =>
    unfold Machine.clearOverrun
    split <;> exact .inl rfl
  | overrun => exact .inl (overrunCause_radio s)
  | tick => exact .inl (sendWord_radio _ _)
  | _ =>
    first
      | exact absurd kind (by decide)
      | exact .inl rfl

theorem Moves.inner {F : List Flag} (kind : ∀ f ∈ F, f ∈ innerF) {s t : State} (m : Moves F s t) : Inner s t := by
  refine m.keeps (I := fun t => Inner s t) (fun f u v member move inner => inner.trans (move.inner ?_)) (.refl s)
  exact member.elim (fun free => free ▸ (by decide)) (kind f)

/-- Over a chain of inner moves the radio stays, or takes the one request of the event. -/
theorem Moves.radio {F : List Flag} (kind : ∀ f ∈ F, f ∈ innerF) {s t : State} (m : Moves F s t) :
    t.radio = s.radio ∨ (t.radio = (urgentRequest s).radio ∧ Asked t) := by
  have both : Inner s t ∧ (t.radio = s.radio ∨ (t.radio = (urgentRequest s).radio ∧ Asked t)) := by
    refine m.keeps (I := fun t => Inner s t ∧ (t.radio = s.radio ∨ (t.radio = (urgentRequest s).radio ∧ Asked t)))
      (fun f u v member move state => ?_) ⟨.refl s, .inl rfl⟩
    obtain ⟨inner, radio⟩ := state
    have innerKind : f ∈ innerF := member.elim (fun free => free ▸ (by decide)) (kind f)
    have step := move.inner innerKind
    refine ⟨inner.trans step, ?_⟩
    have requested (same : u.radio = s.radio) (request : v.radio = (urgentRequest u).radio) :
        v.radio = (urgentRequest s).radio ∧ Asked v := by
      refine ⟨request.trans (urgentRequest_radio_congr inner.now inner.station same), (asked_urgentRequest u).congr ?_ ?_ request⟩
      · exact step.now.trans (urgentRequest_inner u).now.symm
      · exact step.station.trans (urgentRequest_inner u).station.symm
    obtain same | ⟨request, asked⟩ := radio
    · obtain still | request := move.radio_either innerKind
      · exact .inl (still.trans same)
      · exact .inr (requested same request)
    · have still := move.radio_asked innerKind asked
      exact .inr ⟨still.trans request, asked.congr step.now step.station still⟩
  exact both.2

/-- A chain of inner moves that ends with the request made. -/
theorem Moves.radio_requested {F : List Flag} (kind : ∀ f ∈ F, f ∈ innerF) {s t : State} (m : Moves F s t) (asked : Asked t) :
    t.radio = (urgentRequest s).radio := by
  obtain same | ⟨request, _⟩ := m.radio kind
  · have inner := m.inner kind
    rw [urgentRequest_asked (asked.congr inner.now.symm inner.station.symm same.symm)]
    exact same
  · exact request

theorem Moves.asked {F : List Flag} (kind : ∀ f ∈ F, f ∈ innerF) {s t : State} (m : Moves F s t) (asked : Asked s) :
    Asked t := by
  have inner := m.inner kind
  obtain same | ⟨_, asked'⟩ := m.radio kind
  · exact asked.congr inner.now inner.station same
  · exact asked'

/-! ### How entries evolve -/

/-- Each entry of `s` has an entry of its zone in `t` that it is related to. -/
def Evolves (R : ClaimEntry → ClaimEntry → Prop) (s t : State) : Prop :=
  ∀ z e, findEntry z s = some e → ∃ e', findEntry z t = some e' ∧ R e e'

theorem Evolves.refl {R : ClaimEntry → ClaimEntry → Prop} (same : ∀ e, R e e) (s : State) : Evolves R s s :=
  fun _ e found => ⟨e, found, same e⟩

theorem Evolves.trans {R : ClaimEntry → ClaimEntry → Prop} (chain : ∀ a b c, R a b → R b c → R a c) {s t u : State}
    (h : Evolves R s t) (k : Evolves R t u) : Evolves R s u := by
  intro z e found
  obtain ⟨e', found', first⟩ := h z e found
  obtain ⟨e'', found'', second⟩ := k z e' found'
  exact ⟨e'', found'', chain _ _ _ first second⟩

/-- Reading off an entry by its membership. -/
theorem Evolves.of_mem {R : ClaimEntry → ClaimEntry → Prop} {s t : State} (h : Evolves R s t) (fits : windowFits s.window)
    {e : ClaimEntry} (member : e ∈ s.window.entries) : ∃ e' ∈ t.window.entries, R e e' := by
  obtain ⟨e', found, related⟩ := h e.zone e (findEntry_of_mem fits.2.1 member)
  exact ⟨e', findEntry_mem found, related⟩

theorem findEntry_map {f : ClaimEntry → ClaimEntry} (zone : KeepsZone f) {s t : State}
    (entries : t.window.entries = s.window.entries.map f) (z : Nat) : findEntry z t = (findEntry z s).map f := by
  unfold findEntry
  rw [entries, List.find?_map]
  congr 2
  funext e
  simp [zone e]

/-! ### The commit test of one entry (R66, R67) -/

theorem commitPasses_congr {s t : State} {e e' : ClaimEntry} (route : t.route = s.route) (odo : t.odo = s.odo)
    (profile : t.profile = s.profile) (first : e'.first = e.first) : commitPasses t e' = commitPasses s e := by
  unfold commitPasses State.front State.s stoppingPoint stoppingDistance reactionDistance State.s
  rw [route, odo, profile, first]

theorem Inner.commitPasses {s t : State} (inner : Inner s t) {e e' : ClaimEntry} (first : e'.first = e.first) :
    Machine.commitPasses t e' = Machine.commitPasses s e :=
  commitPasses_congr inner.route inner.odo inner.profile first

/-- The entry after its own commit test. -/
theorem commitTest_self {z : Nat} {s : State} {e : ClaimEntry} (found : findEntry z s = some e) :
    findEntry z (commitTest z s) =
      some (if s.isCarrier = true ∧ e.state = .held ∧ commitPasses s e = true then e.commit else e) := by
  unfold commitTest
  rw [found]
  dsimp only
  by_cases passes : s.isCarrier = true ∧ e.state = .held ∧ commitPasses s e = true
  · rw [if_pos passes]
    obtain ⟨carrier, held, reach⟩ := passes
    cases marked : e.committed with
    | false =>
      rw [if_pos (by simp [carrier, held, reach]), findEntry_urgent, findEntry_modifyEntry commit_zone, found]
      rfl
    | true =>
      rw [if_neg (by simp), found]
      refine congrArg _ ?_
      cases e
      cases marked
      rfl
  · rw [if_neg passes, if_neg, found]
    simp only [Bool.and_eq_true, decide_eq_true_eq, not_and, Bool.not_eq_true] at passes ⊢
    intro ⟨⟨carrier, held⟩, _⟩
    exact passes carrier held

/-! ### One re-evaluation (R33 to R35, R42) -/

section
variable {z : Nat} {s : State} {e : ClaimEntry}

theorem reevaluate_blocks (found : findEntry z s = some e) (announced : e.state = .announced) (blocked : isBlocked s e = true) :
    reevaluate z s = (modifyEntry z (ClaimEntry.block s.now (holdStands s z)) s, false) := by
  simp [reevaluate, found, announced, blocked]

theorem reevaluate_grants (found : findEntry z s = some e) (announced : e.state = .announced) (free : isBlocked s e = false)
    (settled : e.settle = .expired) (twice : e.announce = 2) (earlier : allEarlierHeld z s = true) :
    reevaluate z s = (commitTest z (urgentRequest (modifyEntry z ClaimEntry.grant s)), true) := by
  simp [reevaluate, found, announced, free, settled, twice, earlier]

theorem reevaluate_stays (found : findEntry z s = some e) (announced : e.state = .announced) (free : isBlocked s e = false)
    (not : ¬(e.settle = .expired ∧ e.announce = 2 ∧ allEarlierHeld z s = true)) : reevaluate z s = (s, false) := by
  have not' : (decide (e.settle = .expired) && e.announce == 2 && allEarlierHeld z s) = false := by
    rw [Bool.eq_false_iff]
    simpa [and_assoc] using not
  unfold reevaluate
  simp [found, announced, free, not']

theorem reevaluate_tracks (found : findEntry z s = some e) (waiting : e.state = .waiting) (blocked : isBlocked s e = true) :
    reevaluate z s = (modifyEntry z (ClaimEntry.trackBlock s.now (holdStands s z)) s, false) := by
  simp [reevaluate, found, waiting, blocked]

theorem reevaluate_unblocks (found : findEntry z s = some e) (waiting : e.state = .waiting) (free : isBlocked s e = false) :
    reevaluate z s = (modifyEntry z (ClaimEntry.unblock s.now (settleLength s)) s, false) := by
  simp [reevaluate, found, waiting, free]

theorem reevaluate_rests (found : findEntry z s = some e) (rests : e.requested = false) : reevaluate z s = (s, false) := by
  unfold reevaluate
  rw [found]
  cases state : e.state <;> simp_all [ClaimEntry.requested]

theorem reevaluate_absent (absent : findEntry z s = none) : reevaluate z s = (s, false) := by
  simp [reevaluate, absent]

/-- The entry that a grant leaves, with its commit test. -/
theorem granted_self (found : findEntry z s = some e) : findEntry z (commitTest z (urgentRequest (modifyEntry z ClaimEntry.grant s))) =
    some { e with state := .held, committed := s.isCarrier && commitPasses s e } := by
  have inner := (modifyEntry_inner z ClaimEntry.grant s).trans (urgentRequest_inner _)
  have granted : findEntry z (urgentRequest (modifyEntry z ClaimEntry.grant s)) = some e.grant := by
    rw [findEntry_urgent, findEntry_modifyEntry grant_zone, found]
    rfl
  rw [commitTest_self granted, inner.isCarrier, inner.commitPasses (e := e) (e' := e.grant) rfl]
  refine congrArg _ ?_
  cases carrier : s.isCarrier <;> cases passes : commitPasses s e <;> simp [ClaimEntry.grant, ClaimEntry.commit]

end

/-- What re-evaluations leave of an entry: all that no re-evaluation writes, an entry that is not requested as it was,
and a requested one requested still or HELD. -/
structure Rejudged (e e' : ClaimEntry) : Prop where
  rest : e' = { e with
    state := e'.state, settle := e'.settle, announce := e'.announce, committed := e'.committed
    blockedSince := e'.blockedSince, gridlock := e'.gridlock, air := e'.air }
  rests : e.requested = false → e' = e
  goes : e.requested = true → e'.requested = true ∨ e'.state = .held

namespace Rejudged

theorem refl (e : ClaimEntry) : Rejudged e e := ⟨rfl, fun _ => rfl, .inl⟩

theorem trans {a b c : ClaimEntry} (h : Rejudged a b) (k : Rejudged b c) : Rejudged a c where
  rest := by rw [k.rest, h.rest]
  rests := fun still => by
    have same := h.rests still
    rw [k.rests (by rw [same]; exact still), same]
  goes := fun requested => by
    obtain still | held := h.goes requested
    · exact k.goes still
    · right
      rw [k.rests (by simp [ClaimEntry.requested, held]), held]

theorem zone {e e' : ClaimEntry} (h : Rejudged e e') : e'.zone = e.zone := by rw [h.rest]
theorem wait {e e' : ClaimEntry} (h : Rejudged e e') : e'.wait = e.wait := by rw [h.rest]
theorem carried {e e' : ClaimEntry} (h : Rejudged e e') : e'.carried = e.carried := by rw [h.rest]
theorem released {e e' : ClaimEntry} (h : Rejudged e e') : e'.released = e.released := by rw [h.rest]
theorem urgency {e e' : ClaimEntry} (h : Rejudged e e') : e'.urgency = e.urgency := by rw [h.rest]

end Rejudged

theorem requested_iff {e : ClaimEntry} : e.requested = true ↔ e.state = .announced ∨ e.state = .waiting := by
  unfold ClaimEntry.requested
  cases e.state <;> simp

theorem reevaluate_self {z : Nat} {s : State} {e : ClaimEntry} (found : findEntry z s = some e) :
    ∃ e', findEntry z (reevaluate z s).1 = some e' ∧ Rejudged e e' := by
  have changed {f : ClaimEntry → ClaimEntry} (zone : KeepsZone f) (judged : Rejudged e (f e)) :
      ∃ e', findEntry z (modifyEntry z f s) = some e' ∧ Rejudged e e' :=
    ⟨f e, by rw [findEntry_modifyEntry zone, found]; rfl, judged⟩
  cases requested : e.requested with
  | false =>
    rw [reevaluate_rests found requested]
    exact ⟨e, found, .refl e⟩
  | true =>
    obtain announced | waiting := requested_iff.mp requested
    · cases blocked : isBlocked s e with
      | true =>
        rw [reevaluate_blocks found announced blocked]
        exact changed (block_zone _ _) ⟨rfl, fun none => (Bool.false_ne_true (none.symm.trans requested)).elim, fun _ => .inl rfl⟩
      | false =>
        by_cases grants : e.settle = .expired ∧ e.announce = 2 ∧ allEarlierHeld z s = true
        · obtain ⟨settled, twice, earlier⟩ := grants
          rw [reevaluate_grants found announced blocked settled twice earlier]
          exact ⟨_, granted_self found, rfl, fun none => (Bool.false_ne_true (none.symm.trans requested)).elim, fun _ => .inr rfl⟩
        · rw [reevaluate_stays found announced blocked grants]
          exact ⟨e, found, .refl e⟩
    · cases blocked : isBlocked s e with
      | true =>
        rw [reevaluate_tracks found waiting blocked]
        exact changed (trackBlock_zone _ _) ⟨rfl, fun none => (Bool.false_ne_true (none.symm.trans requested)).elim,
          fun _ => .inl requested⟩
      | false =>
        rw [reevaluate_unblocks found waiting blocked]
        exact changed (unblock_zone _ _) ⟨rfl, fun none => (Bool.false_ne_true (none.symm.trans requested)).elim, fun _ => .inl rfl⟩

theorem reevaluate_evolves (z : Nat) (s : State) : Evolves Rejudged s (reevaluate z s).1 := by
  intro y e found
  by_cases same : y = z
  · subst same
    exact reevaluate_self found
  · exact ⟨e, by rw [reevaluate_findEntry_ne same, found], .refl e⟩

/-! ### A pass of re-evaluations (R33, R36) -/

section
variable (sel : Nat → Bool)

theorem reevaluatePass_evolves : ∀ (zs : List Nat) (granted : Bool) (s : State),
    Evolves Rejudged s (reevaluatePass sel zs granted s)
  | [], _, s => .refl Rejudged.refl s
  | z :: zs, granted, s => by
    unfold reevaluatePass
    split
    · exact (reevaluate_evolves z s).trans (R := Rejudged) (fun _ _ _ => Rejudged.trans) (reevaluatePass_evolves zs _ _)
    · exact reevaluatePass_evolves zs _ _

theorem reevaluatePass_zones : ∀ (zs : List Nat) (granted : Bool) (s : State),
    windowZones (reevaluatePass sel zs granted s) = windowZones s
  | [], _, _ => rfl
  | z :: zs, granted, s => by
    unfold reevaluatePass
    split
    · rw [reevaluatePass_zones zs, reevaluate_zones]
    · exact reevaluatePass_zones zs _ _

/-- A pass leaves the entries of the zones it does not come to. -/
theorem reevaluatePass_findEntry_ne {y : Nat} : ∀ {zs : List Nat} (_ : y ∉ zs) (granted : Bool) (s : State),
    findEntry y (reevaluatePass sel zs granted s) = findEntry y s
  | [], _, _, _ => rfl
  | z :: zs, absent, granted, s => by
    obtain ⟨differ, absent'⟩ : y ≠ z ∧ y ∉ zs := by simpa using absent
    unfold reevaluatePass
    split
    · rw [reevaluatePass_findEntry_ne absent', reevaluate_findEntry_ne differ]
    · exact reevaluatePass_findEntry_ne absent' _ _

/-- With nothing selected and nothing granted a pass does nothing. -/
theorem reevaluatePass_skip : ∀ {before : List Nat} (_ : ∀ z ∈ before, sel z = false) (rest : List Nat) (s : State),
    reevaluatePass sel (before ++ rest) false s = reevaluatePass sel rest false s
  | [], _, _, _ => rfl
  | z :: zs, unselected, rest, s => by
    rw [List.cons_append, reevaluatePass, unselected z List.mem_cons_self, if_neg (by simp)]
    exact reevaluatePass_skip (fun y member => unselected y (List.mem_cons_of_mem _ member)) rest s

theorem reevaluatePass_idle {zs : List Nat} (none : ∀ z ∈ zs, sel z = false) (s : State) :
    reevaluatePass sel zs false s = s := by
  rw [← List.append_nil zs, reevaluatePass_skip sel none]
  rfl

/-- Where a pass comes to a zone, the entry of the zone stands as it did, and what the pass leaves of it is what one
re-evaluation there leaves; a zone that is not selected may be passed over. -/
theorem reevaluatePass_at {z : Nat} : ∀ {zs : List Nat} (_ : zs.Nodup) (_ : z ∈ zs) (granted : Bool) (s : State),
    (∃ m, Moves reevalF s m ∧ findEntry z m = findEntry z s ∧
      Moves reevalF (reevaluate z m).1 (reevaluatePass sel zs granted s) ∧
      findEntry z (reevaluatePass sel zs granted s) = findEntry z (reevaluate z m).1) ∨
    (sel z = false ∧ findEntry z (reevaluatePass sel zs granted s) = findEntry z s)
  | [], _, member, _, _ => absurd member List.not_mem_nil
  | x :: zs, differ, member, granted, s => by
    obtain ⟨absent, differ'⟩ := List.nodup_cons.mp differ
    unfold reevaluatePass
    by_cases here : x = z
    · subst here
      split
      · exact .inl ⟨s, .refl, rfl, reevaluatePass_moves _ _ _ _, reevaluatePass_findEntry_ne sel absent _ _⟩
      · rename_i unselected
        simp only [Bool.or_eq_true, not_or, Bool.not_eq_true] at unselected
        exact .inr ⟨unselected.1, reevaluatePass_findEntry_ne sel absent _ _⟩
    · have later : z ∈ zs := (List.mem_cons.mp member).resolve_left fun eq => here eq.symm
      split
      · have same : findEntry z (reevaluate x s).1 = findEntry z s := reevaluate_findEntry_ne (Ne.symm here) s
        refine (reevaluatePass_at differ' later _ _).imp (fun ⟨m, moves, stands, after, result⟩ => ?_)
          fun ⟨unselected, stays⟩ => ⟨unselected, stays.trans same⟩
        exact ⟨m, (reevaluate_moves x s).trans moves, stands.trans same, after, result⟩
      · exact reevaluatePass_at differ' later granted s

end

end Sys2Proof.Machine
end

section
/-! The nominal instant, the settle timer, the overflow condition and the ageing of peers. -/

namespace Sys2Proof.Machine

-- One proof after another: many at a time want more threads than the memory limit of a build leaves.
set_option Elab.async false


/-! ### The nominal instant (R128, R32) -/

/-- A rise of the wait counts with the re-evaluations behind it. -/
theorem waitRise_evolves (s : State) : Evolves (fun e e' => Rejudged e.waitMore e') s (waitRise s) := by
  intro z e found
  have risen : findEntry z (setEntries (s.window.entries.map ClaimEntry.waitMore) s) = some e.waitMore := by
    rw [findEntry_map (s := s) waitMore_zone rfl, found]
    rfl
  exact reevaluatePass_evolves _ _ _ _ z e.waitMore risen

/-- Settles O46: a nominal instant. -/
theorem nominalInstant : Obligations.NominalInstant := by
  intro s n held next fits
  have inner : Inner (advanceSchedule n (s.reach n)) (nominalWork n (s.reach n)) :=
    (setEntries_inner _ _).trans (reevaluateZones_inner _ _)
  have done : exec .nominalInstant s = .next (finish (nominalWork n (s.reach n))) := by
    show Host.Outcome.next (match s.radio.next with
      | none => s
      | some n => timedEvent (some n) (nominalWork n) s) = _
    rw [next]
    dsimp only
    rw [timedEvent_some held]
  have evolves := waitRise_evolves (advanceSchedule n (s.reach n))
  refine ⟨_, done, by rw [finish_now]; exact inner.now, by rw [finish_station]; exact inner.station,
    by rw [finish_route]; exact inner.route, by rw [finish_odo]; exact inner.odo, ?_, finish_tableKept inner.table,
    inner.finish_portKept, by rw [finish_window]; exact inner.standing, ?_, ?_, fun e member => ?_⟩
  · rw [finish_auth]
    exact reevaluateZones_auth _ _
  · rw [finish_radio, inner.radio]
    rfl
  · show windowZones (finish (nominalWork n (s.reach n))) = _
    unfold windowZones
    rw [finish_window]
    exact (reevaluatePass_zones _ _ _ _).trans (windowZones_map waitMore_zone rfl)
  · obtain ⟨e', member', judged⟩ := evolves.of_mem (s := advanceSchedule n (s.reach n)) fits member
    rw [finish_window]
    refine ⟨fun requested => ⟨e', member', ?_, ?_⟩, fun rests => ?_⟩
    · exact judged.zone.trans (waitMore_zone e)
    · rw [judged.wait]
      unfold ClaimEntry.waitMore
      rw [if_pos requested]
    · have same : e.waitMore = e := if_neg (by rw [rests]; exact Bool.false_ne_true)
      rw [same] at judged
      rw [← judged.rests rests]
      exact member'

/-! ### What a blocker is read from (R29) -/

theorem isBlocked_congr {s t : State} {e e' : ClaimEntry} (overflow : t.table.overflow = s.table.overflow)
    (peers : t.table.peers = s.table.peers) (own : t.ownNumber = s.ownNumber) (zone : e'.zone = e.zone)
    (urgency : e'.urgency = e.urgency) (carried : e'.carried = e.carried) : isBlocked t e' = isBlocked s e := by
  unfold isBlocked peerBlocks
  rw [overflow, peers, own, zone, urgency, carried]

theorem Inner.isBlocked {s t : State} (inner : Inner s t) (e : ClaimEntry) : Machine.isBlocked t e = Machine.isBlocked s e :=
  isBlocked_congr (by rw [inner.table]) (by rw [inner.table]) inner.ownNumber rfl rfl rfl

/-- The relevant flags have no part in a blocker. -/
theorem isBlocked_finish (s : State) (e : ClaimEntry) : isBlocked (finish s) e = isBlocked s e := by
  have own : (finish s).ownNumber = s.ownNumber := by unfold State.ownNumber; rw [finish_station]
  unfold isBlocked
  rw [finish_table]
  refine congrArg (or s.table.overflow.isSome) ?_
  show (s.table.peers.map _).any _ = _
  rw [List.any_map]
  refine congrArg _ (funext fun p => ?_)
  unfold peerBlocks Function.comp
  rw [own]

theorem holdStands_congr {s t : State} (peers : t.table.peers = s.table.peers) (z : Nat) : holdStands t z = holdStands s z := by
  unfold holdStands
  rw [peers]

theorem settleLength_congr {s t : State} (peers : t.table.peers = s.table.peers) (station : t.station = s.station) :
    settleLength t = settleLength s := by
  unfold settleLength maxPeriod State.period
  rw [peers, station]

theorem Inner.holdStands {s t : State} (inner : Inner s t) (z : Nat) : Machine.holdStands t z = Machine.holdStands s z :=
  holdStands_congr (by rw [inner.table]) z

theorem Inner.settleLength {s t : State} (inner : Inner s t) : Machine.settleLength t = Machine.settleLength s :=
  settleLength_congr (by rw [inner.table]) inner.station

/-! ### The settle timer (R28) -/

/-- The entries earlier than a zone's are not the zone's. -/
theorem allEarlierHeld_modifyEntry {f : ClaimEntry → ClaimEntry} (zone : KeepsZone f) (z : Nat) (s : State) :
    allEarlierHeld z (modifyEntry z f s) = allEarlierHeld z s := by
  unfold allEarlierHeld
  simp only [modifyEntry_window, updateEntry]
  induction s.window.entries with
  | nil => rfl
  | cons e es ih =>
    rw [List.map_cons, List.takeWhile_cons, List.takeWhile_cons]
    by_cases here : e.zone = z
    · simp [here, zone e]
    · simp only [beq_iff_eq, here, if_false, bne_iff_ne, ne_eq, not_false_eq_true, if_true, List.all_cons] at ih ⊢
      rw [ih]

/-- A pass that selects one zone re-evaluates its entry first, as it stands. -/
theorem reevaluateZones_only {z : Nat} {s : State} (differ : (windowZones s).Nodup) (member : z ∈ windowZones s) :
    ∃ after, z ∉ after ∧ reevaluateZones (fun y => y == z) s =
      reevaluatePass (fun y => y == z) after (reevaluate z s).2 (reevaluate z s).1 := by
  obtain ⟨before, after, split⟩ := List.append_of_mem member
  rw [split] at differ
  have early : z ∉ before := fun h => by
    have := (List.nodup_append.mp differ).2.2 z h z List.mem_cons_self
    exact this rfl
  have late : z ∉ after := (List.nodup_cons.mp (List.nodup_append.mp differ).2.1).1
  refine ⟨after, late, ?_⟩
  unfold reevaluateZones
  rw [split, reevaluatePass_skip _ (fun y h => by simpa using fun eq : y = z => early (eq ▸ h)), reevaluatePass]
  simp

theorem mem_windowZones_of_found {z : Nat} {s : State} {e : ClaimEntry} (found : findEntry z s = some e) : z ∈ windowZones s :=
  List.mem_map.mpr ⟨e, findEntry_mem found, findEntry_zone found⟩

theorem unselected {z : Nat} {zs : List Nat} (absent : z ∉ zs) : ∀ y ∈ zs, (y == z) = false := fun y h => by
  simpa using fun eq : y = z => absent (eq ▸ h)

theorem exec_settleExpiry {z : Nat} {s : State} {e : ClaimEntry} {d : Time} (held : s.station.held = false)
    (found : findEntry z s = some e) (announced : e.state = .announced) (runs : e.settle = .running d) :
    exec (.settleExpiry z) s = .next (finish (settleExpires z (s.reach d))) := by
  show Host.Outcome.next (timedEvent (settleDue z s) (settleExpires z) s) = _
  have due : settleDue z s = some d := by simp [settleDue, found, announced, runs]
  rw [due, timedEvent_some held]

/-- Settles O39: the settle timer. -/
theorem settleExpiry : Obligations.SettleExpiry := by
  intro z s e d held found announced runs fits
  let m := modifyEntry z ClaimEntry.settled (s.reach d)
  have moves := settleExpires_moves z (s.reach d)
  have inner : Inner (s.reach d) (settleExpires z (s.reach d)) := moves.inner (by decide)
  have conflicts : (settleExpires z (s.reach d)).window.conflicts = s.window.conflicts := by
    refine moves.keeps (I := fun t => t.window.conflicts = s.window.conflicts) (fun f u v member move same => ?_) rfl
    exact (move.causesSame (by revert member; cases f <;> decide)).conflicts.trans same
  have foundM : findEntry z m = some e.settled := by
    rw [findEntry_modifyEntry settled_zone]
    exact congrArg (Option.map ClaimEntry.settled) found
  have zones : windowZones m = windowZones s := modifyEntry_zones settled_zone z _
  obtain ⟨after, late, passes⟩ := reevaluateZones_only (s := m) (z := z) (by rw [zones]; exact fits.2.1)
    (by rw [zones]; exact mem_windowZones_of_found found)
  have blockedM : isBlocked m e.settled = isBlocked s e := isBlocked_congr rfl rfl rfl rfl rfl rfl
  have earlierM : allEarlierHeld z m = allEarlierHeld z s := allEarlierHeld_modifyEntry settled_zone z _
  have member {f : ClaimEntry} (stands : findEntry z (settleExpires z (s.reach d)) = some f) :
      f ∈ (finish (settleExpires z (s.reach d))).window.entries := by
    rw [finish_window]
    exact findEntry_mem stands
  refine ⟨_, exec_settleExpiry held found announced runs, by rw [finish_now]; exact inner.now,
    by rw [finish_station]; exact inner.station, by rw [finish_route]; exact inner.route,
    by rw [finish_odo]; exact inner.odo, ?_, finish_tableKept inner.table, inner.finish_portKept,
    by rw [finish_window]; exact inner.standing, by rw [finish_window]; exact conflicts,
    fun blocked => ?_, fun free twice earlier => ?_, fun free not => ?_⟩
  · rw [finish_auth]
    exact reevaluateZones_auth _ _
  · have work : settleExpires z (s.reach d) = modifyEntry z (ClaimEntry.block m.now (holdStands m z)) m := by
      show reevaluateZones _ m = _
      rw [passes, reevaluate_blocks foundM announced (blockedM.trans blocked), reevaluatePass_idle _ (unselected late)]
    refine ⟨member ?_, ?_⟩
    · rw [work, findEntry_modifyEntry (block_zone _ _), foundM]
      rfl
    · rw [finish_radio, work]
      rfl
  · have grants := reevaluate_grants foundM announced (blockedM.trans free) rfl twice (earlierM.trans earlier)
    have work : settleExpires z (s.reach d) = reevaluatePass (fun y => y == z) after true
        (commitTest z (urgentRequest (modifyEntry z ClaimEntry.grant m))) := by
      show reevaluateZones _ m = _
      rw [passes, grants]
    refine ⟨member ?_, ?_⟩
    · rw [work, reevaluatePass_findEntry_ne _ late, granted_self foundM]
      have passes : commitPasses m e.settled = commitPasses s e :=
        (modifyEntry_inner z ClaimEntry.settled (s.reach d)).commitPasses rfl
      rw [passes]
      rfl
    · rw [finish_radio]
      refine moves.radio_requested (by decide) ?_
      rw [work]
      refine (reevaluatePass_moves _ _ _ _).asked (by decide) ((commitTest_moves z _).asked (by decide) (asked_urgentRequest _))
  · have stays : ¬(e.settled.settle = .expired ∧ e.settled.announce = 2 ∧ allEarlierHeld z m = true) := by
      rintro ⟨_, twice, earlier⟩
      rw [earlierM] at earlier
      exact not.elim (fun h => h twice) fun h => Bool.false_ne_true (h.symm.trans earlier)
    have work : settleExpires z (s.reach d) = m := by
      show reevaluateZones _ m = _
      rw [passes, reevaluate_stays foundM announced (blockedM.trans free) stays, reevaluatePass_idle _ (unselected late)]
    refine ⟨member ?_, ?_⟩
    · rw [work]
      exact foundM
    · rw [finish_radio, work]
      rfl

end Sys2Proof.Machine
end

section
/-! The overflow condition and the ageing of peers. -/

namespace Sys2Proof.Machine

-- One proof after another: many at a time want more threads than the memory limit of a build leaves.
set_option Elab.async false


/-! ### Passes that grant nothing -/

/-- A pass that selects no ANNOUNCED entry grants nothing: it leaves the zones it does not select, and the radio. -/
theorem reevaluatePass_ungranted {sel : Nat → Bool} : ∀ {zs : List Nat} {s : State} (_ : zs.Nodup)
    (_ : ∀ z ∈ zs, sel z = true → ∀ e, findEntry z s = some e → e.state ≠ .announced ∨ isBlocked s e = true),
    (reevaluatePass sel zs false s).radio = s.radio ∧
      ∀ y, sel y = false → findEntry y (reevaluatePass sel zs false s) = findEntry y s
  | [], _, _, _ => ⟨rfl, fun _ _ => rfl⟩
  | z :: zs, s, differ, quiet => by
    obtain ⟨absent, differ'⟩ := List.nodup_cons.mp differ
    unfold reevaluatePass
    cases chosen : sel z with
    | false =>
      rw [Bool.false_or, Bool.false_and, if_neg Bool.false_ne_true]
      exact reevaluatePass_ungranted differ' fun y member => quiet y (List.mem_cons_of_mem _ member)
    | true =>
      have step : (reevaluate z s).2 = false ∧ (reevaluate z s).1.radio = s.radio := by
        cases found : findEntry z s with
        | none =>
          rw [reevaluate_absent found]
          exact ⟨rfl, rfl⟩
        | some e =>
          have announcedBlocked := quiet z List.mem_cons_self chosen e found
          cases requested : e.requested with
          | false =>
            rw [reevaluate_rests found requested]
            exact ⟨rfl, rfl⟩
          | true =>
            obtain announced | waiting := requested_iff.mp requested
            · rw [reevaluate_blocks found announced (announcedBlocked.resolve_left fun h => h announced)]
              exact ⟨rfl, rfl⟩
            · cases blocked : isBlocked s e with
              | true =>
                rw [reevaluate_tracks found waiting blocked]
                exact ⟨rfl, rfl⟩
              | false =>
                rw [reevaluate_unblocks found waiting blocked]
                exact ⟨rfl, rfl⟩
      obtain ⟨ungranted, radio⟩ := step
      rw [Bool.true_or, if_pos rfl]
      dsimp only
      rw [ungranted, Bool.or_false]
      have others {y : Nat} (differ : y ≠ z) : findEntry y (reevaluate z s).1 = findEntry y s :=
        reevaluate_findEntry_ne differ s
      have later := reevaluatePass_ungranted (sel := sel) (s := (reevaluate z s).1) differ' fun y member chosen' e found => by
        rw [others fun eq => absent (eq ▸ member)] at found
        rw [(reevaluate_inner z s).isBlocked]
        exact quiet y (List.mem_cons_of_mem _ member) chosen' e found
      refine ⟨later.1.trans radio, fun y unchosen => (later.2 y unchosen).trans (others ?_)⟩
      rintro rfl
      exact Bool.false_ne_true (unchosen.symm.trans chosen)

/-- The entry of a zone that a pass selects is re-evaluated once, all that its blockers are read from as at the start. -/
theorem reevaluateZones_selected {sel : Nat → Bool} {s : State} {e : ClaimEntry} (fits : windowFits s.window)
    (member : e ∈ s.window.entries) (chosen : sel e.zone = true) :
    ∃ m, Inner s m ∧ findEntry e.zone m = some e ∧
      findEntry e.zone (reevaluateZones sel s) = findEntry e.zone (reevaluate e.zone m).1 := by
  have found := findEntry_of_mem fits.2.1 member
  obtain ⟨m, moves, stands, _, result⟩ | ⟨unchosen, _⟩ :=
    reevaluatePass_at sel fits.2.1 (List.mem_map_of_mem (f := ClaimEntry.zone) member) false s
  · exact ⟨m, moves.inner (by decide), stands.trans found, result⟩
  · exact absurd (unchosen.symm.trans chosen) (by decide)

/-- A selected WAITING entry that nothing blocks is ANNOUNCED again with a fresh settle timer. -/
theorem reevaluateZones_unblocks {sel : Nat → Bool} {s : State} {e : ClaimEntry} (fits : windowFits s.window)
    (member : e ∈ s.window.entries) (chosen : sel e.zone = true) (waiting : e.state = .waiting) (free : isBlocked s e = false) :
    e.unblock s.now (settleLength s) ∈ (reevaluateZones sel s).window.entries := by
  obtain ⟨m, inner, stands, result⟩ := reevaluateZones_selected fits member chosen
  rw [reevaluate_unblocks stands waiting ((inner.isBlocked e).trans free), findEntry_modifyEntry (unblock_zone _ _), stands,
    inner.now, inner.settleLength] at result
  exact findEntry_mem result

/-- A selected WAITING entry that a blocker stands against stays WAITING. -/
theorem reevaluateZones_tracks {sel : Nat → Bool} {s : State} {e : ClaimEntry} (fits : windowFits s.window)
    (member : e ∈ s.window.entries) (chosen : sel e.zone = true) (waiting : e.state = .waiting) (blocked : isBlocked s e = true) :
    e.trackBlock s.now (holdStands s e.zone) ∈ (reevaluateZones sel s).window.entries := by
  obtain ⟨m, inner, stands, result⟩ := reevaluateZones_selected fits member chosen
  rw [reevaluate_tracks stands waiting ((inner.isBlocked e).trans blocked), findEntry_modifyEntry (trackBlock_zone _ _), stands,
    inner.now, inner.holdStands] at result
  exact findEntry_mem result

/-- A selected ANNOUNCED entry that a blocker stands against is WAITING. -/
theorem reevaluateZones_blocks {sel : Nat → Bool} {s : State} {e : ClaimEntry} (fits : windowFits s.window)
    (member : e ∈ s.window.entries) (chosen : sel e.zone = true) (announced : e.state = .announced)
    (blocked : isBlocked s e = true) : e.block s.now (holdStands s e.zone) ∈ (reevaluateZones sel s).window.entries := by
  obtain ⟨m, inner, stands, result⟩ := reevaluateZones_selected fits member chosen
  rw [reevaluate_blocks stands announced ((inner.isBlocked e).trans blocked), findEntry_modifyEntry (block_zone _ _), stands,
    inner.now, inner.holdStands] at result
  exact findEntry_mem result

/-- An entry that is not requested stays through the re-evaluations of an event. -/
theorem reevaluateZones_rests {sel : Nat → Bool} {s : State} {e : ClaimEntry} (fits : windowFits s.window)
    (member : e ∈ s.window.entries) (rests : e.requested = false) : e ∈ (reevaluateZones sel s).window.entries := by
  obtain ⟨e', member', judged⟩ := (reevaluatePass_evolves sel (windowZones s) false s).of_mem fits member
  rw [judged.rests rests] at member'
  exact member'

theorem reevaluateZones_zones (sel : Nat → Bool) (s : State) : windowZones (reevaluateZones sel s) = windowZones s :=
  reevaluatePass_zones _ _ _ _

theorem not_requested {e : ClaimEntry} {st : ClaimState} (state : e.state = st) (h : st ≠ .announced ∧ st ≠ .waiting) :
    e.requested = false := by
  rw [Bool.eq_false_iff, Ne, requested_iff, state]
  exact fun is => is.elim h.1 h.2

/-! ### The overflow condition (R58, R59) -/

/-- The state in which a dropped beacon's condition is raised. -/
theorem unknownStation_drops {b : Beacon} {s : State} (relevant : ∃ c ∈ b.claims, c.zone ∈ ownZones s)
    (full : 24 ≤ s.table.peers.length) (all : ∀ p ∈ s.table.peers, p.relevant = true) : unknownStation b s = dropBeacon b s := by
  have stale : s.table.peers.find? (fun p => p.freshness = .stale && !p.relevant) = none :=
    List.find?_eq_none.mpr fun p member => by simp [all p member]
  have any : s.table.peers.find? (fun p => !p.relevant) = none :=
    List.find?_eq_none.mpr fun p member => by simp [all p member]
  have none : evictable s = .none := by
    unfold evictable
    rw [stale, any]
    rfl
  unfold unknownStation
  dsimp only
  rw [touches_true relevant, if_pos rfl, if_neg (show ¬s.table.peers.length < maxPeers from Nat.not_lt.mpr full), none]

theorem takeContent_drops {frame : List Byte} {b : Beacon} {s : State} (parsed : parseBeacon frame = some b)
    (other : b.station ≠ s.ownNumber) (all : ∀ p ∈ s.table.peers, p.station ≠ b.station ∧ p.relevant = true)
    (relevant : ∃ c ∈ b.claims, c.zone ∈ ownZones s) (full : 24 ≤ s.table.peers.length) :
    takeContent frame s = dropBeacon b s := by
  unfold takeContent
  rw [parsed]
  dsimp only
  rw [if_neg other, findPeer_none fun p member => (all p member).1]
  exact unknownStation_drops relevant full fun p member => (all p member).2

theorem finish_stations (s : State) : (finish s).table.peers.map Peer.station = s.table.peers.map Peer.station := by
  rw [finish_relevance, List.map_map]
  rfl

theorem finish_overflow (s : State) : (finish s).table.overflow = s.table.overflow := by rw [finish_table]; rfl
theorem finish_nextTake (s : State) : (finish s).table.nextTake = s.table.nextTake := by rw [finish_table]; rfl

/-- A blocker that stands for every entry: the overflow condition. -/
theorem isBlocked_overflow {s : State} (overflow : s.table.overflow.isSome = true) (e : ClaimEntry) : isBlocked s e = true := by
  simp [isBlocked, overflow]

/-- Settles O34: the overflow condition. -/
theorem overflow : Obligations.Overflow := by
  refine ⟨fun s d frame rest b held running due queue parsed other fits all relevant full => ?_,
    fun s d held due fits => ?_⟩
  · let w := setRadio { s.radio with queue := rest } (takeReady d s)
    let raised := setOverflow (some (max s.now d + 3 * s.period * 1000)) w
    have done : exec .takeFrame s = .next (finish (dropBeacon b w)) := by
      rw [exec_takeFrame held running due queue, takeContent_drops (s := w) parsed other all relevant full]
    by_cases stood : s.table.overflow.isSome = true
    · have work : dropBeacon b w = raised := if_pos stood
      rw [work] at done
      exact ⟨_, done, finish_now _, finish_overflow _, finish_nextTake _, finish_stations _, finish_radio _, finish_route _,
        finish_odo _, finish_auth _, finish_station _, finish_portKept rfl rfl rfl rfl rfl, fun _ => finish_window _,
        fun none => absurd (none ▸ stood) (by decide)⟩
    · let told := raiseNotice (.tableOverflow b.station) raised
      have work : dropBeacon b w = reevaluateZones (fun _ => true) told := if_neg stood
      rw [work] at done
      have first := raiseNotice_inner (.tableOverflow b.station) raised
      have inner := first.trans (reevaluateZones_inner (fun _ => true) told)
      have window : told.window = s.window := raiseNotice_window _ _
      have fits' : windowFits told.window := by rw [window]; exact fits
      have stands : told.table.overflow.isSome = true := by rw [first.table]; rfl
      have quiet := reevaluatePass_ungranted (sel := fun _ => true) fits'.2.1 fun z _ _ e _ => .inr (isBlocked_overflow stands e)
      refine ⟨_, done, by rw [finish_now]; exact inner.now, ?_, ?_, ?_, ?_, by rw [finish_route]; exact inner.route,
        by rw [finish_odo]; exact inner.odo, ?_, by rw [finish_station]; exact inner.station, inner.finish_portKept,
        fun stood' => absurd stood' stood, fun _ => ⟨fun room => ?_, fun e member => ⟨fun requested => ?_, fun rests => ?_⟩⟩⟩
      · rw [finish_overflow, inner.table]
        rfl
      · rw [finish_nextTake, inner.table]
        rfl
      · rw [finish_stations, inner.table]
        rfl
      · rw [finish_radio]
        exact quiet.1.trans (raiseNotice_radio _ _)
      · rw [finish_auth]
        exact (reevaluateZones_auth _ _).trans (raiseNotice_auth _ _)
      · exact finish_noticed ((reevaluateZones_inner (fun _ => true) told).notices.subset
          (raiseNotice_mem (s := raised) room))
      · rw [finish_window]
        rw [← window] at member
        obtain announced | waiting := requested_iff.mp requested
        · exact ⟨_, reevaluateZones_blocks fits' member rfl announced (isBlocked_overflow stands e), rfl, rfl, rfl⟩
        · exact ⟨_, reevaluateZones_tracks fits' member rfl waiting (isBlocked_overflow stands e), rfl, waiting, rfl⟩
      · rw [finish_window]
        rw [← window] at member
        exact reevaluateZones_rests fits' member rests
  · let cleared := setOverflow none (s.reach d)
    let sel := isWaiting (s.reach d)
    have done : exec .overflowClear s = .next (finish (reevaluateZones sel cleared)) := by
      show Host.Outcome.next (timedEvent s.table.overflow overflowClears s) = _
      rw [due, timedEvent_some held]
      rfl
    have inner := reevaluateZones_inner sel cleared
    have fits' : windowFits cleared.window := fits
    have blocked (e : ClaimEntry) : isBlocked (finish (reevaluateZones sel cleared)) e = isBlocked cleared e := by
      rw [isBlocked_finish, inner.isBlocked]
    have chosen {e : ClaimEntry} (member : e ∈ s.window.entries) (waiting : e.state = .waiting) : sel e.zone = true :=
      List.any_eq_true.mpr ⟨e, member, by simp [waiting]⟩
    have waits {z : Nat} {e : ClaimEntry} (sel' : sel z = true) (found : findEntry z cleared = some e) : e.state = .waiting := by
      obtain ⟨x, member, is⟩ := List.any_eq_true.mp sel'
      simp only [Bool.and_eq_true, beq_iff_eq, decide_eq_true_eq] at is
      have found' := findEntry_of_mem (s := cleared) fits.2.1 member
      rw [is.1, found] at found'
      obtain rfl := Option.some.inj found'
      exact is.2
    have quiet := reevaluatePass_ungranted (sel := sel) (s := cleared) fits.2.1 fun z _ sel' e found =>
      .inl (by rw [waits sel' found]; decide)
    refine ⟨_, done, by rw [finish_now]; exact inner.now, by rw [finish_overflow, inner.table]; rfl,
      by rw [finish_route]; exact inner.route, by rw [finish_odo]; exact inner.odo,
      by rw [finish_auth]; exact reevaluateZones_auth _ _, by rw [finish_station]; exact inner.station,
      by rw [finish_radio]; exact quiet.1, inner.finish_portKept, fun e member => ⟨fun waiting free => ?_, fun waiting stands => ?_,
        fun other => ?_⟩⟩
    · rw [blocked] at free
      rw [finish_window]
      exact ⟨_, reevaluateZones_unblocks fits' member (chosen member waiting) waiting free, rfl, rfl, rfl, rfl, rfl⟩
    · rw [blocked] at stands
      rw [finish_window]
      exact ⟨_, reevaluateZones_tracks fits' member (chosen member waiting) waiting stands, rfl, waiting, rfl⟩
    · rw [finish_window]
      have found := findEntry_of_mem (s := cleared) fits.2.1 member
      have unchosen : sel e.zone = false := by
        rw [Bool.eq_false_iff]
        exact fun sel' => other (waits sel' found)
      exact findEntry_mem ((quiet.2 e.zone unchosen).trans found)

/-! ### Ageing (R61, R62) -/

/-- The table at the end of an event, its flags by the own zones of the state that the event leaves. -/
theorem finish_table_flags (s : State) : (finish s).table = { s.table with
    peers := s.table.peers.map (fun p => { p with relevant := touches (ownZones (finish s)) p.claims }) } := by
  rw [ownZones_finish, finish_table]
  rfl

theorem findPeer_unique {n : Nat} {s : State} {p q : Peer} (differ : (s.table.peers.map Peer.station).Nodup)
    (found : findPeer n s = some p) (member : q ∈ s.table.peers) (station : q.station = n) : q = p := by
  obtain ⟨member', station'⟩ := findPeer_spec found
  exact inj_of_nodup_map differ member member' (station.trans station'.symm)

/-- What an ageing leaves, its re-evaluations among the rest. -/
theorem reevaluated_kept {sel : Nat → Bool} {s v : State} (window : v.window = s.window)
    (fits : windowFits s.window) :
    let u := finish (reevaluateZones sel v)
    u.window.standing = s.window.standing ∧ u.window.conflicts = s.window.conflicts ∧
      ∀ e ∈ s.window.entries, e.state = .held → e ∈ u.window.entries := by
  intro u
  have fits' : windowFits v.window := by rw [window]; exact fits
  refine ⟨?_, ?_, fun e member held => ?_⟩
  · rw [finish_window, (reevaluateZones_inner sel v).standing, window]
  · rw [finish_window, ← window]
    refine (reevaluateZones_moves sel v).keeps (I := fun t => t.window.conflicts = v.window.conflicts)
      (fun f u v member move same => ?_) rfl
    exact (move.causesSame (by revert member; cases f <;> decide)).conflicts.trans same
  · rw [finish_window]
    rw [← window] at member
    exact reevaluateZones_rests fits' member (not_requested held (by decide))

/-- A WAITING entry on a zone handed over that nothing blocks any more is ANNOUNCED. -/
theorem reevaluated_returns {zones : List Nat} {s v : State} (window : v.window = s.window) (fits : windowFits s.window)
    {e : ClaimEntry} (member : e ∈ s.window.entries) (waiting : e.state = .waiting) (handed : e.zone ∈ zones)
    (free : isBlocked (finish (reevaluateZones (fun z => zones.contains z) v)) e = false) :
    ∃ e' ∈ (finish (reevaluateZones (fun z => zones.contains z) v)).window.entries,
      e'.zone = e.zone ∧ e'.state = .announced ∧ e'.wait = e.wait := by
  rw [isBlocked_finish, (reevaluateZones_inner _ v).isBlocked] at free
  rw [finish_window]
  rw [← window] at member
  exact ⟨_, reevaluateZones_unblocks (by rw [window]; exact fits) member (by simpa using handed) waiting free, rfl, rfl, rfl⟩

/-- Settles O35: the ageing of peers. -/
theorem peerAgeing : Obligations.PeerAgeing := by
  intro n s p held found fits table kept returns
  obtain ⟨member, station⟩ := findPeer_spec found
  refine ⟨fun live => ?_, fun stale => ?_⟩
  · let zones := (p.claims.filter (fun c => c.kind = .req)).map Claim.zone
    let v := agePeer n (s.reach p.expiry)
    have done : exec (.peerStale n) s = .next (finish (reevaluateZones (fun z => zones.contains z) v)) := by
      show Host.Outcome.next (timedEvent (peerDue n .live s) (peerStale n) s) = _
      unfold peerDue
      rw [found]
      dsimp only
      rw [if_pos live, timedEvent_some held]
      unfold peerStale
      rw [show findPeer n (s.reach p.expiry) = some p from found]
      rfl
    have inner := reevaluateZones_inner (fun z => zones.contains z) v
    obtain ⟨standing, conflicts, heldStay⟩ := reevaluated_kept (sel := fun z => zones.contains z) (v := v) rfl fits
    refine ⟨_, done, ⟨by rw [finish_now]; exact inner.now, by rw [finish_station]; exact inner.station,
      by rw [finish_route]; exact inner.route, by rw [finish_odo]; exact inner.odo,
      by rw [finish_auth]; exact reevaluateZones_auth _ _, finish_radioKept inner.radio, inner.finish_portKept, standing,
      conflicts, heldStay⟩, ?_, fun e among waiting handed free =>
        reevaluated_returns (zones := zones) (v := v) rfl fits among waiting handed free⟩
    rw [finish_table_flags, inner.table]
    refine congrArg (fun ps => { s.table with peers := ps }) ?_
    show (s.table.peers.map _).map _ = _
    rw [List.map_map]
    refine List.map_congr_left fun q among => ?_
    by_cases is : q.station = n
    · obtain rfl := findPeer_unique table.2.1 found among is
      simp [is, Peer.stale, Peer.limit, freshnessLimit]
    · simp [is]
  · let zones := p.claims.map Claim.zone
    let removed := removePeer n (s.reach p.expiry)
    let v := raiseNotice (.peerLost n p.cls) removed
    have done : exec (.peerLost n) s = .next (finish (reevaluateZones (fun z => zones.contains z) v)) := by
      show Host.Outcome.next (timedEvent (peerDue n .stale s) (peerLost n) s) = _
      unfold peerDue
      rw [found]
      dsimp only
      rw [if_pos stale, timedEvent_some held]
      unfold peerLost
      rw [show findPeer n (s.reach p.expiry) = some p from found]
    have window : v.window = s.window := raiseNotice_window _ _
    have notice := raiseNotice_inner (.peerLost n p.cls) removed
    have inner := notice.trans (reevaluateZones_inner (fun z => zones.contains z) v)
    obtain ⟨standing, conflicts, heldStay⟩ := reevaluated_kept (sel := fun z => zones.contains z) (v := v) window fits
    refine ⟨_, done, ⟨by rw [finish_now]; exact inner.now, by rw [finish_station]; exact inner.station,
      by rw [finish_route]; exact inner.route, by rw [finish_odo]; exact inner.odo,
      by rw [finish_auth]; exact (reevaluateZones_auth _ _).trans (raiseNotice_auth _ _), finish_radioKept inner.radio,
      inner.finish_portKept, standing, conflicts, heldStay⟩, ?_, fun room => ?_,
      fun e among waiting handed free =>
        reevaluated_returns (zones := zones) (v := v) window fits among waiting handed free⟩
    · rw [finish_table_flags, inner.table]
      rfl
    · exact finish_noticed ((reevaluateZones_inner _ v).notices.subset (raiseNotice_mem (s := removed) room))

end Sys2Proof.Machine
end

section
/-! The listing walk, step by step: what a step does to the entry of its zone and to the entries of other zones. -/

namespace Sys2Proof.Machine

-- One proof after another: many at a time want more threads than the memory limit of a build leaves.
set_option Elab.async false


theorem Moves.windowFits {F : List Flag} {s t : State} (m : Moves F s t) (fits : Machine.windowFits s.window) :
    Machine.windowFits t.window :=
  m.keeps (I := fun t => Machine.windowFits t.window) (fun _ _ _ _ move fits => move.windowFits fits) fits

/-! ### Finding entries under window order and additions -/

theorem findEntry_perm {s t : State} (differ : (windowZones s).Nodup) (perm : s.window.entries.Perm t.window.entries) (z : Nat) :
    findEntry z t = findEntry z s := by
  cases found : findEntry z s with
  | none =>
    rw [findEntry_none] at found ⊢
    exact fun e member => found e (perm.mem_iff.mpr member)
  | some e =>
    have again := findEntry_of_mem (s := t) ((perm.map ClaimEntry.zone).nodup_iff.mp differ) (perm.mem_iff.mp (findEntry_mem found))
    rw [findEntry_zone found] at again
    exact again

theorem windowZones_reorder (s : State) : (windowZones s).Perm (windowZones (reorder s)) :=
  ((reorder_perm s).map ClaimEntry.zone).symm

theorem findEntry_reorder {s : State} (differ : (windowZones s).Nodup) (z : Nat) : findEntry z (reorder s) = findEntry z s :=
  findEntry_perm differ (reorder_perm s).symm z

theorem findEntry_addEntry_ne {y : Nat} {e : ClaimEntry} {s : State} (differ : (windowZones s).Nodup)
    (absent : findEntry e.zone s = none) (other : y ≠ e.zone) : findEntry y (addEntry e s) = findEntry y s := by
  have apart : e.zone ∉ windowZones s := fun member => by
    obtain ⟨x, member', zone⟩ := List.mem_map.mp member
    exact findEntry_none.mp absent x member' zone
  have whole : (windowZones (setEntries (e :: s.window.entries) s)).Nodup := List.nodup_cons.mpr ⟨apart, differ⟩
  rw [findEntry_perm (s := setEntries (e :: s.window.entries) s) whole (addEntry_perm e s).symm]
  show (e :: s.window.entries).find? _ = _
  rw [List.find?_cons_of_neg (by simpa using fun eq => other eq.symm)]
  rfl

theorem findEntry_none_of_zones {s t : State} (zones : windowZones t = windowZones s) {z : Nat} (absent : findEntry z s = none) :
    findEntry z t = none := by
  rw [findEntry_none] at absent ⊢
  intro e member eq
  have here : z ∈ windowZones t := List.mem_map.mpr ⟨e, member, eq⟩
  rw [zones] at here
  obtain ⟨x, member', zone⟩ := List.mem_map.mp here
  exact absent x member' zone

theorem mem_windowZones {z : Nat} {s : State} : z ∈ windowZones s ↔ ∃ e, findEntry z s = some e := by
  constructor
  · intro member
    cases found : findEntry z s with
    | none =>
      obtain ⟨x, member', zone⟩ := List.mem_map.mp member
      exact absurd zone (findEntry_none.mp found x member')
    | some e => exact ⟨e, rfl⟩
  · rintro ⟨e, found⟩
    exact mem_windowZones_of_found found

/-! ### A run of grants (R36) -/

/-- What a run of grants may do to an entry, the blockers as in `s₀`: an entry not ANNOUNCED, or ANNOUNCED with no blocker
and its settle timer not expired, stays. -/
structure Passed (s₀ : State) (e e' : ClaimEntry) : Prop where
  zone : e'.zone = e.zone
  same : e.state ≠ .announced ∨ (isBlocked s₀ e = false ∧ e.settle ≠ .expired) → e' = e

theorem Passed.refl (s₀ : State) (e : ClaimEntry) : Passed s₀ e e := ⟨rfl, fun _ => rfl⟩

theorem Passed.trans {s₀ : State} {a b c : ClaimEntry} (h : Passed s₀ a b) (k : Passed s₀ b c) : Passed s₀ a c :=
  ⟨k.zone.trans h.zone, fun still => by
    have first := h.same still
    subst first
    exact k.same still⟩

/-- The entry of a zone has passed a part of an event in which entries of other zones change. -/
def PassedAt (s₀ : State) (y : Nat) (s t : State) : Prop :=
  (∀ e, findEntry y s = some e → ∃ e', findEntry y t = some e' ∧ Passed s₀ e e') ∧
    (findEntry y s = none → findEntry y t = none)

namespace PassedAt

theorem of_eq {s₀ : State} {y : Nat} {s t : State} (same : findEntry y t = findEntry y s) : PassedAt s₀ y s t :=
  ⟨fun e found => ⟨e, same.trans found, .refl s₀ e⟩, fun none => same.trans none⟩

theorem trans {s₀ : State} {y : Nat} {s t u : State} (h : PassedAt s₀ y s t) (k : PassedAt s₀ y t u) : PassedAt s₀ y s u := by
  refine ⟨fun e found => ?_, fun none => k.2 (h.2 none)⟩
  obtain ⟨e', found', first⟩ := h.1 e found
  obtain ⟨e'', found'', second⟩ := k.1 e' found'
  exact ⟨e'', found'', first.trans second⟩

/-- An entry that no run of grants touches stays. -/
theorem stays {s₀ : State} {y : Nat} {s t : State} (h : PassedAt s₀ y s t) {e : ClaimEntry} (found : findEntry y s = some e)
    (still : e.state ≠ .announced ∨ (isBlocked s₀ e = false ∧ e.settle ≠ .expired)) : findEntry y t = some e := by
  obtain ⟨e', found', passed⟩ := h.1 e found
  rw [passed.same still] at found'
  exact found'

end PassedAt

theorem reevaluate_passed {s₀ s : State} {z : Nat} {e : ClaimEntry} (inner : Inner s₀ s) (found : findEntry z s = some e)
    (announced : e.state = .announced) (y : Nat) : PassedAt s₀ y s (reevaluate z s).1 := by
  by_cases other : y = z
  case neg => exact .of_eq (reevaluate_findEntry_ne other s)
  subst other
  by_cases still : isBlocked s₀ e = false ∧ e.settle ≠ .expired
  · obtain ⟨free, running⟩ := still
    rw [reevaluate_stays found announced ((inner.isBlocked e).trans free) fun h => running h.1]
    exact .of_eq rfl
  · refine ⟨fun x found' => ?_, fun none => absurd (none.symm.trans found) nofun⟩
    obtain rfl := Option.some.inj (found.symm.trans found')
    obtain ⟨e', found'', judged⟩ := reevaluate_self found
    exact ⟨e', found'', judged.zone, fun h => absurd h (not_or.mpr ⟨fun h => h announced, still⟩)⟩

theorem grantPass_passed {s₀ : State} (y : Nat) : ∀ {zs : List Nat} {granted : Bool} {s : State} (_ : Inner s₀ s)
    (_ : (windowZones s).Nodup), PassedAt s₀ y s (reevaluatePass (fun _ => false) zs granted s)
  | [], _, _, _, _ => .of_eq rfl
  | z :: zs, granted, s, inner, differ => by
    unfold reevaluatePass
    split
    · rename_i chosen
      simp only [Bool.false_or, Bool.and_eq_true] at chosen
      obtain ⟨e, member, is⟩ := List.any_eq_true.mp chosen.2
      simp only [Bool.and_eq_true, beq_iff_eq, decide_eq_true_eq] at is
      have found := findEntry_of_mem differ member
      rw [is.1] at found
      exact (reevaluate_passed inner found is.2 y).trans
        (grantPass_passed y (inner.trans (reevaluate_inner z s)) (by rw [reevaluate_zones]; exact differ))
    · exact grantPass_passed y inner differ

theorem grantRun_passed {s₀ s : State} (inner : Inner s₀ s) (differ : (windowZones s).Nodup) (z y : Nat) :
    PassedAt s₀ y s (grantRun z s) := grantPass_passed y inner differ

theorem occupantTest_entries (z : Nat) (p : Peer) (s : State) : (occupantTest z p s).window.entries = s.window.entries := by
  unfold occupantTest
  split
  · rfl
  · split
    · dsimp only
      split
      · exact recordConflict_entries z p.station s
      · exact recordConflict_entries z p.station s
    · rfl

theorem occupantTests_entries (z : Nat) (s : State) : (occupantTests z s).window.entries = s.window.entries :=
  foldl_keeps (I := fun t => t.window.entries = s.window.entries) (fun t p same => (occupantTest_entries z p t).trans same) _ s rfl

theorem occupantTest_radio (z : Nat) (p : Peer) (s : State) : (occupantTest z p s).radio = s.radio := by
  unfold occupantTest
  split
  · rfl
  · split
    · dsimp only
      split
      · exact recordConflict_radio z p.station s
      · exact recordConflict_radio z p.station s
    · rfl

theorem occupantTests_radio (z : Nat) (s : State) : (occupantTests z s).radio = s.radio :=
  foldl_keeps (I := fun t => t.radio = s.radio) (fun t p same => (occupantTest_radio z p t).trans same) _ s rfl

theorem occupantHeld_passed {s₀ s : State} (inner : Inner s₀ s) (differ : (windowZones s).Nodup) (z y : Nat) :
    PassedAt s₀ y s (occupantHeld z s) := by
  have entries : (occupantTests z (urgentRequest s)).window.entries = s.window.entries := by
    rw [occupantTests_entries, urgentRequest_window]
  refine (PassedAt.of_eq (findEntry_congr entries)).trans (grantRun_passed ?_ ?_ z y)
  · exact inner.trans ((urgentRequest_inner s).trans (occupantTests_inner z _))
  · unfold windowZones
    rw [entries]
    exact differ

theorem occupantHeld_asked (z : Nat) (s : State) : Asked (occupantHeld z s) := by
  have asked : Asked (occupantTests z (urgentRequest s)) := by
    have inner := occupantTests_inner z (urgentRequest s)
    exact (asked_urgentRequest s).congr inner.now inner.station (occupantTests_radio z _)
  exact (grantRun_moves z _).asked (by decide) asked

/-! ### A step of the listing walk (R22, R39, R69) -/

/-- One zone of the walk, when it is not held back. -/
def listStep (z : Nat) (s : State) : State :=
  match findEntry z s with
  | some e => if e.state = .releasing && canRevive z e s then reviveEntry z s else s
  | none => if windowHasRoom s then listZone z s else s

theorem listStep_rest {z : Nat} {s : State} {e : ClaimEntry} (found : findEntry z s = some e)
    (rest : ¬(e.state = .releasing ∧ canRevive z e s = true)) : listStep z s = s := by
  unfold listStep
  rw [found]
  exact if_neg (by simpa using rest)

theorem listStep_revives {z : Nat} {s : State} {e : ClaimEntry} (found : findEntry z s = some e)
    (releasing : e.state = .releasing) (can : canRevive z e s = true) : listStep z s = reviveEntry z s := by
  unfold listStep
  rw [found]
  exact if_pos (by simp [releasing, can])

theorem listStep_lists {z : Nat} {s : State} (absent : findEntry z s = none) (room : windowHasRoom s = true) :
    listStep z s = listZone z s := by
  unfold listStep
  rw [absent]
  exact if_pos room

theorem listStep_full {z : Nat} {s : State} (absent : findEntry z s = none) (full : windowHasRoom s = false) :
    listStep z s = s := by
  unfold listStep
  rw [absent]
  exact if_neg (by rw [full]; exact Bool.false_ne_true)

theorem listStep_moves {z : Nat} {s : State} (needed : isNeeded z s.route.cells = true) (runs : listingRuns s = true) :
    Moves listingF s (listStep z s) := by
  cases found : findEntry z s with
  | none =>
    cases room : windowHasRoom s with
    | true =>
      rw [listStep_lists found room]
      exact listZone_moves found room needed runs
    | false =>
      rw [listStep_full found room]
      exact .refl
  | some e =>
    by_cases revives : e.state = .releasing ∧ canRevive z e s = true
    · rw [listStep_revives found revives.1 revives.2]
      exact (reviveEntry_moves found revives.1 revives.2 needed runs).mono (by decide)
    · rw [listStep_rest found revives]
      exact .refl

/-- The state in which the run of grants behind a revived entry begins. -/
def revivedBase (z : Nat) (s : State) : State :=
  commitTest z (urgentRequest (reorder (modifyEntry z (ClaimEntry.revive s.route.cells) s)))

theorem reviveEntry_eq (z : Nat) (s : State) : reviveEntry z s = grantRun z (revivedBase z s) := rfl

theorem revivedBase_inner (z : Nat) (s : State) : Inner s (revivedBase z s) :=
  (modifyEntry_inner z _ s).trans ((reorder_inner _).trans ((urgentRequest_inner _).trans (commitTest_inner z _)))

theorem revivedBase_zones (z : Nat) (s : State) : (windowZones s).Perm (windowZones (revivedBase z s)) := by
  have same : windowZones (revivedBase z s) = windowZones (reorder (modifyEntry z (ClaimEntry.revive s.route.cells) s)) := by
    unfold revivedBase
    rw [commitTest_zones]
    unfold windowZones
    rw [urgentRequest_window]
  rw [same, ← modifyEntry_zones (revive_zone s.route.cells) z s]
  exact windowZones_reorder _

theorem revivedBase_differ {z : Nat} {s : State} (differ : (windowZones s).Nodup) : (windowZones (revivedBase z s)).Nodup :=
  (revivedBase_zones z s).nodup_iff.mp differ

theorem findEntry_revivedReorder {z : Nat} {s : State} (differ : (windowZones s).Nodup) (y : Nat) :
    findEntry y (urgentRequest (reorder (modifyEntry z (ClaimEntry.revive s.route.cells) s))) =
      findEntry y (modifyEntry z (ClaimEntry.revive s.route.cells) s) := by
  rw [findEntry_urgent, findEntry_reorder (by rw [modifyEntry_zones (revive_zone _)]; exact differ)]

theorem reviveEntry_other {s₀ s : State} {y z : Nat} (inner : Inner s₀ s) (differ : (windowZones s).Nodup) (other : y ≠ z) :
    PassedAt s₀ y s (reviveEntry z s) := by
  have base : findEntry y (revivedBase z s) = findEntry y s := by
    unfold revivedBase
    rw [commitTest_findEntry_ne other, findEntry_revivedReorder differ, findEntry_modifyEntry_ne (revive_zone _) other]
  rw [reviveEntry_eq]
  exact (PassedAt.of_eq base).trans
    (grantRun_passed (inner.trans (revivedBase_inner z s)) (revivedBase_differ differ) z y)

/-- The entry that a revival leaves, with its commit test. -/
theorem reviveEntry_self {s : State} {z : Nat} {e : ClaimEntry} (differ : (windowZones s).Nodup) (carrier : s.isCarrier = true)
    (found : findEntry z s = some e) : findEntry z (reviveEntry z s) = some { e.updateNeeds s.route.cells with
      state := .held, committed := commitPasses s (e.updateNeeds s.route.cells) } := by
  have revived : findEntry z (urgentRequest (reorder (modifyEntry z (ClaimEntry.revive s.route.cells) s))) =
      some (e.revive s.route.cells) := by
    rw [findEntry_revivedReorder differ, findEntry_modifyEntry (revive_zone _), found]
    rfl
  have inner : Inner s (urgentRequest (reorder (modifyEntry z (ClaimEntry.revive s.route.cells) s))) :=
    (modifyEntry_inner z _ s).trans ((reorder_inner _).trans (urgentRequest_inner _))
  have base : findEntry z (revivedBase z s) = some { e.updateNeeds s.route.cells with
      state := .held, committed := commitPasses s (e.updateNeeds s.route.cells) } := by
    unfold revivedBase
    rw [commitTest_self revived, inner.isCarrier,
      inner.commitPasses (e := e.updateNeeds s.route.cells) (e' := e.revive s.route.cells) rfl]
    refine congrArg _ ?_
    cases passes : commitPasses s (e.updateNeeds s.route.cells) <;>
      simp [carrier, ClaimEntry.revive, ClaimEntry.commit]
  exact (grantRun_passed (revivedBase_inner z s) (revivedBase_differ differ) z z).stays base (.inl nofun)

theorem reviveEntry_asked (z : Nat) (s : State) : Asked (reviveEntry z s) :=
  (grantRun_moves z _).asked (by decide) ((commitTest_moves z _).asked (by decide) (asked_urgentRequest _))

section
variable {s₀ s : State} {y z : Nat}

/-- The new entry of a zone that is listed. -/
theorem findEntry_listed (absent : findEntry z s = none) :
    findEntry z (addEntry (entryFor z s.route.cells) s) = some (entryFor z s.route.cells) :=
  findEntry_addEntry_self (e := entryFor z s.route.cells) absent

theorem windowZones_listed (differ : (windowZones s).Nodup) (absent : findEntry z s = none) :
    (windowZones (addEntry (entryFor z s.route.cells) s)).Nodup := by
  have apart : z ∉ windowZones s := fun member => by
    obtain ⟨e, found⟩ := mem_windowZones.mp member
    exact nomatch absent.symm.trans found
  exact ((addEntry_perm (entryFor z s.route.cells) s).map ClaimEntry.zone).nodup_iff.mpr (List.nodup_cons.mpr ⟨apart, differ⟩)

theorem announce_other (other : y ≠ z) (t : State) : PassedAt s₀ y t (announce z t) :=
  .of_eq (announce_findEntry_ne other t)

/-- An occupant claim on a listed zone. -/
theorem occupantClaim_found {e : ClaimEntry} (found : findEntry z s = some e) (unheld : e.state ≠ .held) :
    occupantClaim z s = occupantHeld z (modifyEntry z ClaimEntry.occupy s) := by
  unfold occupantClaim
  rw [found]
  exact if_neg unheld

theorem listZone_other (inner : Inner s₀ s) (differ : (windowZones s).Nodup) (absent : findEntry z s = none) (other : y ≠ z) :
    PassedAt s₀ y s (listZone z s) := by
  have added : PassedAt s₀ y s (addEntry (entryFor z s.route.cells) s) :=
    .of_eq (findEntry_addEntry_ne (e := entryFor z s.route.cells) differ absent other)
  unfold listZone
  dsimp only
  split
  · exact added.trans (announce_other other _)
  · split
    · rw [occupantClaim_found (findEntry_listed absent) (by rw [entryFor_state]; decide)]
      refine added.trans ((PassedAt.of_eq (findEntry_modifyEntry_ne occupy_zone other _)).trans
        (occupantHeld_passed ?_ ?_ z y))
      · exact inner.trans ((addEntry_inner _ s).trans (modifyEntry_inner _ _ _))
      · rw [modifyEntry_zones occupy_zone]
        exact windowZones_listed differ absent
    · exact added
  all_goals exact added

theorem listStep_other (inner : Inner s₀ s) (differ : (windowZones s).Nodup) (other : y ≠ z) : PassedAt s₀ y s (listStep z s) := by
  cases found : findEntry z s with
  | none =>
    cases room : windowHasRoom s with
    | true =>
      rw [listStep_lists found room]
      exact listZone_other inner differ found other
    | false =>
      rw [listStep_full found room]
      exact .of_eq rfl
  | some e =>
    by_cases revives : e.state = .releasing ∧ canRevive z e s = true
    · rw [listStep_revives found revives.1 revives.2]
      exact reviveEntry_other inner differ other
    · rw [listStep_rest found revives]
      exact .of_eq rfl

/-- The entry that an announcement leaves in ACTIVE: ANNOUNCED with a fresh settle timer, WAITING where a blocker stands. -/
theorem announce_self {e : ClaimEntry} (found : findEntry z s = some e) :
    findEntry z (announce z s) = some (
      let fresh := e.announceFirst s.now (settleLength s)
      if isBlocked s fresh then fresh.block s.now (holdStands s z) else fresh) ∧ Asked (announce z s) := by
  let asked := urgentRequest (modifyEntry z (ClaimEntry.announceFirst s.now (settleLength s)) s)
  have inner : Inner s asked := (modifyEntry_inner z _ s).trans (urgentRequest_inner _)
  have fresh : findEntry z asked = some (e.announceFirst s.now (settleLength s)) := by
    rw [findEntry_urgent, findEntry_modifyEntry (announceFirst_zone _ _), found]
    rfl
  refine ⟨?_, (reevaluate_moves z asked).asked (by decide) (asked_urgentRequest _)⟩
  show findEntry z (reevaluate z asked).1 = _
  dsimp only
  cases blocked : isBlocked s (e.announceFirst s.now (settleLength s)) with
  | true =>
    rw [if_pos rfl, reevaluate_blocks fresh rfl ((inner.isBlocked _).trans blocked), findEntry_modifyEntry (block_zone _ _), fresh,
      inner.now, inner.holdStands]
    rfl
  | false =>
    rw [if_neg Bool.false_ne_true, reevaluate_stays fresh rfl ((inner.isBlocked _).trans blocked) fun h => nomatch h.1]
    exact fresh

theorem listZone_active (absent : findEntry z s = none) (active : s.station.state = .active) :
    findEntry z (listZone z s) = some (
      let fresh := (entryFor z s.route.cells).announceFirst s.now (settleLength s)
      if isBlocked s fresh then fresh.block s.now (holdStands s z) else fresh) ∧ Asked (listZone z s) := by
  have inner := addEntry_inner (entryFor z s.route.cells) s
  have listed := announce_self (findEntry_listed absent)
  unfold listZone
  rw [active]
  rw [inner.now, inner.settleLength, inner.holdStands] at listed
  simp only [inner.isBlocked] at listed
  exact listed

theorem listZone_occupied (differ : (windowZones s).Nodup) (absent : findEntry z s = none) (listening : s.station.state = .listen)
    (occupied : isOccupied s z = true) :
    findEntry z (listZone z s) = some { entryFor z s.route.cells with state := .held, committed := true } ∧
      Asked (listZone z s) := by
  have claim : listZone z s = occupantHeld z (modifyEntry z ClaimEntry.occupy (addEntry (entryFor z s.route.cells) s)) := by
    unfold listZone
    rw [listening]
    dsimp only
    rw [if_pos occupied, occupantClaim_found (findEntry_listed absent) (by rw [entryFor_state]; decide)]
  have inner := (addEntry_inner (entryFor z s.route.cells) s).trans (modifyEntry_inner z ClaimEntry.occupy _)
  have entry : findEntry z (modifyEntry z ClaimEntry.occupy (addEntry (entryFor z s.route.cells) s)) =
      some { entryFor z s.route.cells with state := .held, committed := true } := by
    rw [findEntry_modifyEntry occupy_zone, findEntry_listed absent]
    rfl
  rw [claim]
  refine ⟨(occupantHeld_passed inner ?_ z z).stays entry (.inl nofun), occupantHeld_asked z _⟩
  rw [modifyEntry_zones occupy_zone]
  exact windowZones_listed differ absent

theorem listZone_queued (absent : findEntry z s = none) (listening : s.station.state = .listen)
    (unoccupied : isOccupied s z = false) : findEntry z (listZone z s) = some (entryFor z s.route.cells) := by
  unfold listZone
  rw [listening]
  dsimp only
  rw [if_neg (by rw [unoccupied]; exact Bool.false_ne_true)]
  exact findEntry_listed absent

end

end Sys2Proof.Machine
end

section
/-! O38: the listing walk as a whole. -/

namespace Sys2Proof.Machine

-- One proof after another: many at a time want more threads than the memory limit of a build leaves.
set_option Elab.async false


/-! ### Work on the entries alone -/

/-- The entries change, and the beacon slot may be asked for; nothing else. -/
def EntryWork (s t : State) : Prop :=
  t = { s with
    window := { s.window with entries := t.window.entries }
    radio := { s.radio with gen := t.radio.gen, slot := t.radio.slot } }

namespace EntryWork

theorem refl (s : State) : EntryWork s s := rfl

theorem trans {s t u : State} (h : EntryWork s t) (k : EntryWork t u) : EntryWork s u := by
  unfold EntryWork at h k ⊢
  rw [h] at k
  exact k

theorem ite {s t u : State} {p : Prop} [Decidable p] (h : EntryWork s t) (k : EntryWork s u) :
    EntryWork s (if p then t else u) := by
  split
  · exact h
  · exact k

theorem of_entries (es : List ClaimEntry) (s : State) : EntryWork s (setEntries es s) := rfl

theorem modifies (z : Nat) (f : ClaimEntry → ClaimEntry) (s : State) : EntryWork s (modifyEntry z f s) := rfl

theorem requests (s : State) : EntryWork s (urgentRequest s) := by
  unfold urgentRequest
  exact .ite (.refl s) rfl

theorem commitTest (z : Nat) (s : State) : EntryWork s (Machine.commitTest z s) := by
  unfold Machine.commitTest
  split
  · exact .refl s
  · exact .ite ((modifies z _ s).trans (requests _)) (.refl s)

theorem reevaluate (z : Nat) (s : State) : EntryWork s (Machine.reevaluate z s).1 := by
  unfold Machine.reevaluate
  split
  · exact .refl s
  · split
    · split
      · exact modifies z _ s
      · split
        · exact (modifies z _ s).trans ((requests _).trans (commitTest z _))
        · exact .refl s
    · split
      · exact modifies z _ s
      · exact modifies z _ s
    all_goals exact .refl s

theorem pass (sel : Nat → Bool) : ∀ (zs : List Nat) (granted : Bool) (s : State), EntryWork s (reevaluatePass sel zs granted s)
  | [], _, s => .refl s
  | z :: zs, granted, s => by
    unfold reevaluatePass
    split
    · exact (reevaluate z s).trans (pass sel zs _ _)
    · exact pass sel zs granted s

theorem grantRun (z : Nat) (s : State) : EntryWork s (Machine.grantRun z s) := pass _ _ _ _

theorem announce (z : Nat) (s : State) : EntryWork s (Machine.announce z s) :=
  (modifies z _ s).trans ((requests _).trans (reevaluate z _))

theorem reorder (s : State) : EntryWork s (Machine.reorder s) := by
  unfold Machine.reorder
  exact .ite (of_entries _ s) (.refl s)

theorem reviveEntry (z : Nat) (s : State) : EntryWork s (Machine.reviveEntry z s) :=
  (modifies z _ s).trans ((reorder _).trans ((requests _).trans ((commitTest z _).trans (grantRun z _))))

theorem addEntry (e : ClaimEntry) (s : State) : EntryWork s (Machine.addEntry e s) := of_entries _ s

theorem listZone {s : State} (active : s.station.state = .active) (z : Nat) : EntryWork s (Machine.listZone z s) := by
  unfold Machine.listZone
  rw [active]
  exact (addEntry _ s).trans (announce z _)

theorem listStep {s : State} (active : s.station.state = .active) (z : Nat) : EntryWork s (Machine.listStep z s) := by
  unfold Machine.listStep
  split
  · exact .ite (reviveEntry z s) (.refl s)
  · exact .ite (listZone active z) (.refl s)

theorem station {s t : State} (h : EntryWork s t) : t.station = s.station := by rw [h]

theorem full {s t : State} (h : EntryWork s t) : t.window.full = s.window.full := by rw [h]

end EntryWork

/-! ### What a step does to the zones and to WINDOW_FULL -/

theorem occupantTest_full (z : Nat) (p : Peer) (s : State) : (occupantTest z p s).window.full = s.window.full := by
  have recorded : (recordConflict z p.station s).window.full = s.window.full := by
    unfold recordConflict
    dsimp only
    split
    · rw [raiseNotice_window]
    · rfl
  unfold occupantTest
  split
  · rfl
  · split
    · dsimp only
      split
      · exact recorded
      · exact recorded
    · rfl

theorem occupantHeld_full (z : Nat) (s : State) : (occupantHeld z s).window.full = s.window.full := by
  have tested : (occupantTests z (urgentRequest s)).window.full = (urgentRequest s).window.full :=
    foldl_keeps (I := fun t => t.window.full = (urgentRequest s).window.full)
      (fun t p same => (occupantTest_full z p t).trans same) _ _ rfl
  exact (EntryWork.grantRun z _).full.trans (tested.trans (EntryWork.requests s).full)

theorem occupantHeld_zones (z : Nat) (s : State) : windowZones (occupantHeld z s) = windowZones s := by
  unfold occupantHeld grantRun
  rw [reevaluatePass_zones]
  unfold windowZones
  rw [occupantTests_entries, urgentRequest_window]

theorem listZone_zones {z : Nat} {s : State} (absent : findEntry z s = none) :
    windowZones (listZone z s) = windowZones (addEntry (entryFor z s.route.cells) s) := by
  unfold listZone
  dsimp only
  split
  · exact announce_zones z _
  · split
    · rw [occupantClaim_found (findEntry_listed absent) (by rw [entryFor_state]; decide), occupantHeld_zones,
        modifyEntry_zones occupy_zone]
    · rfl
  all_goals rfl

theorem listZone_full {z : Nat} {s : State} (absent : findEntry z s = none) :
    (listZone z s).window.full = s.window.full := by
  unfold listZone
  dsimp only
  split
  · exact ((EntryWork.addEntry _ s).trans (EntryWork.announce z _)).full
  · split
    · rw [occupantClaim_found (findEntry_listed absent) (by rw [entryFor_state]; decide), occupantHeld_full]
      rfl
    · rfl
  all_goals rfl

theorem listStep_windowFull (z : Nat) (s : State) : (listStep z s).window.full = s.window.full := by
  cases found : findEntry z s with
  | none =>
    cases room : windowHasRoom s with
    | true =>
      rw [listStep_lists found room]
      exact listZone_full found
    | false => rw [listStep_full found room]
  | some e =>
    by_cases revives : e.state = .releasing ∧ canRevive z e s = true
    · rw [listStep_revives found revives.1 revives.2]
      exact (EntryWork.reviveEntry z s).full
    · rw [listStep_rest found revives]

theorem reviveEntry_zones (z : Nat) (s : State) : (windowZones s).Perm (windowZones (reviveEntry z s)) := by
  rw [reviveEntry_eq]
  unfold grantRun
  rw [reevaluatePass_zones]
  exact revivedBase_zones z s

theorem listStep_stillThere {y z : Nat} {s : State} (there : y ∈ windowZones s) : y ∈ windowZones (listStep z s) := by
  cases found : findEntry z s with
  | none =>
    cases room : windowHasRoom s with
    | true =>
      rw [listStep_lists found room, listZone_zones found]
      exact ((addEntry_perm (entryFor z s.route.cells) s).map ClaimEntry.zone).mem_iff.mpr (List.mem_cons_of_mem _ there)
    | false =>
      rw [listStep_full found room]
      exact there
  | some e =>
    by_cases revives : e.state = .releasing ∧ canRevive z e s = true
    · rw [listStep_revives found revives.1 revives.2]
      exact (reviveEntry_zones z s).mem_iff.mp there
    · rw [listStep_rest found revives]
      exact there

theorem listStep_there {z : Nat} {s : State} (room : findEntry z s = none → windowHasRoom s = true) :
    z ∈ windowZones (listStep z s) := by
  cases found : findEntry z s with
  | none =>
    rw [listStep_lists found (room found), listZone_zones found]
    exact ((addEntry_perm (entryFor z s.route.cells) s).map ClaimEntry.zone).mem_iff.mpr List.mem_cons_self
  | some e => exact listStep_stillThere (mem_windowZones_of_found found)

/-! ### The walk -/

/-- The walk over zones none of which is held back. -/
def walkOver (zs : List Nat) (s : State) : State := zs.foldl (fun s z => listStep z s) s

@[simp] theorem walkOver_nil (s : State) : walkOver [] s = s := rfl
@[simp] theorem walkOver_cons (z : Nat) (zs : List Nat) (s : State) : walkOver (z :: zs) s = walkOver zs (listStep z s) := rfl

theorem walkOver_append (before after : List Nat) (s : State) :
    walkOver (before ++ after) s = walkOver after (walkOver before s) := List.foldl_append

theorem walkOver_stillThere {y : Nat} {zs : List Nat} {s : State} (there : y ∈ windowZones s) : y ∈ windowZones (walkOver zs s) :=
  foldl_keeps (I := fun t => y ∈ windowZones t) (fun _ _ h => listStep_stillThere h) zs s there

theorem walkOver_full (zs : List Nat) (s : State) : (walkOver zs s).window.full = s.window.full :=
  foldl_keeps (I := fun t => t.window.full = s.window.full) (fun t z h => (listStep_windowFull z t).trans h) zs s rfl

theorem walkOver_entryWork {s : State} (active : s.station.state = .active) (zs : List Nat) : EntryWork s (walkOver zs s) :=
  foldl_keeps (I := EntryWork s) (fun _ z h => h.trans (.listStep (by rw [h.station]; exact active) z)) zs s (.refl s)

/-- How the walk ends: every zone stands in the window, or one is held back for want of room. -/
theorem listZones_walk : ∀ (zs : List Nat) (s : State), ∃ visited rest, zs = visited ++ rest ∧
    (∀ y ∈ visited, y ∈ windowZones (walkOver visited s)) ∧
    ((rest = [] ∧ listZones zs s = (walkOver visited s, false)) ∨
      ∃ z after, rest = z :: after ∧ findEntry z (walkOver visited s) = none ∧ windowHasRoom (walkOver visited s) = false ∧
        listZones zs s = (holdBack z (walkOver visited s), true))
  | [], s => ⟨[], [], rfl, nofun, .inl ⟨rfl, rfl⟩⟩
  | z :: zs, s => by
    by_cases back : findEntry z s = none ∧ windowHasRoom s = false
    · refine ⟨[], z :: zs, rfl, nofun, .inr ⟨z, zs, rfl, back.1, back.2, ?_⟩⟩
      unfold listZones
      rw [back.1]
      exact if_neg (by rw [back.2]; exact Bool.false_ne_true)
    · have goesOn : listZones (z :: zs) s = listZones zs (listStep z s) := by
        unfold listStep
        rw [listZones]
        cases found : findEntry z s with
        | some e => rfl
        | none =>
          have room : windowHasRoom s = true := Bool.of_not_eq_false fun h => back ⟨found, h⟩
          dsimp only
          rw [if_pos room, if_pos room]
      obtain ⟨visited, rest, split, there, ends⟩ := listZones_walk zs (listStep z s)
      refine ⟨z :: visited, rest, by rw [split]; rfl, fun y member => ?_, by rw [goesOn]; exact ends⟩
      obtain rfl | member := List.mem_cons.mp member
      · exact walkOver_stillThere (s := listStep y s) (listStep_there fun absent => Bool.of_not_eq_false fun h => back ⟨absent, h⟩)
      · exact there y member

section
variable {s : State} {zs : List Nat}

theorem walkOver_moves : ∀ {zs : List Nat} {s : State} (_ : ∀ z ∈ zs, isNeeded z s.route.cells = true)
    (_ : listingRuns s = true), Moves listingF s (walkOver zs s)
  | [], _, _, _ => .refl
  | z :: zs, s, needed, runs => by
    have first := listStep_moves (needed z List.mem_cons_self) runs
    have inner := first.inner (by decide)
    exact first.trans (walkOver_moves (fun y hy => by rw [inner.route]; exact needed y (List.mem_cons_of_mem z hy))
      (by rw [listingRuns_inner inner]; exact runs))

/-- The entries of zones that the walk does not visit. -/
theorem walkOver_other {s₀ : State} {y : Nat} : ∀ {zs : List Nat} {s : State} (_ : ∀ z ∈ zs, isNeeded z s.route.cells = true)
    (_ : listingRuns s = true) (_ : Inner s₀ s) (_ : windowFits s.window) (_ : y ∉ zs), PassedAt s₀ y s (walkOver zs s)
  | [], _, _, _, _, _, _ => .of_eq rfl
  | z :: zs, s, needed, runs, inner, fits, other => by
    have first := listStep_moves (needed z List.mem_cons_self) runs
    have step := first.inner (by decide)
    have here : PassedAt s₀ y s (listStep z s) := listStep_other inner fits.2.1 fun eq => other (by rw [eq]; exact List.mem_cons_self)
    exact here.trans (walkOver_other (fun y hy => by rw [step.route]; exact needed y (List.mem_cons_of_mem z hy))
      (by rw [listingRuns_inner step]; exact runs) (inner.trans step) (first.windowFits fits)
      fun h => other (List.mem_cons_of_mem z h))

/-- Zones in the window that are not RELEASING leave a walk over them alone. -/
theorem walkOver_idle : ∀ {zs : List Nat} {s : State} (_ : ∀ y ∈ zs, ∃ e, findEntry y s = some e ∧ e.state ≠ .releasing),
    walkOver zs s = s
  | [], _, _ => rfl
  | z :: zs, s, there => by
    obtain ⟨e, found, still⟩ := there z List.mem_cons_self
    rw [walkOver_cons, listStep_rest found fun h => still h.1]
    exact walkOver_idle fun y member => there y (List.mem_cons_of_mem z member)

end

/-! ### First occurrences -/

theorem firstOccurrences_nodup : ∀ zs : List Nat, (firstOccurrences zs).Nodup
  | [] => List.nodup_nil
  | x :: xs => by
    refine List.nodup_cons.mpr ⟨fun member => ?_, (firstOccurrences_nodup xs).filter _⟩
    exact absurd (List.mem_filter.mp member).2 (by simp)

theorem firstOccurrences_split {z : Nat} {after : List Nat} : ∀ {before : List Nat} (_ : z ∉ before),
    ∃ rest, firstOccurrences (before ++ z :: after) = firstOccurrences before ++ z :: rest
  | [], _ => ⟨_, rfl⟩
  | x :: xs, apart => by
    obtain ⟨rest, eq⟩ := firstOccurrences_split (before := xs) (after := after) fun h => apart (List.mem_cons_of_mem x h)
    refine ⟨rest.filter (fun y => y != x), ?_⟩
    have differ : (z != x) = true := by simpa using fun h => apart (by rw [h]; exact List.mem_cons_self)
    rw [List.cons_append, firstOccurrences, eq, List.filter_append, List.filter_cons_of_pos (p := fun y => y != x) differ]
    rfl

theorem find?_firstOccurrences (p : Nat → Bool) : ∀ zs : List Nat, (firstOccurrences zs).find? p = zs.find? p
  | [] => rfl
  | x :: xs => by
    rw [firstOccurrences]
    cases is : p x with
    | true => rw [List.find?_cons_of_pos is, List.find?_cons_of_pos is]
    | false =>
      have no : ¬p x = true := by rw [is]; exact Bool.false_ne_true
      rw [List.find?_cons_of_neg no, List.find?_cons_of_neg no, List.find?_filter, ← find?_firstOccurrences p xs]
      refine congrArg (fun q => List.find? q (firstOccurrences xs)) (funext fun y => ?_)
      by_cases eq : y = x
      · subst eq
        simp [is]
      · simp [eq]

end Sys2Proof.Machine
end

section
/-! O38, assembled: where the walk is when it takes a zone, and what it leaves. -/

namespace Sys2Proof.Machine

-- One proof after another: many at a time want more threads than the memory limit of a build leaves.
set_option Elab.async false


/-! ### Holding back and clearing -/

theorem holdBack_windowFull (z : Nat) (s : State) : (holdBack z s).window.full = true := by
  unfold holdBack
  split
  · assumption
  · rw [raiseNotice_window]

theorem holdBack_entries (z : Nat) (s : State) : (holdBack z s).window.entries = s.window.entries := by
  unfold holdBack
  split
  · rfl
  · rw [raiseNotice_window]

theorem holdBack_again {z : Nat} {s : State} (full : s.window.full = true) : holdBack z s = s := by
  unfold holdBack
  exact if_pos full

theorem holdBack_first {z : Nat} {s : State} (full : s.window.full = false) :
    holdBack z s = raiseNotice (.windowFull z) (setFull s) := by
  unfold holdBack
  exact if_neg (by rw [full]; exact Bool.false_ne_true)

theorem raiseNotice_stands (n : Notice) (s : State) : n ∈ (raiseNotice n s).port.notices ∨
    (16 ≤ (raiseNotice n s).port.notices.length ∧ (raiseNotice n s).port.dropped = true) := by
  unfold raiseNotice
  split
  · exact .inl (List.mem_append_right _ List.mem_cons_self)
  · rename_i none
    exact .inr ⟨Nat.le_of_not_lt none, rfl⟩

theorem raiseNotice_dropped {n : Notice} {s : State} (room : s.port.notices.length < 16) :
    (raiseNotice n s).port.dropped = s.port.dropped := by
  unfold raiseNotice
  rw [if_pos (show s.port.notices.length < maxNotices from room)]

/-! ### The test and its walk -/

/-- The walk of a listing test: the zones visited, and how it ends. -/
structure Walked (s : State) (visited rest : List Nat) (u : State) : Prop where
  runs : listingRuns s = true
  reach : zonesInReach s = visited ++ rest
  there : ∀ y ∈ visited, y ∈ windowZones (walkOver visited s)
  ends : (rest = [] ∧ u = clearFull (walkOver visited s)) ∨
    ∃ z after, rest = z :: after ∧ findEntry z (walkOver visited s) = none ∧ windowHasRoom (walkOver visited s) = false ∧
      u = holdBack z (walkOver visited s)

theorem listingTest_walked {s : State} (runs : listingRuns s = true) : ∃ visited rest, Walked s visited rest (listingTest s) := by
  obtain ⟨visited, rest, split, there, ends⟩ := listZones_walk (zonesInReach s) s
  refine ⟨visited, rest, runs, split, there, ?_⟩
  unfold listingTest
  rw [if_pos runs]
  obtain ⟨none, eq⟩ | ⟨z, after, more, absent, full, eq⟩ := ends
  · exact .inl ⟨none, by rw [eq]; rfl⟩
  · exact .inr ⟨z, after, more, absent, full, by rw [eq]; rfl⟩

theorem listingTest_still {s : State} (still : listingRuns s = false) : listingTest s = s := by
  unfold listingTest
  exact if_neg (by rw [still]; exact Bool.false_ne_true)

theorem listingRuns_iff {s : State} :
    listingRuns s = true ↔ s.isCarrier = true ∧ (s.station.state = .listen ∨ s.station.state = .active) := by
  unfold listingRuns
  cases s.station.state <;> simp

/-- The zones of the cells in reach, as the cells name them. -/
def cellsInReach (s : State) : List Nat :=
  (s.route.cells.takeWhile (fun c => decide (c.entry ≤ s.s + (lead s : Int)))).flatMap (fun c => c.cell.zones)

theorem zonesInReach_eq (s : State) : zonesInReach s = firstOccurrences (cellsInReach s) := rfl

theorem zonesInReach_nodup (s : State) : (zonesInReach s).Nodup := firstOccurrences_nodup _

namespace Walked

variable {s u : State} {visited rest : List Nat}

theorem entries (w : Walked s visited rest u) : u.window.entries = (walkOver visited s).window.entries := by
  obtain ⟨-, eq⟩ | ⟨z, -, -, -, -, eq⟩ := w.ends
  · rw [eq]
    rfl
  · rw [eq, holdBack_entries]

theorem zones (w : Walked s visited rest u) : windowZones u = windowZones (walkOver visited s) := by
  unfold windowZones
  rw [w.entries]

theorem found (w : Walked s visited rest u) (z : Nat) : findEntry z u = findEntry z (walkOver visited s) :=
  findEntry_congr w.entries

theorem nodup (w : Walked s visited rest u) : (visited ++ rest).Nodup := by
  rw [← w.reach]
  exact zonesInReach_nodup s

theorem visited_nodup (w : Walked s visited rest u) : visited.Nodup := (List.nodup_append.mp w.nodup).1

theorem needed (w : Walked s visited rest u) : ∀ z ∈ visited, isNeeded z s.route.cells = true := fun z member =>
  zonesInReach_needed (by rw [w.reach]; exact List.mem_append_left _ member)

theorem moves (w : Walked s visited rest u) : Moves listingF s (walkOver visited s) := walkOver_moves w.needed w.runs

theorem mem_reach (w : Walked s visited rest u) {z : Nat} : z ∈ cellsInReach s ↔ z ∈ visited ++ rest := by
  rw [← w.reach, zonesInReach_eq, mem_firstOccurrences]

theorem asks (w : Walked s visited rest u) (asked : Asked (walkOver visited s)) :
    u.radio.slot ≠ none ∨ ∃ l, s.radio.limiter = some l ∧ s.now < l + s.period * 250 := by
  have inner := w.moves.inner (by decide)
  have radio : u.radio = (walkOver visited s).radio := by
    obtain ⟨-, eq⟩ | ⟨z, -, -, -, -, eq⟩ := w.ends
    · rw [eq]
      rfl
    · rw [eq]
      unfold holdBack
      split
      · rfl
      · rw [raiseNotice_radio]
  have limiter : (walkOver visited s).radio.limiter = s.radio.limiter := by rw [inner.radio]
  have running : (walkOver visited s).running = true := by
    unfold State.running
    rw [inner.station]
    obtain ⟨-, listen | active⟩ := listingRuns_iff.mp w.runs
    · rw [listen]
    · rw [active]
  obtain stops | slot | closed := asked
  · rw [running] at stops
    exact nomatch stops
  · left
    rw [radio]
    intro none
    rw [none] at slot
    exact nomatch slot
  · right
    unfold limiterClosed State.period at closed
    rw [limiter, inner.now, inner.station] at closed
    cases eq : s.radio.limiter with
    | none => rw [eq] at closed; exact nomatch closed
    | some l =>
      rw [eq] at closed
      exact ⟨l, rfl, of_decide_eq_true closed⟩

/-- Where the walk is when it takes a zone that it visits. -/
theorem takes (w : Walked s visited rest u) (fits : windowFits s.window) {z : Nat} {before after : List Nat}
    (split : visited = before ++ z :: after) :
    Inner s (walkOver before s) ∧ windowFits (walkOver before s).window ∧ PassedAt s z s (walkOver before s) ∧
      PassedAt s z (listStep z (walkOver before s)) (walkOver visited s) ∧
      (Asked (listStep z (walkOver before s)) → Asked (walkOver visited s)) := by
  have needed := w.needed
  rw [split] at needed
  have differ := w.visited_nodup
  rw [split] at differ
  obtain ⟨-, later, apart⟩ := List.nodup_append.mp differ
  have beforeNeeded : ∀ y ∈ before, isNeeded y s.route.cells = true := fun y h => needed y (List.mem_append_left _ h)
  have first : Moves listingF s (walkOver before s) := walkOver_moves beforeNeeded w.runs
  have inner := first.inner (by decide)
  have step : Moves listingF (walkOver before s) (listStep z (walkOver before s)) :=
    listStep_moves (by rw [inner.route]; exact needed z (List.mem_append_right _ List.mem_cons_self))
      (by rw [listingRuns_inner inner]; exact w.runs)
  have inner' := inner.trans (step.inner (by decide))
  have afterNeeded : ∀ y ∈ after, isNeeded y (listStep z (walkOver before s)).route.cells = true := fun y h => by
    rw [inner'.route]
    exact needed y (List.mem_append_right _ (List.mem_cons_of_mem z h))
  have runs' : listingRuns (listStep z (walkOver before s)) = true := by
    rw [listingRuns_inner inner']
    exact w.runs
  have end_eq : walkOver visited s = walkOver after (listStep z (walkOver before s)) := by
    rw [split, walkOver_append, walkOver_cons]
  refine ⟨inner, first.windowFits fits, ?_, ?_, fun asked => ?_⟩
  · exact walkOver_other beforeNeeded w.runs (.refl s) fits fun h => apart z h z List.mem_cons_self rfl
  · rw [end_eq]
    exact walkOver_other afterNeeded runs' inner' ((first.trans step).windowFits fits) (List.nodup_cons.mp later).1
  · rw [end_eq]
    exact (walkOver_moves afterNeeded runs').asked (by decide) asked

theorem passes (w : Walked s visited rest u) (fits : windowFits s.window) {z : Nat} (unvisited : z ∉ visited) :
    PassedAt s z s (walkOver visited s) := walkOver_other w.needed w.runs (.refl s) fits unvisited

/-- An entry that its own step leaves as it is, and no run of grants touches, stays. -/
theorem keeps (w : Walked s visited rest u) (fits : windowFits s.window) {e : ClaimEntry} (found : findEntry e.zone s = some e)
    (still : e.state ≠ .announced)
    (rests : ∀ before after, visited = before ++ e.zone :: after → ¬(e.state = .releasing ∧ canRevive e.zone e (walkOver before s) = true)) :
    findEntry e.zone (walkOver visited s) = some e := by
  by_cases member : e.zone ∈ visited
  · obtain ⟨before, after, split⟩ := List.append_of_mem member
    obtain ⟨-, -, first, last, -⟩ := w.takes fits split
    have here := first.stays found (.inl still)
    have step := last.stays (e := e)
    rw [listStep_rest here (rests before after split)] at step
    exact step here (.inl still)
  · exact (w.passes fits member).stays found (.inl still)

/-- A zone that the walk lists. -/
theorem lists (w : Walked s visited rest u) (fits : windowFits s.window) {z : Nat}
    (absent : findEntry z s = none) (listed : z ∈ windowZones u) :
    ∃ m, Inner s m ∧ windowFits m.window ∧ findEntry z m = none ∧ PassedAt s z (listZone z m) (walkOver visited s) ∧
      (Asked (listZone z m) → Asked (walkOver visited s)) := by
  rw [w.zones] at listed
  obtain ⟨e, present⟩ := mem_windowZones.mp listed
  by_cases member : z ∈ visited
  · obtain ⟨before, after, split⟩ := List.append_of_mem member
    obtain ⟨inner, fits', first, last, asks⟩ := w.takes fits split
    have unlisted := first.2 absent
    cases room : windowHasRoom (walkOver before s) with
    | true =>
      rw [listStep_lists unlisted room] at last asks
      exact ⟨_, inner, fits', unlisted, last, asks⟩
    | false =>
      rw [listStep_full unlisted room] at last
      exact nomatch (last.2 unlisted).symm.trans present
  · exact nomatch ((w.passes fits member).2 absent).symm.trans present

/-- The walk before a zone, where it lists and revives nothing. -/
theorem quietly (w : Walked s visited rest u) {z : Nat} {before after first second : List Nat}
    (cells : cellsInReach s = before ++ z :: after) (apart : z ∉ before)
    (there : ∀ y ∈ before, ∃ e, findEntry y s = some e ∧ e.state ≠ .releasing) (split : visited = first ++ z :: second) :
    walkOver first s = s := by
  obtain ⟨tail, names⟩ := firstOccurrences_split (after := after) apart
  rw [← cells, ← zonesInReach_eq, w.reach, split, List.append_assoc, List.cons_append] at names
  have differ := w.nodup
  rw [split, List.append_assoc, List.cons_append] at differ
  obtain ⟨-, later, distinct⟩ := List.nodup_append.mp differ
  have same : first = firstOccurrences before :=
    before_unique (fun member => distinct z member z List.mem_cons_self rfl) (List.nodup_cons.mp later).1 names
  rw [same]
  exact walkOver_idle fun y member => there y (mem_firstOccurrences.mp member)

/-- The walk reaches a zone behind zones that all stand in the window. -/
theorem reaches (w : Walked s visited rest u) {z : Nat} {before after : List Nat}
    (cells : cellsInReach s = before ++ z :: after) (apart : z ∉ before) (there : ∀ y ∈ before, y ∈ windowZones s)
    (here : z ∈ windowZones s) : z ∈ visited := by
  refine Classical.byContradiction fun unvisited => ?_
  have inReach : z ∈ visited ++ rest := w.mem_reach.mp (by rw [cells]; exact List.mem_append_right _ List.mem_cons_self)
  obtain ⟨none, -⟩ | ⟨x, later, more, absent, -⟩ := w.ends
  · rw [none, List.append_nil] at inReach
    exact unvisited inReach
  · have gone : x ∉ windowZones s := fun member => by
      obtain ⟨e, present⟩ := mem_windowZones.mp (walkOver_stillThere (zs := visited) member)
      exact nomatch absent.symm.trans present
    obtain ⟨tail, names⟩ := firstOccurrences_split (after := after) apart
    rw [← cells, ← zonesInReach_eq, w.reach, more] at names
    obtain ⟨between, isFirst, isLater⟩ | ⟨between, isFirst, isLater⟩ := List.append_eq_append_iff.mp names
    · cases between with
      | nil =>
        obtain ⟨rfl, -⟩ := List.cons.inj isLater
        exact gone here
      | cons y ys =>
        obtain ⟨rfl, -⟩ := List.cons.inj isLater
        refine gone (there x (mem_firstOccurrences.mp ?_))
        rw [isFirst]
        exact List.mem_append_right _ List.mem_cons_self
    · cases between with
      | nil =>
        obtain ⟨rfl, -⟩ := List.cons.inj isLater
        exact gone here
      | cons y ys =>
        obtain ⟨rfl, -⟩ := List.cons.inj isLater
        refine unvisited ?_
        rw [isFirst]
        exact List.mem_append_right _ List.mem_cons_self

end Walked

end Sys2Proof.Machine
end

section
/-! O38: the statement, part by part. -/

namespace Sys2Proof.Machine

-- One proof after another: many at a time want more threads than the memory limit of a build leaves.
set_option Elab.async false

theorem Inner.isOccupied {s t : State} (inner : Inner s t) (z : Nat) : Machine.isOccupied t z = Machine.isOccupied s z := by
  unfold Machine.isOccupied occupiedCells State.front State.s
  rw [inner.route, inner.odo]

namespace Walked

variable {s u : State} {visited rest : List Nat}

theorem mem_of_found (w : Walked s visited rest u) {z : Nat} {e : ClaimEntry} (found : findEntry z (walkOver visited s) = some e) :
    e ∈ u.window.entries := by
  rw [w.entries]
  exact findEntry_mem found

/-! ### Listed zones -/

theorem listed_active (w : Walked s visited rest u) (fits : windowFits s.window) (active : s.station.state = .active) {z : Nat}
    (absent : findEntry z s = none) (listed : z ∈ windowZones u) :
    let fresh := (entryFor z s.route.cells).announceFirst s.now (settleLength s)
    (isBlocked s fresh = false → fresh ∈ u.window.entries) ∧
      (isBlocked s fresh = true → fresh.block s.now (holdStands s z) ∈ u.window.entries) ∧
      (u.radio.slot ≠ none ∨ ∃ l, s.radio.limiter = some l ∧ s.now < l + s.period * 250) := by
  dsimp only
  obtain ⟨m, inner, -, unlisted, after, asks⟩ := w.lists fits absent listed
  obtain ⟨entry, asked⟩ := listZone_active unlisted (by rw [inner.station]; exact active)
  rw [inner.now, inner.route, inner.settleLength, inner.holdStands] at entry
  simp only [inner.isBlocked] at entry
  refine ⟨fun free => ?_, fun blocked => ?_, w.asks (asks asked)⟩
  · simp only [free, Bool.false_eq_true, if_false] at entry
    exact w.mem_of_found (after.stays entry (.inr ⟨free, nofun⟩))
  · simp only [blocked, if_true] at entry
    exact w.mem_of_found (after.stays entry (.inl nofun))

theorem listed_occupied (w : Walked s visited rest u) (fits : windowFits s.window) (listening : s.station.state = .listen) {z : Nat}
    (absent : findEntry z s = none) (listed : z ∈ windowZones u) (occupied : isOccupied s z = true) :
    { entryFor z s.route.cells with state := .held, committed := true } ∈ u.window.entries ∧
      (u.radio.slot ≠ none ∨ ∃ l, s.radio.limiter = some l ∧ s.now < l + s.period * 250) := by
  obtain ⟨m, inner, fits', unlisted, after, asks⟩ := w.lists fits absent listed
  obtain ⟨entry, asked⟩ := listZone_occupied fits'.2.1 unlisted (by rw [inner.station]; exact listening)
    (by rw [inner.isOccupied]; exact occupied)
  rw [inner.route] at entry
  exact ⟨w.mem_of_found (after.stays entry (.inl nofun)), w.asks (asks asked)⟩

theorem listed_queued (w : Walked s visited rest u) (fits : windowFits s.window) (listening : s.station.state = .listen) {z : Nat}
    (absent : findEntry z s = none) (listed : z ∈ windowZones u) (unoccupied : isOccupied s z = false) :
    entryFor z s.route.cells ∈ u.window.entries := by
  obtain ⟨m, inner, -, unlisted, after, -⟩ := w.lists fits absent listed
  have entry := listZone_queued unlisted (by rw [inner.station]; exact listening)
    (by rw [inner.isOccupied]; exact unoccupied)
  rw [inner.route] at entry
  exact w.mem_of_found (after.stays entry (.inl nofun))

/-! ### Revival -/

theorem canRevive_iff {z : Nat} {e : ClaimEntry} {s : State} : canRevive z e s = true ↔
    (e.released = 0 ∧ (∀ p ∈ s.table.peers, ∀ c ∈ p.claims, c.zone ≠ z) ∧ s.table.overflow = none) ∧ allEarlierHeld z s = true := by
  unfold canRevive claimStands
  simp only [Bool.and_eq_true, beq_iff_eq, Bool.not_eq_true', Option.isNone_iff_eq_none, List.any_eq_false, List.any_eq_true,
    not_exists, not_and]
  exact ⟨fun ⟨⟨⟨released, claims⟩, earlier⟩, overflow⟩ => ⟨⟨released, claims, overflow⟩, earlier⟩,
    fun ⟨⟨released, claims, overflow⟩, earlier⟩ => ⟨⟨⟨released, claims⟩, earlier⟩, overflow⟩⟩

theorem earlier_of_split {s : State} {e f : ClaimEntry} {earlier later : List ClaimEntry} (fits : windowFits s.window)
    (split : s.window.entries = earlier ++ e :: later) (member : f ∈ earlier) (unheld : f.state ≠ .held) :
    allEarlierHeld e.zone s = false := by
  have differ := fits.2.1
  rw [split, List.map_append] at differ
  have apart := (List.nodup_append.mp differ).2.2
  unfold allEarlierHeld
  rw [split, List.takeWhile_append_of_pos fun g hg => by
    simpa using apart g.zone (List.mem_map_of_mem hg) e.zone List.mem_cons_self]
  refine List.all_eq_false.mpr ⟨f, List.mem_append_left _ member, by simpa using unheld⟩

theorem releasing_stays (w : Walked s visited rest u) (fits : windowFits s.window) {e : ClaimEntry} (member : e ∈ s.window.entries)
    (releasing : e.state = .releasing)
    (stays : ¬(e.released = 0 ∧ (∀ p ∈ s.table.peers, ∀ c ∈ p.claims, c.zone ≠ e.zone) ∧ s.table.overflow = none) ∨
      e.zone ∉ cellsInReach s) : e ∈ u.window.entries := by
  refine w.mem_of_found (w.keeps fits (findEntry_of_mem fits.2.1 member) (by rw [releasing]; decide) fun before after split back => ?_)
  obtain not | away := stays
  · have can := (canRevive_iff.mp back.2).1
    rw [(w.takes fits split).1.table] at can
    exact not can
  · exact away (w.mem_reach.mpr (by rw [split]; simp))

/-- The zones named before one that is RELEASING stand in the window, and none of them is RELEASING. -/
theorem before_idle {before : List Nat} (there : ∀ y ∈ before, y ∈ windowZones s)
    (still : ∀ f ∈ s.window.entries, f.zone ∈ before → f.state ≠ .releasing) :
    ∀ y ∈ before, ∃ e, findEntry y s = some e ∧ e.state ≠ .releasing := fun y member => by
  obtain ⟨e, found⟩ := mem_windowZones.mp (there y member)
  exact ⟨e, found, still e (findEntry_mem found) (by rw [findEntry_zone found]; exact member)⟩

theorem releasing_behind (w : Walked s visited rest u) (fits : windowFits s.window) {e f : ClaimEntry} (releasing : e.state = .releasing)
    {earlier later : List ClaimEntry} (split : s.window.entries = earlier ++ e :: later) (member : f ∈ earlier)
    (unheld : f.state ≠ .held) {before after : List Nat} (cells : cellsInReach s = before ++ e.zone :: after)
    (there : ∀ y ∈ before, y ∈ windowZones s) (still : ∀ f ∈ s.window.entries, f.zone ∈ before → f.state ≠ .releasing) :
    e ∈ u.window.entries := by
  have here : e ∈ s.window.entries := by rw [split]; simp
  refine w.mem_of_found (w.keeps fits (findEntry_of_mem fits.2.1 here) (by rw [releasing]; decide) fun first second cut back => ?_)
  rw [w.quietly cells (fun h => still e here h releasing) (before_idle there still) cut] at back
  exact absurd (canRevive_iff.mp back.2).2 (by rw [earlier_of_split fits split member unheld]; exact Bool.false_ne_true)

theorem releasing_returns (w : Walked s visited rest u) (fits : windowFits s.window) {e : ClaimEntry} (here : e ∈ s.window.entries)
    (releasing : e.state = .releasing)
    (comes : e.released = 0 ∧ (∀ p ∈ s.table.peers, ∀ c ∈ p.claims, c.zone ≠ e.zone) ∧ s.table.overflow = none)
    (earlier : allEarlierHeld e.zone s = true) {before after : List Nat} (cells : cellsInReach s = before ++ e.zone :: after)
    (there : ∀ y ∈ before, y ∈ windowZones s) (still : ∀ f ∈ s.window.entries, f.zone ∈ before → f.state ≠ .releasing) :
    { e.updateNeeds s.route.cells with state := .held, committed := commitPasses s (e.updateNeeds s.route.cells) } ∈
        u.window.entries ∧
      (u.radio.slot ≠ none ∨ ∃ l, s.radio.limiter = some l ∧ s.now < l + s.period * 250) := by
  have found := findEntry_of_mem fits.2.1 here
  have apart : e.zone ∉ before := fun h => still e here h releasing
  obtain ⟨first, second, cut⟩ := List.append_of_mem (w.reaches cells apart there (mem_windowZones_of_found found))
  obtain ⟨-, -, -, last, asks⟩ := w.takes fits cut
  rw [w.quietly cells apart (before_idle there still) cut,
    listStep_revives found releasing (canRevive_iff.mpr ⟨comes, earlier⟩)] at last asks
  have entry := reviveEntry_self fits.2.1 (listingRuns_carrier w.runs) found
  exact ⟨w.mem_of_found (last.stays entry (.inl nofun)), w.asks (asks (reviveEntry_asked _ s))⟩

/-! ### WINDOW_FULL and the frame -/

theorem full_iff (w : Walked s visited rest u) : u.window.full = true ↔ ∃ z ∈ cellsInReach s, z ∉ windowZones u := by
  rw [w.zones]
  obtain ⟨none, eq⟩ | ⟨z, after, more, absent, -, eq⟩ := w.ends
  · refine ⟨fun full => ?_, fun ⟨z, reach, away⟩ => ?_⟩
    · rw [eq] at full
      exact nomatch full
    · refine absurd (w.there z ?_) away
      simpa [none] using w.mem_reach.mp reach
  · refine ⟨fun _ => ⟨z, w.mem_reach.mpr (by simp [more]), fun there => ?_⟩, fun _ => by rw [eq, holdBack_windowFull]⟩
    obtain ⟨e, present⟩ := mem_windowZones.mp there
    exact nomatch absent.symm.trans present

theorem crowded (w : Walked s visited rest u) {z : Nat} (reach : z ∈ cellsInReach s) :
    z ∈ windowZones u ∨ (8 ≤ u.window.entries.length ∧ u.window.full = true) := by
  by_cases there : z ∈ windowZones u
  · exact .inl there
  · have full := w.full_iff.mpr ⟨z, reach, there⟩
    refine .inr ⟨?_, full⟩
    obtain ⟨-, eq⟩ | ⟨-, -, -, -, crowded, -⟩ := w.ends
    · rw [eq] at full
      exact nomatch full
    · rw [w.entries]
      exact Nat.le_of_not_lt (of_decide_eq_false crowded)

theorem noticed (w : Walked s visited rest u) (before : s.window.full = false) {z : Nat}
    (first : (cellsInReach s).find? (fun z => decide (z ∉ windowZones u)) = some z) :
    .windowFull z ∈ u.port.notices ∨ (16 ≤ u.port.notices.length ∧ u.port.dropped = true) := by
  rw [← find?_firstOccurrences, ← zonesInReach_eq, w.reach, List.find?_append, w.zones] at first
  rw [List.find?_eq_none.mpr fun y member => by simpa using w.there y member, Option.none_or] at first
  obtain ⟨none, -⟩ | ⟨x, after, more, absent, -, eq⟩ := w.ends
  · rw [none] at first
    exact nomatch first
  · have away : x ∉ windowZones (walkOver visited s) := fun there => by
      obtain ⟨e, present⟩ := mem_windowZones.mp there
      exact nomatch absent.symm.trans present
    rw [more, List.find?_cons_of_pos (by simpa using away)] at first
    obtain rfl := Option.some.inj first
    rw [eq, holdBack_first (by rw [walkOver_full]; exact before)]
    exact raiseNotice_stands _ _

/-- In ACTIVE the test changes the entries, the condition, the beacon slot and the notices. -/
theorem frame (w : Walked s visited rest u) (active : s.station.state = .active) : u = { s with
    window := { s.window with entries := u.window.entries, full := u.window.full }
    radio := { s.radio with gen := u.radio.gen, slot := u.radio.slot }
    port := { s.port with notices := u.port.notices, dropped := u.port.dropped } } := by
  have work := walkOver_entryWork active visited
  unfold EntryWork at work
  obtain ⟨-, eq⟩ | ⟨z, -, -, -, -, eq⟩ := w.ends
  · rw [eq, work]
    rfl
  · rw [eq, work]
    unfold holdBack raiseNotice
    split
    · rfl
    · split
      · rfl
      · rfl

theorem port_same (w : Walked s visited rest u) (active : s.station.state = .active)
    (quiet : s.window.full = true ∨ u.window.full = false) : u.port = s.port := by
  have port : (walkOver visited s).port = s.port := by rw [walkOver_entryWork active visited]
  obtain ⟨-, eq⟩ | ⟨z, -, -, -, -, eq⟩ := w.ends
  · rw [eq]
    exact port
  · obtain full | clear := quiet
    · rw [eq, holdBack_again (by rw [walkOver_full]; exact full), port]
    · rw [eq, holdBack_windowFull] at clear
      exact nomatch clear

theorem dropped_same (w : Walked s visited rest u) (active : s.station.state = .active) (room : s.port.notices.length < 16) :
    u.port.dropped = s.port.dropped := by
  have port : (walkOver visited s).port = s.port := by rw [walkOver_entryWork active visited]
  obtain ⟨-, eq⟩ | ⟨z, -, -, -, -, eq⟩ := w.ends
  · rw [eq]
    exact congrArg Port.dropped port
  · rw [eq]
    unfold holdBack
    split
    · rw [port]
    · rw [raiseNotice_dropped (by show (walkOver visited s).port.notices.length < 16; rw [port]; exact room)]
      exact congrArg Port.dropped port

theorem absent_of {z : Nat} (away : z ∉ windowZones s) : findEntry z s = none := by
  cases found : findEntry z s with
  | none => rfl
  | some e => exact absurd (mem_windowZones_of_found found) away

end Walked

end Sys2Proof.Machine

namespace Sys2Proof.Proofs

-- One proof after another: many at a time want more threads than the memory limit of a build leaves.
set_option Elab.async false

open Sys2Proof.Machine

/-- Settles O38, over a walk of steps that leave the entries of other zones to the runs of grants. -/
theorem listingTest : Obligations.ListingTest := by
  unfold Obligations.ListingTest
  intro s fits
  refine ⟨fun off => listingTest_still (Bool.of_not_eq_true fun runs => off (listingRuns_iff.mp runs)), fun listing => ?_⟩
  obtain ⟨visited, rest, w⟩ := listingTest_walked (listingRuns_iff.mpr listing)
  refine ⟨fun z reach => w.crowded reach, w.full_iff, fun before z first => w.noticed before first,
    fun active => ⟨w.frame active, w.port_same active, w.dropped_same active⟩, fun z reach away listed => ?_,
    fun e member releasing => ⟨w.releasing_stays fits member releasing, ?_, ?_⟩, fun e member rests still => ?_⟩
  · have absent := Walked.absent_of away
    exact ⟨fun active => w.listed_active fits active absent listed,
      fun listening => w.listed_occupied fits listening absent listed,
      fun listening => w.listed_queued fits listening absent listed⟩
  · intro before after earlier later split ⟨f, front, unheld⟩ cells there still
    exact w.releasing_behind fits releasing split front unheld cells there still
  · intro before after comes earlier cells there still
    exact w.releasing_returns fits member releasing comes earlier cells there still
  · exact w.mem_of_found (w.keeps fits (findEntry_of_mem fits.2.1 member) still fun _ _ _ back => rests back.1)

end Sys2Proof.Proofs
end

section
/-! The authority tick (R107): what its parts do to the authority block, the marks and the OVERRUN claims. -/

namespace Sys2Proof.Machine

-- One proof after another: many at a time want more threads than the memory limit of a build leaves.
set_option Elab.async false


/-! ### Horizon and ceiling as functions of what they read -/

theorem hZone_heldCongr {s t : State} (route : t.route = s.route) (held : ∀ z, isHeld t z = isHeld s z) : hZone t = hZone s := by
  have same : cellHeld t = cellHeld s := funext fun c => by
    unfold cellHeld
    rw [show isHeld t = isHeld s from funext held]
  unfold hZone
  rw [route, same]

theorem hStop_congr {s t : State} (route : t.route = s.route) (odo : t.odo = s.odo) : hStop t = hStop s := by
  unfold hStop State.front State.s
  rw [route, odo]

theorem grantedHorizon_congr {s t : State} (route : t.route = s.route) (odo : t.odo = s.odo)
    (held : ∀ z, isHeld t z = isHeld s z) : grantedHorizon t = grantedHorizon s := by
  unfold grantedHorizon
  rw [hStop_congr route odo, hZone_heldCongr route held]

theorem rawCeiling_congr {s t : State} (route : t.route = s.route) (odo : t.odo = s.odo) (profile : t.profile = s.profile)
    (held : ∀ z, isHeld t z = isHeld s z) (horizon : t.auth.horizon = s.auth.horizon) : rawCeiling t = rawCeiling s := by
  unfold rawCeiling zoneCandidate stopCandidate lookAheadCandidate lookAheadCells effectiveMargin reactionDistance frontCell
    State.front State.s
  rw [hStop_congr route odo, hZone_heldCongr route held, route, odo, profile, horizon]

theorem EntryWork.auth {s t : State} (h : EntryWork s t) : t.auth = s.auth := by rw [h]
theorem EntryWork.route {s t : State} (h : EntryWork s t) : t.route = s.route := by rw [h]
theorem EntryWork.odo {s t : State} (h : EntryWork s t) : t.odo = s.odo := by rw [h]
theorem EntryWork.port {s t : State} (h : EntryWork s t) : t.port = s.port := by rw [h]
theorem EntryWork.table {s t : State} (h : EntryWork s t) : t.table = s.table := by rw [h]
theorem EntryWork.now {s t : State} (h : EntryWork s t) : t.now = s.now := by rw [h]

/-! ### The commit tests of a tick (R67) -/

theorem commit_self {e : ClaimEntry} (committed : e.committed = true) : e.commit = e := by
  unfold ClaimEntry.commit
  rw [← committed]

theorem commitTest_isHeld (y z : Nat) (s : State) : isHeld (commitTest y s) z = isHeld s z := by
  have modified : isHeld (modifyEntry y ClaimEntry.commit s) z = isHeld s z :=
    isHeld_map_same (f := fun e => if e.zone == y then e.commit else e)
      (fun e => by dsimp only; split <;> rfl) (fun e => by split <;> rfl) rfl z
  unfold commitTest
  split
  · rfl
  · split
    · exact (isHeld_congr (by rw [urgentRequest_window]) z).trans modified
    · rfl

theorem commitAll_isHeld (z : Nat) (s : State) : isHeld (commitAll s) z = isHeld s z :=
  foldl_keeps (I := fun t => isHeld t z = isHeld s z) (fun t y same => (commitTest_isHeld y z t).trans same) _ s rfl

theorem commitAll_entryWork (s : State) : EntryWork s (commitAll s) :=
  foldl_keeps (I := EntryWork s) (fun t y work => work.trans (.commitTest y t)) _ s (.refl s)

theorem commitTests_other {z : Nat} : ∀ {zs : List Nat} {s : State} (_ : z ∉ zs),
    findEntry z (zs.foldl (fun s y => commitTest y s) s) = findEntry z s
  | [], _, _ => rfl
  | y :: ys, s, apart => by
    rw [List.foldl_cons, commitTests_other fun h => apart (List.mem_cons_of_mem y h),
      commitTest_findEntry_ne fun eq => apart (by rw [eq]; exact List.mem_cons_self)]

theorem commitAll_self {s : State} {z : Nat} {e : ClaimEntry} (differ : (windowZones s).Nodup) (found : findEntry z s = some e) :
    findEntry z (commitAll s) =
      some (if s.isCarrier = true ∧ e.state = .held ∧ commitPasses s e = true then e.commit else e) := by
  obtain ⟨before, after, split⟩ := List.append_of_mem (mem_windowZones_of_found found)
  rw [split] at differ
  obtain ⟨-, later, apart⟩ := List.nodup_append.mp differ
  have first := commitTests_other (s := s) fun h : z ∈ before => apart z h z List.mem_cons_self rfl
  have inner : Inner s (before.foldl (fun s y => commitTest y s) s) :=
    foldl_keeps (I := Inner s) (fun t y inner => inner.trans (commitTest_inner y t)) _ s (.refl s)
  unfold commitAll
  rw [split, List.foldl_append, List.foldl_cons, commitTests_other (List.nodup_cons.mp later).1,
    commitTest_self (first.trans found), inner.isCarrier, inner.commitPasses rfl]

/-- After the commit tests of a tick every HELD entry that passes is committed. -/
theorem commitAll_commits {s : State} (carrier : s.isCarrier = true) (fits : windowFits s.window) {e : ClaimEntry}
    (member : e ∈ (commitAll s).window.entries) (held : e.state = .held) (passes : commitPasses s e = true) :
    e.committed = true := by
  have found := findEntry_of_mem ((commitAll_moves s).windowFits fits).2.1 member
  obtain ⟨x, before⟩ : ∃ x, findEntry e.zone s = some x := by
    cases before : findEntry e.zone s with
    | some x => exact ⟨x, rfl⟩
    | none =>
      have zones : windowZones (commitAll s) = windowZones s :=
        foldl_keeps (I := fun t => windowZones t = windowZones s) (fun t y same => (commitTest_zones y t).trans same) _ s rfl
      exact nomatch (findEntry_none_of_zones zones before).symm.trans found
  rw [commitAll_self fits.2.1 before] at found
  obtain rfl := Option.some.inj found
  split at held
  · rename_i passed
    rw [if_pos passed]
    rfl
  · rename_i failed
    rw [if_neg failed] at passes
    exact absurd ⟨carrier, held, passes⟩ failed

/-! ### What listing work does to the authority block -/

/-- Of the authority block, only the horizon and the CONFLICT cause change, and CONFLICT does not go. -/
structure AuthRest (s t : State) : Prop where
  rest : t.auth = { s.auth with horizon := t.auth.horizon, causes := t.auth.causes }
  causes : t.auth.causes = { s.auth.causes with conflict := t.auth.causes.conflict }
  conflict : s.auth.causes.conflict = true → t.auth.causes.conflict = true

namespace AuthRest

theorem of_auth {s t : State} (same : t.auth = s.auth) : AuthRest s t :=
  ⟨by rw [same], by rw [same], fun h => by rw [same]; exact h⟩

theorem trans {s t u : State} (h : AuthRest s t) (k : AuthRest t u) : AuthRest s u :=
  ⟨by rw [k.rest, h.rest], by rw [k.causes, h.causes], fun c => k.conflict (h.conflict c)⟩

theorem any {s t : State} (h : AuthRest s t) (any : s.auth.causes.any = true) : t.auth.causes.any = true := by
  have eq := h.causes
  unfold StopCauses.any at any ⊢
  rw [eq]
  simp only [Bool.or_eq_true] at any ⊢
  obtain ((boot | fault) | conflict) | overrun := any
  · exact .inl (.inl (.inl boot))
  · exact .inl (.inl (.inr fault))
  · exact .inl (.inr (h.conflict conflict))
  · exact .inr overrun

end AuthRest

theorem recordConflict_authRest (z n : Nat) (s : State) : AuthRest s (recordConflict z n s) := by
  refine ⟨?_, ?_, fun _ => recordConflict_cause z n s⟩
  · unfold recordConflict
    dsimp only
    split
    · rw [raiseNotice_auth]
    · rfl
  · unfold recordConflict
    dsimp only
    split
    · rw [raiseNotice_auth]
    · rfl

theorem Move.authRest {f : Flag} {s t : State} (m : Move f s t) (kind : f = .free ∨ f ∈ listingF) : AuthRest s t := by
  cases m with
  | notice n => exact .of_auth (raiseNotice_auth n s)
  | urgent => exact .of_auth (urgentRequest_auth s)
  | lower => exact ⟨rfl, rfl, id⟩
  | conflict z n => exact recordConflict_authRest z n s
  | reorder =>
    unfold Machine.reorder
    split <;> exact .of_auth rfl
  | _ =>
    first
      | exact absurd kind (by decide)
      | exact .of_auth rfl

theorem Moves.authRest {F : List Flag} (kind : ∀ f ∈ F, f ∈ listingF) {s t : State} (m : Moves F s t) : AuthRest s t :=
  m.keeps (I := AuthRest s)
    (fun f _ _ member move before => before.trans (move.authRest (member.imp_right (kind f)))) (.of_auth rfl)

/-! ### An occupant claim and the claims after it (R68 to R70) -/

/-- The zone is HELD and committed, or the window is full and says so. -/
def Claimed (z : Nat) (s : State) : Prop :=
  (∃ e, findEntry z s = some e ∧ e.state = .held ∧ e.committed = true) ∨
    (8 ≤ s.window.entries.length ∧ s.window.full = true)

theorem occupantHeld_length (z : Nat) (s : State) : (occupantHeld z s).window.entries.length = s.window.entries.length := by
  have zones := congrArg List.length (occupantHeld_zones z s)
  unfold windowZones at zones
  rwa [List.length_map, List.length_map] at zones

theorem modifyEntry_length (z : Nat) (f : ClaimEntry → ClaimEntry) (s : State) :
    (modifyEntry z f s).window.entries.length = s.window.entries.length := by
  unfold modifyEntry updateEntry
  rw [List.length_map]

section
variable {s : State} {y z : Nat}

theorem occupantHeld_stays {e : ClaimEntry} (differ : (windowZones s).Nodup) (found : findEntry y s = some e)
    (held : e.state = .held) : findEntry y (occupantHeld z s) = some e :=
  (occupantHeld_passed (.refl s) differ z y).stays found (.inl (by rw [held]; decide))

theorem occupantClaim_new (absent : findEntry z s = none) (room : windowHasRoom s = true) :
    occupantClaim z s = occupantHeld z (addEntry (entryFor z s.route.cells).occupy s) := by
  unfold occupantClaim
  rw [absent]
  exact if_pos room

theorem occupantClaim_full (absent : findEntry z s = none) (full : windowHasRoom s = false) :
    occupantClaim z s = holdBack z s := by
  unfold occupantClaim
  rw [absent]
  exact if_neg (by rw [full]; exact Bool.false_ne_true)

theorem occupantClaim_held {e : ClaimEntry} (found : findEntry z s = some e) (held : e.state = .held) :
    occupantClaim z s = modifyEntry z ClaimEntry.commit s := by
  unfold occupantClaim
  rw [found]
  exact if_pos held

theorem windowZones_added {e : ClaimEntry} (differ : (windowZones s).Nodup) (absent : findEntry e.zone s = none) :
    (windowZones (addEntry e s)).Nodup := by
  have apart : e.zone ∉ windowZones s := fun member => by
    obtain ⟨x, found⟩ := mem_windowZones.mp member
    exact nomatch absent.symm.trans found
  exact ((addEntry_perm e s).map ClaimEntry.zone).nodup_iff.mpr (List.nodup_cons.mpr ⟨apart, differ⟩)

theorem occupantClaim_self (differ : (windowZones s).Nodup) : Claimed z (occupantClaim z s) := by
  cases found : findEntry z s with
  | none =>
    have absent : findEntry (entryFor z s.route.cells).occupy.zone s = none := by
      rw [occupy_entryFor_zone]
      exact found
    cases room : windowHasRoom s with
    | true =>
      rw [occupantClaim_new found room]
      have new := findEntry_addEntry_self absent
      rw [occupy_entryFor_zone] at new
      exact .inl ⟨_, occupantHeld_stays (windowZones_added differ absent) new (occupy_state _), occupy_state _, occupy_committed _⟩
    | false =>
      rw [occupantClaim_full found room]
      refine .inr ⟨?_, holdBack_windowFull z s⟩
      rw [holdBack_entries]
      exact Nat.le_of_not_lt (of_decide_eq_false room)
  | some e =>
    by_cases held : e.state = .held
    · rw [occupantClaim_held found held]
      refine .inl ⟨e.commit, ?_, held, rfl⟩
      rw [findEntry_modifyEntry commit_zone, found]
      rfl
    · rw [occupantClaim_found found held]
      refine .inl ⟨e.occupy, occupantHeld_stays ?_ ?_ (occupy_state e), occupy_state e, occupy_committed e⟩
      · rw [modifyEntry_zones occupy_zone]
        exact differ
      · rw [findEntry_modifyEntry occupy_zone, found]
        rfl

theorem occupantClaim_other {e : ClaimEntry} (differ : (windowZones s).Nodup) (found : findEntry y s = some e)
    (held : e.state = .held) (committed : e.committed = true) : findEntry y (occupantClaim z s) = some e := by
  cases other : findEntry z s with
  | none =>
    have absent : findEntry (entryFor z s.route.cells).occupy.zone s = none := by
      rw [occupy_entryFor_zone]
      exact other
    have apart : y ≠ z := fun eq => by
      subst eq
      exact nomatch other.symm.trans found
    cases room : windowHasRoom s with
    | true =>
      rw [occupantClaim_new other room]
      refine occupantHeld_stays (windowZones_added differ absent) ?_ held
      rw [findEntry_addEntry_ne differ absent (by rw [occupy_entryFor_zone]; exact apart)]
      exact found
    | false =>
      rw [occupantClaim_full other room, findEntry_congr (holdBack_entries z s)]
      exact found
  | some x =>
    have modified {f : ClaimEntry → ClaimEntry} (zone : KeepsZone f) (same : y = z → f e = e) :
        findEntry y (modifyEntry z f s) = some e := by
      by_cases eq : y = z
      · subst eq
        rw [findEntry_modifyEntry zone, found, Option.map_some, same rfl]
      · rw [findEntry_modifyEntry_ne zone eq]
        exact found
    by_cases isHeld : x.state = .held
    · rw [occupantClaim_held other isHeld]
      exact modified commit_zone fun _ => commit_self committed
    · rw [occupantClaim_found other isHeld]
      refine occupantHeld_stays ?_ (modified occupy_zone fun eq => ?_) held
      · rw [modifyEntry_zones occupy_zone]
        exact differ
      · subst eq
        exact absurd (Option.some.inj (found.symm.trans other) ▸ held) isHeld

theorem occupantClaim_crowded (crowded : 8 ≤ s.window.entries.length ∧ s.window.full = true) :
    8 ≤ (occupantClaim z s).window.entries.length ∧ (occupantClaim z s).window.full = true := by
  obtain ⟨eight, full⟩ := crowded
  cases found : findEntry z s with
  | none =>
    rw [occupantClaim_full found (decide_eq_false (Nat.not_lt.mpr eight)), holdBack_again full]
    exact ⟨eight, full⟩
  | some e =>
    by_cases held : e.state = .held
    · rw [occupantClaim_held found held, modifyEntry_length]
      exact ⟨eight, full⟩
    · rw [occupantClaim_found found held, occupantHeld_length, occupantHeld_full, modifyEntry_length]
      exact ⟨eight, full⟩

theorem Claimed.past (differ : (windowZones s).Nodup) (claimed : Claimed y s) : Claimed y (occupantClaim z s) := by
  obtain ⟨e, found, held, committed⟩ | crowded := claimed
  · exact .inl ⟨e, occupantClaim_other differ found held committed, held, committed⟩
  · exact .inr (occupantClaim_crowded crowded)

end

theorem Claimed.congr {z : Nat} {s t : State} (window : t.window = s.window) (claimed : Claimed z s) : Claimed z t := by
  unfold Claimed findEntry at claimed ⊢
  rw [window]
  exact claimed

theorem Claimed.commitAll {z : Nat} {s : State} (differ : (windowZones s).Nodup) (claimed : Claimed z s) :
    Claimed z (Machine.commitAll s) := by
  have work := commitAll_entryWork s
  have zones : windowZones (Machine.commitAll s) = windowZones s :=
    foldl_keeps (I := fun t => windowZones t = windowZones s) (fun t y same => (commitTest_zones y t).trans same) _ s rfl
  obtain ⟨e, found, held, committed⟩ | ⟨eight, full⟩ := claimed
  · refine .inl ⟨e, ?_, held, committed⟩
    rw [commitAll_self differ found, commit_self committed, ite_self]
  · have length := congrArg List.length zones
    unfold windowZones at length
    rw [List.length_map, List.length_map] at length
    exact .inr ⟨by rw [length]; exact eight, by rw [work.full]; exact full⟩

/-- Claims of needed zones, one after another, leave each of them claimed. -/
theorem occupantClaims_claimed : ∀ {zs : List Nat} {s : State} (_ : stopped s) (_ : ∀ z ∈ zs, isNeeded z s.route.cells = true)
    (_ : s.isCarrier = true) (_ : windowFits s.window), ∀ y, y ∈ zs ∨ Claimed y s →
      Claimed y (zs.foldl (fun s z => occupantClaim z s) s)
  | [], _, _, _, _, _, _, h => h.resolve_left nofun
  | z :: zs, s, stop, needed, carrier, fits, y, h => by
    have first := occupantClaim_moves stop (needed z List.mem_cons_self) carrier
    have inner := first.inner (by decide)
    refine occupantClaims_claimed (occupantClaim_stopped stop)
      (fun x hx => by rw [inner.route]; exact needed x (List.mem_cons_of_mem z hx))
      (by rw [inner.isCarrier]; exact carrier) (first.windowFits fits) y ?_
    obtain member | claimed := h
    · obtain rfl | member := List.mem_cons.mp member
      · exact .inr (occupantClaim_self fits.2.1)
      · exact .inl member
    · exact .inr (claimed.past fits.2.1)

end Sys2Proof.Machine
end

section
/-! O43: the authority tick, from the pending index to the commit tests. -/

namespace Sys2Proof.Machine

-- One proof after another: many at a time want more threads than the memory limit of a build leaves.
set_option Elab.async false


/-! ### The pending index (R103) -/

/-- The pending index has become the active one. -/
def indexTaken (s : State) : State :=
  { s with auth := { s.auth with active := s.auth.pendingIx.getD s.auth.active, pendingIx := none } }

theorem indexTaken_none {s : State} (none : s.auth.pendingIx = .none) : indexTaken s = s := by
  unfold indexTaken
  rw [none, Option.getD_none, ← none]

theorem indexTaken_some {s : State} {ix : LoadIndex} (pending : s.auth.pendingIx = some ix) : indexTaken s = setIndex ix s := by
  unfold indexTaken setIndex
  rw [pending, Option.getD_some]

theorem takePending_cases (s : State) :
    takePending s = indexTaken s ∨ (s.auth.pendingIx ≠ none ∧ takePending s = listingTest (indexTaken s)) := by
  rw [takePending_eq]
  cases pending : s.auth.pendingIx with
  | none => exact .inl (indexTaken_none pending).symm
  | some ix =>
    rw [indexTaken_some pending]
    dsimp only
    split
    · exact .inl rfl
    · exact .inr ⟨nofun, rfl⟩

theorem takePending_listing (s : State) : Moves listingF (indexTaken s) (takePending s) := by
  obtain eq | ⟨-, eq⟩ := takePending_cases s
  · rw [eq]
    exact .refl
  · rw [eq]
    exact listingTest_moves _

theorem takePending_inner (s : State) : Inner (indexTaken s) (takePending s) := (takePending_listing s).inner (by decide)

/-! ### A listing test in ACTIVE -/

/-- The entries, WINDOW_FULL, the beacon slot and the notices change, and nothing else. -/
def ListWork (s t : State) : Prop :=
  t = { s with
    window := { s.window with entries := t.window.entries, full := t.window.full }
    radio := { s.radio with gen := t.radio.gen, slot := t.radio.slot }
    port := { s.port with notices := t.port.notices, dropped := t.port.dropped } }

theorem ListWork.refl (s : State) : ListWork s s := rfl

theorem EntryWork.listWork {s t : State} (work : EntryWork s t) : ListWork s t := by
  unfold EntryWork at work
  unfold ListWork
  rw [work]

theorem ListWork.trans {s t u : State} (h : ListWork s t) (k : ListWork t u) : ListWork s u := by
  unfold ListWork at h k ⊢
  rw [h] at k
  exact k

theorem ListWork.auth {s t : State} (h : ListWork s t) : t.auth = s.auth := by rw [h]
theorem ListWork.station {s t : State} (h : ListWork s t) : t.station = s.station := by rw [h]
theorem ListWork.route {s t : State} (h : ListWork s t) : t.route = s.route := by rw [h]
theorem ListWork.odo {s t : State} (h : ListWork s t) : t.odo = s.odo := by rw [h]

theorem listingTest_listWork {s : State} (active : s.station.state = .active) : ListWork s (listingTest s) := by
  cases runs : listingRuns s with
  | true =>
    obtain ⟨visited, rest, w⟩ := listingTest_walked runs
    exact w.frame active
  | false =>
    rw [listingTest_still runs]
    exact .refl s

/-- A listing test in ACTIVE gives at most one notice. -/
theorem listingTest_oneNotice {s : State} (active : s.station.state = .active) :
    (listingTest s).port.notices.length ≤ s.port.notices.length + 1 := by
  cases runs : listingRuns s with
  | true =>
    obtain ⟨visited, rest, w⟩ := listingTest_walked runs
    have port := (walkOver_entryWork active visited).port
    obtain ⟨-, eq⟩ | ⟨z, -, -, -, -, eq⟩ := w.ends
    · rw [eq]
      show (walkOver visited s).port.notices.length ≤ _
      rw [port]
      exact Nat.le_succ _
    · rw [eq]
      unfold holdBack raiseNotice
      split
      · rw [port]
        exact Nat.le_succ _
      · split
        · show ((walkOver visited s).port.notices ++ [_]).length ≤ _
          rw [port, List.length_append]
          exact Nat.le_refl _
        · show (walkOver visited s).port.notices.length ≤ _
          rw [port]
          exact Nat.le_succ _
  | false =>
    rw [listingTest_still runs]
    exact Nat.le_succ _

theorem takePending_listWork {s : State} (active : s.station.state = .active) : ListWork (indexTaken s) (takePending s) := by
  obtain eq | ⟨-, eq⟩ := takePending_cases s
  · rw [eq]
    exact .refl _
  · rw [eq]
    exact listingTest_listWork (s := indexTaken s) active

theorem takePending_notices {s : State} (active : s.station.state = .active)
    (room : s.port.notices.length < 15 ∨ s.auth.pendingIx = none) (few : s.port.notices.length < 16) :
    (takePending s).port.notices.length < 16 := by
  obtain eq | ⟨pending, eq⟩ := takePending_cases s
  · rw [eq]
    exact few
  · rw [eq]
    exact Nat.lt_of_le_of_lt (listingTest_oneNotice (s := indexTaken s) active)
      (Nat.succ_lt_succ (room.resolve_right fun none => pending none))

/-! ### Words on the line (R124) -/

/-- The word on the line and the one behind it. -/
def State.words (s : State) : Option WordOut × Option Nat := (s.auth.wordOut, s.auth.pendingWord)

theorem sendWord_free {v : Nat} {s : State} (carrier : s.isCarrier = true) (free : s.auth.wordOut = none) :
    (sendWord v s).words = (some (wordOnLine v (s.now + 80)), s.auth.pendingWord) := by
  unfold sendWord State.words
  rw [if_pos carrier, free]
  rfl

theorem sendWord_behind {v : Nat} {s : State} {out : WordOut} (carrier : s.isCarrier = true) (busy : s.auth.wordOut = some out) :
    (sendWord v s).words = (some out, some v) := by
  unfold sendWord State.words
  rw [if_pos carrier, busy]
  exact Prod.ext busy rfl

theorem sendWord_fixed {v : Nat} {s : State} (fixed : s.isCarrier = false) : sendWord v s = s := by
  unfold sendWord
  exact if_neg (by rw [fixed]; exact Bool.false_ne_true)

theorem sendWord_words_congr {v : Nat} {s t : State} (carrier : t.isCarrier = s.isCarrier) (now : t.now = s.now)
    (words : t.words = s.words) : (sendWord v t).words = (sendWord v s).words := by
  obtain ⟨out, behind⟩ := Prod.mk.inj words
  cases is : s.isCarrier with
  | false => rw [sendWord_fixed (carrier.trans is), sendWord_fixed is, words]
  | true =>
    cases line : s.auth.wordOut with
    | none => rw [sendWord_free (carrier.trans is) (out.trans line), sendWord_free is line, now, behind]
    | some x => rw [sendWord_behind (carrier.trans is) (out.trans line), sendWord_behind is line]

/-- A word sent counts from any state with the same line. -/
theorem wordSent_of {v : Nat} {r s t : State} (carrier : s.isCarrier = true) (words : s.words = r.words)
    (sent : t.words = (sendWord v s).words) (now : t.now = s.now) : wordSent r t v := by
  obtain ⟨out, behind⟩ := Prod.mk.inj words
  refine ⟨fun free => ?_, fun busy => ?_⟩
  · rw [sendWord_free carrier (out.trans free)] at sent
    rw [now]
    exact congrArg Prod.fst sent
  · obtain ⟨x, eq⟩ := Option.isSome_iff_exists.mp busy
    rw [sendWord_behind carrier (out.trans eq)] at sent
    exact ⟨(congrArg Prod.fst sent).trans eq.symm, congrArg Prod.snd sent⟩

/-- A word sent twice in one event counts as sent once. -/
theorem wordSent_again {v : Nat} {r s m t : State} (carrier : s.isCarrier = true) (words : s.words = r.words)
    (first : m.words = (sendWord v s).words) (still : m.isCarrier = true) (sent : t.words = (sendWord v m).words)
    (now : t.now = s.now) : wordSent r t v := by
  obtain ⟨out, behind⟩ := Prod.mk.inj words
  refine ⟨fun free => ?_, fun busy => ?_⟩
  · rw [sendWord_free carrier (out.trans free)] at first
    rw [sendWord_behind still (congrArg Prod.fst first)] at sent
    rw [now]
    exact congrArg Prod.fst sent
  · obtain ⟨x, eq⟩ := Option.isSome_iff_exists.mp busy
    rw [sendWord_behind carrier (out.trans eq)] at first
    rw [sendWord_behind still (congrArg Prod.fst first)] at sent
    exact ⟨(congrArg Prod.fst sent).trans eq.symm, congrArg Prod.snd sent⟩

theorem AuthRest.words {s t : State} (h : AuthRest s t) : t.words = s.words := by
  unfold State.words
  rw [h.rest]

/-! ### Raising OVERRUN (R120) -/

theorem overrunCause_overrun (s : State) : (overrunCause s).auth.overrun = true := by
  unfold overrunCause
  split
  · rfl
  · unfold dropCeiling
    split
    · rw [sendWord_overrun]
      rfl
    · rfl

/-- The word 0 goes out when the first STOP cause finds the ceiling above 0 (R122). -/
theorem overrunCause_words (s : State) :
    (overrunCause s).words = s.words ∨ (overrunCause s).words = (sendWord 0 s).words := by
  unfold overrunCause
  split
  · exact .inl rfl
  · unfold dropCeiling
    split
    · exact .inr (sendWord_words_congr rfl rfl rfl)
    · exact .inl rfl

theorem overrunCause_port (s : State) : (overrunCause s).port = s.port := by
  unfold overrunCause dropCeiling sendWord
  split
  · rfl
  · split
    · split
      · split <;> rfl
      · rfl
    · rfl

section
variable {s : State}

theorem overrunTaken_authRest (carrier : s.isCarrier = true) : AuthRest (overrunCause s) (overrunTaken s) :=
  (AuthRest.of_auth (raiseNotice_auth _ _)).trans ((overrunTaken_moves carrier).authRest (by decide))

theorem overrunTaken_inner (carrier : s.isCarrier = true) : Inner s (overrunTaken s) :=
  (overrunNoted_inner s).trans ((overrunTaken_moves carrier).inner (by decide))

theorem raiseOverrun_overrun (carrier : s.isCarrier = true) : (raiseOverrun s).auth.overrun = true := by
  rw [raiseOverrun_eq]
  show (overrunTaken s).auth.overrun = true
  rw [(overrunTaken_authRest carrier).rest]
  exact overrunCause_overrun s

theorem raiseOverrun_cause (carrier : s.isCarrier = true) : (raiseOverrun s).auth.causes.overrun = true := by
  rw [raiseOverrun_eq]
  show (overrunTaken s).auth.causes.overrun = true
  rw [(overrunTaken_authRest carrier).causes, overrunCause_causes]

theorem any_of_overrun {c : StopCauses} (overrun : c.overrun = true) : c.any = true := by
  unfold StopCauses.any
  rw [overrun, Bool.or_true]

theorem raiseOverrun_words (carrier : s.isCarrier = true) :
    (raiseOverrun s).words = s.words ∨ (raiseOverrun s).words = (sendWord 0 s).words := by
  have same : (raiseOverrun s).words = (overrunCause s).words := by
    rw [raiseOverrun_eq]
    exact (overrunTaken_authRest carrier).words
  rw [same]
  exact overrunCause_words s

theorem raiseOverrun_horizon (s : State) : (raiseOverrun s).auth.horizon = grantedHorizon (raiseOverrun s) := by
  rw [raiseOverrun_eq]
  rfl

/-- The OVERRUN notice of a state. -/
def overrunNotice (s : State) : Notice := .overrun s.s (hZone s) ((frontCell s).map (fun c => c.cell.ident) |>.getD 0)

theorem raiseOverrun_notices (carrier : s.isCarrier = true) (room : s.port.notices.length < 16) :
    overrunNotice s ∈ (raiseOverrun s).port.notices := by
  have noted : overrunNotice s ∈ (overrunNoted s).port.notices :=
    raiseNotice_mem (by rw [overrunCause_port]; exact room)
  rw [raiseOverrun_eq]
  exact ((overrunTaken_moves carrier).inner (by decide)).notices.subset noted

theorem raiseOverrun_claims (carrier : s.isCarrier = true) (fits : windowFits s.window) {z : Nat} (front : z ∈ frontZones s) :
    Claimed z (raiseOverrun s) := by
  have noted : (overrunNoted s).window = s.window := by
    unfold overrunNoted
    rw [raiseNotice_window, overrunCause_window]
  have inner := overrunNoted_inner s
  have claimed : Claimed z (overrunTaken s) :=
    occupantClaims_claimed (overrunNoted_stopped s) (fun y hy => by rw [inner.route]; exact frontZones_needed hy)
      (by rw [inner.isCarrier]; exact carrier) (by rw [noted]; exact fits) z (.inl front)
  rw [raiseOverrun_eq]
  exact claimed.congr rfl

theorem overrunTest_rests (not : ¬(s.auth.overrun = false ∧ hZone s < s.s)) : overrunTest s = s := by
  rw [overrunTest_eq]
  exact if_neg fun h => not h.2.2

theorem overrunTest_raises (carrier : s.isCarrier = true) (active : s.station.state = .active) (absent : s.auth.overrun = false)
    (passed : hZone s < s.s) : overrunTest s = raiseOverrun s := by
  rw [overrunTest_eq]
  exact if_pos ⟨carrier, active, absent, passed⟩

end

end Sys2Proof.Machine
end

section
/-! O43, assembled. -/

namespace Sys2Proof.Machine

-- One proof after another: many at a time want more threads than the memory limit of a build leaves.
set_option Elab.async false


/-- A tick with the index taken and the horizon set. -/
def tickBase (r : State) : State := setHorizon (grantedHorizon (takePending r)) (takePending r)

theorem tickTested_eq (r : State) : tickTested r = overrunTest (tickBase r) := rfl

/-- The ceiling of a tick (R118). -/
def tickValue (s : State) : Nat := if s.auth.causes.any then 0 else min (rawCeiling s) (s.auth.previous + riseStep s)

theorem tickCeiling_eq (s : State) : tickCeiling s = sendWord (tickValue s) (setCeiling (tickValue s) s) := rfl

theorem sendWord_auth (v : Nat) (s : State) : (sendWord v s).auth =
    { s.auth with wordOut := (sendWord v s).auth.wordOut, pendingWord := (sendWord v s).auth.pendingWord } := by
  unfold sendWord
  split
  · split <;> rfl
  · rfl

section
variable {r : State}

theorem tickBase_inner (r : State) : Inner (indexTaken r) (tickBase r) := (takePending_inner r).trans (setHorizon_inner _ _)

theorem tickBase_auth (active : r.station.state = .active) :
    (tickBase r).auth = { (indexTaken r).auth with horizon := (tickBase r).auth.horizon } := by
  unfold tickBase setHorizon
  rw [(takePending_listWork active).auth]

theorem tickBase_s (r : State) : (tickBase r).s = r.s := by
  unfold State.s
  rw [(tickBase_inner r).odo]
  rfl

/-- The OVERRUN test of a tick rests, or raises OVERRUN. -/
theorem tickTested_cases (carrier : r.isCarrier = true) (active : r.station.state = .active) :
    (¬(r.auth.overrun = false ∧ hZone (takePending r) < r.s) ∧ tickTested r = tickBase r) ∨
      (r.auth.overrun = false ∧ hZone (takePending r) < r.s ∧ tickTested r = raiseOverrun (tickBase r)) := by
  have inner := tickBase_inner r
  have overrun : (tickBase r).auth.overrun = r.auth.overrun := by
    rw [tickBase_auth active]
    rfl
  by_cases passed : r.auth.overrun = false ∧ hZone (takePending r) < r.s
  · refine .inr ⟨passed.1, passed.2, overrunTest_raises (s := tickBase r) (by rw [inner.isCarrier]; exact carrier) ?_ ?_ ?_⟩
    · rw [inner.station]
      exact active
    · rw [overrun]
      exact passed.1
    · rw [tickBase_s]
      exact passed.2
  · refine .inl ⟨passed, overrunTest_rests (s := tickBase r) fun h => passed ?_⟩
    rw [overrun, tickBase_s] at h
    exact h

theorem tickTested_inner (r : State) : Inner (indexTaken r) (tickTested r) := (tickBase_inner r).trans (overrunTest_inner _)

theorem authorityTickWork_inner (r : State) : Inner (indexTaken r) (authorityTickWork r) :=
  (tickTested_inner r).trans ((tickCeiling_inner _).trans (commitAll_inner _))

theorem authorityTickWork_auth (r : State) : (authorityTickWork r).auth = (tickCeiling (tickTested r)).auth :=
  (commitAll_entryWork _).auth

/-- After the test, a tick changes the ceiling and its word in the authority block. -/
theorem authorityTickWork_authRest (r : State) : (authorityTickWork r).auth = { (tickTested r).auth with
    ceiling := tickValue (tickTested r), previous := tickValue (tickTested r)
    wordOut := (authorityTickWork r).auth.wordOut, pendingWord := (authorityTickWork r).auth.pendingWord } := by
  rw [authorityTickWork_auth, tickCeiling_eq, sendWord_auth]
  rfl

theorem authorityTickWork_isHeld (r : State) (z : Nat) : isHeld (authorityTickWork r) z = isHeld (tickTested r) z := by
  rw [authorityTickWork_eq, commitAll_isHeld]
  exact isHeld_congr (by rw [tickCeiling_window]) z

theorem authorityTickWork_route (r : State) : (authorityTickWork r).route = (tickTested r).route :=
  (authorityTickWork_inner r).route.trans (tickTested_inner r).route.symm

theorem authorityTickWork_odo (r : State) : (authorityTickWork r).odo = (tickTested r).odo :=
  (authorityTickWork_inner r).odo.trans (tickTested_inner r).odo.symm

theorem authorityTickWork_profile (r : State) : (authorityTickWork r).profile = (tickTested r).profile := by
  unfold State.profile
  rw [authorityTickWork_authRest]

theorem authorityTickWork_hZone (r : State) : hZone (authorityTickWork r) = hZone (tickTested r) :=
  hZone_heldCongr (authorityTickWork_route r) (authorityTickWork_isHeld r)

/-- The horizon of a tick is the one of the window as the tick leaves it (R107). -/
theorem authorityTickWork_horizon (carrier : r.isCarrier = true) (active : r.station.state = .active) :
    (authorityTickWork r).auth.horizon = grantedHorizon (authorityTickWork r) := by
  have same : grantedHorizon (authorityTickWork r) = grantedHorizon (tickTested r) :=
    grantedHorizon_congr (authorityTickWork_route r) (authorityTickWork_odo r) (authorityTickWork_isHeld r)
  rw [same, authorityTickWork_authRest]
  obtain ⟨-, eq⟩ | ⟨-, -, eq⟩ := tickTested_cases carrier active
  · rw [eq]
    rfl
  · rw [eq]
    exact raiseOverrun_horizon _

theorem authorityTickWork_overrun (r : State) : (authorityTickWork r).auth.overrun = (tickTested r).auth.overrun := by
  rw [authorityTickWork_authRest]

theorem authorityTickWork_causes (r : State) : (authorityTickWork r).auth.causes = (tickTested r).auth.causes := by
  rw [authorityTickWork_authRest]

/-- The ceiling of a tick, by the window and the horizon as it leaves them (R118). -/
theorem authorityTickWork_ceiling (carrier : r.isCarrier = true) (active : r.station.state = .active) :
    (authorityTickWork r).auth.ceiling = if (authorityTickWork r).auth.causes.any then 0
      else min (rawCeiling (authorityTickWork r)) (r.auth.previous + riseStep (authorityTickWork r)) := by
  have raw : rawCeiling (authorityTickWork r) = rawCeiling (tickTested r) :=
    rawCeiling_congr (authorityTickWork_route r) (authorityTickWork_odo r) (authorityTickWork_profile r)
      (authorityTickWork_isHeld r) (by rw [authorityTickWork_authRest])
  have rise : riseStep (authorityTickWork r) = riseStep (tickTested r) := by
    unfold riseStep
    rw [authorityTickWork_profile]
  rw [authorityTickWork_causes, raw, rise]
  have value : (authorityTickWork r).auth.ceiling = tickValue (tickTested r) := by rw [authorityTickWork_authRest]
  rw [value]
  unfold tickValue
  obtain ⟨-, eq⟩ | ⟨-, -, eq⟩ := tickTested_cases carrier active
  · rw [eq, tickBase_auth active]
    rfl
  · have any : (tickTested r).auth.causes.any = true := by
      rw [eq]
      exact any_of_overrun (raiseOverrun_cause (by rw [(tickBase_inner r).isCarrier]; exact carrier))
    rw [any]
    rfl

theorem authorityTickWork_previous (r : State) : (authorityTickWork r).auth.previous = (authorityTickWork r).auth.ceiling := by
  rw [authorityTickWork_authRest]

theorem authorityTickWork_words (r : State) :
    (authorityTickWork r).words = (sendWord (authorityTickWork r).auth.ceiling (tickTested r)).words := by
  have value : (authorityTickWork r).auth.ceiling = tickValue (tickTested r) := by rw [authorityTickWork_authRest]
  have words : (authorityTickWork r).words = (tickCeiling (tickTested r)).words := by
    unfold State.words
    rw [authorityTickWork_auth]
  rw [words, value, tickCeiling_eq]
  exact sendWord_words_congr rfl rfl rfl

theorem authorityTickWork_wordSent (carrier : r.isCarrier = true) (active : r.station.state = .active) :
    wordSent r (authorityTickWork r) (authorityTickWork r).auth.ceiling := by
  have base : (tickBase r).words = r.words := by
    unfold State.words
    rw [tickBase_auth active]
    rfl
  have onCarrier : (tickBase r).isCarrier = true := by
    rw [(tickBase_inner r).isCarrier]
    exact carrier
  have now : (authorityTickWork r).now = (tickBase r).now :=
    (authorityTickWork_inner r).now.trans (tickBase_inner r).now.symm
  have sent := authorityTickWork_words r
  obtain ⟨-, eq⟩ | ⟨-, -, eq⟩ := tickTested_cases carrier active
  · rw [eq] at sent
    exact wordSent_of onCarrier base sent now
  · have zero : (authorityTickWork r).auth.ceiling = 0 := by
      rw [authorityTickWork_ceiling carrier active, authorityTickWork_causes, eq,
        any_of_overrun (raiseOverrun_cause onCarrier)]
      rfl
    rw [zero] at sent ⊢
    rw [eq] at sent
    have still : (raiseOverrun (tickBase r)).isCarrier = true := by
      rw [(raiseOverrun_inner _).isCarrier]
      exact onCarrier
    obtain same | first := raiseOverrun_words onCarrier
    · refine wordSent_of (s := raiseOverrun (tickBase r)) still (same.trans base) sent (now.trans ?_)
      exact (raiseOverrun_inner _).now.symm
    · exact wordSent_again onCarrier base first still sent now

/-! ### OVERRUN over a tick -/

theorem authorityTickWork_overrunStays (carrier : r.isCarrier = true) (active : r.station.state = .active)
    (overrun : r.auth.overrun = true) : (authorityTickWork r).auth.overrun = true := by
  rw [authorityTickWork_overrun]
  obtain ⟨-, eq⟩ | ⟨absent, -, -⟩ := tickTested_cases carrier active
  · rw [eq, tickBase_auth active]
    exact overrun
  · exact absurd (absent.symm.trans overrun) Bool.false_ne_true

theorem authorityTickWork_overrunRaised (carrier : r.isCarrier = true) (active : r.station.state = .active)
    (passed : hZone (takePending r) < r.s) : (authorityTickWork r).auth.overrun = true := by
  rw [authorityTickWork_overrun]
  obtain ⟨rests, eq⟩ | ⟨-, -, eq⟩ := tickTested_cases carrier active
  · rw [eq, tickBase_auth active]
    exact Bool.of_not_eq_false fun absent => rests ⟨absent, passed⟩
  · rw [eq]
    exact raiseOverrun_overrun (by rw [(tickBase_inner r).isCarrier]; exact carrier)

theorem authorityTickWork_passed (carrier : r.isCarrier = true) (active : r.station.state = .active)
    (passed : hZone (authorityTickWork r) < (authorityTickWork r).s) : (authorityTickWork r).auth.overrun = true := by
  obtain ⟨-, eq⟩ | ⟨-, -, eq⟩ := tickTested_cases carrier active
  · refine authorityTickWork_overrunRaised carrier active ?_
    rw [authorityTickWork_hZone, eq] at passed
    have s : (authorityTickWork r).s = r.s := by
      unfold State.s
      rw [(authorityTickWork_inner r).odo]
      rfl
    rw [s] at passed
    exact passed
  · rw [authorityTickWork_overrun, eq]
    exact raiseOverrun_overrun (by rw [(tickBase_inner r).isCarrier]; exact carrier)

theorem authorityTickWork_overrunRests (carrier : r.isCarrier = true) (active : r.station.state = .active)
    (inside : r.s ≤ hZone (takePending r)) : (authorityTickWork r).auth.overrun = r.auth.overrun := by
  rw [authorityTickWork_overrun]
  obtain ⟨-, eq⟩ | ⟨-, passed, -⟩ := tickTested_cases carrier active
  · rw [eq, tickBase_auth active]
    rfl
  · exact absurd passed (Int.not_lt.mpr inside)

/-- What raising OVERRUN in a tick leaves (R120). -/
theorem authorityTickWork_raised (carrier : r.isCarrier = true) (active : r.station.state = .active) (fits : windowFits r.window)
    (absent : r.auth.overrun = false) (raised : (authorityTickWork r).auth.overrun = true) :
    hZone (takePending r) < r.s ∧ (authorityTickWork r).auth.causes.overrun = true ∧
      (∀ z ∈ frontZones r, Claimed z (authorityTickWork r)) ∧
      ((takePending r).port.notices.length < 16 → overrunNotice (tickBase r) ∈ (authorityTickWork r).port.notices) := by
  have onCarrier : (tickBase r).isCarrier = true := by
    rw [(tickBase_inner r).isCarrier]
    exact carrier
  obtain ⟨-, eq⟩ | ⟨-, passed, eq⟩ := tickTested_cases carrier active
  · rw [authorityTickWork_overrun, eq, tickBase_auth active] at raised
    exact absurd (absent.symm.trans raised) Bool.false_ne_true
  · refine ⟨passed, ?_, fun z front => ?_, fun room => ?_⟩
    · rw [authorityTickWork_causes, eq]
      exact raiseOverrun_cause onCarrier
    · have listed : Moves listingF (indexTaken r) (takePending r) := takePending_listing r
      have base : windowFits (tickBase r).window := listed.windowFits (show windowFits (indexTaken r).window from fits)
      have tested : windowFits (tickTested r).window := (overrunTest_moves _).windowFits base
      have zones : frontZones (tickBase r) = frontZones r := by
        unfold frontZones frontCell State.front
        rw [tickBase_s, (tickBase_inner r).route]
        rfl
      have claimed := raiseOverrun_claims onCarrier base (by rw [zones]; exact front : z ∈ frontZones (tickBase r))
      rw [← eq] at claimed
      have same : (tickCeiling (tickTested r)).window = (tickTested r).window := tickCeiling_window _
      refine Claimed.commitAll (s := tickCeiling (tickTested r)) ?_ (claimed.congr same)
      show ((tickCeiling (tickTested r)).window.entries.map ClaimEntry.zone).Nodup
      rw [same]
      exact tested.2.1
    · have noted := raiseOverrun_notices onCarrier (show (tickBase r).port.notices.length < 16 from room)
      rw [← eq] at noted
      exact ((tickCeiling_inner _).trans (commitAll_inner _)).notices.subset noted

end

end Sys2Proof.Machine
end

section
/-! O43, the statement. -/

namespace Sys2Proof.Machine

-- One proof after another: many at a time want more threads than the memory limit of a build leaves.
set_option Elab.async false


theorem Moves.held_stays {F : List Flag} (other : ∀ f ∈ F, f ∉ [Flag.release, .yield, .remove, .reset]) {s t : State}
    (m : Moves F s t) (fits : Machine.windowFits s.window) {z : Nat} (h : isHeld s z = true) : isHeld t z = true :=
  (m.keeps (I := fun t => Machine.windowFits t.window ∧ isHeld t z = true)
    (fun f a b member move before => ⟨move.windowFits before.1, move.held_stays (by
      obtain rfl | member := member
      · decide
      · exact other f member) before.1 before.2⟩) ⟨fits, h⟩).2

theorem takePending_held {r : State} (fits : windowFits r.window) {z : Nat} (h : isHeld r z = true) :
    isHeld (takePending r) z = true :=
  (takePending_listing r).held_stays (by decide) (show windowFits (indexTaken r).window from fits) h

/-- Taking the pending index does not draw the zone horizon in. -/
theorem takePending_hZone {r : State} (fits : windowFits r.window) (laid : routeLaid r) : hZone r ≤ hZone (takePending r) := by
  refine hZone_mono (more := []) (by rw [List.append_nil]; exact laid.2.2) ?_ fun z _ h => takePending_held fits h
  rw [List.append_nil, (takePending_inner r).route]
  rfl

theorem authorityTickWork_commits {r : State} (carrier : r.isCarrier = true)
    (fits : windowFits r.window) {e : ClaimEntry} (member : e ∈ (authorityTickWork r).window.entries) (held : e.state = .held)
    (passes : commitPasses (authorityTickWork r) e = true) : e.committed = true := by
  have listed : Moves listingF (indexTaken r) (takePending r) := takePending_listing r
  have base : windowFits (tickBase r).window := listed.windowFits (show windowFits (indexTaken r).window from fits)
  have tested : windowFits (tickTested r).window := (overrunTest_moves _).windowFits base
  have inner := (tickTested_inner r).trans (tickCeiling_inner _)
  have onCarrier : (tickCeiling (tickTested r)).isCarrier = true := by
    rw [inner.isCarrier]
    exact carrier
  refine commitAll_commits (s := tickCeiling (tickTested r)) onCarrier (by rw [tickCeiling_window]; exact tested) member held ?_
  rw [← (commitAll_inner (tickCeiling (tickTested r))).commitPasses (e := e) rfl]
  exact passes

theorem exec_authorityTick {s : State} (held : s.station.held = false) (carrier : s.isCarrier = true)
    (active : s.station.state = .active) :
    exec .authorityTick s = .next (finish (authorityTickWork (nextOutput (s.reach s.auth.outputAt)))) := by
  have due : ticks s = true := ticks_iff.mpr ⟨carrier, active⟩
  show execAuthorityTick s = _
  unfold execAuthorityTick timedEvent
  rw [if_pos due]
  dsimp only
  rw [held]
  rfl

theorem hZone_finish (s : State) : hZone (finish s) = hZone s :=
  hZone_congr (finish_route s) (by rw [finish_window])

theorem grantedHorizon_finish (s : State) : grantedHorizon (finish s) = grantedHorizon s :=
  grantedHorizon_congr (finish_route s) (finish_odo s) fun z => isHeld_congr (by rw [finish_window]) z

theorem profile_finish (s : State) : (finish s).profile = s.profile := by
  unfold State.profile
  rw [finish_auth]

theorem rawCeiling_finish (s : State) : rawCeiling (finish s) = rawCeiling s :=
  rawCeiling_congr (finish_route s) (finish_odo s) (profile_finish s) (fun z => isHeld_congr (by rw [finish_window]) z)
    (by rw [finish_auth])

theorem riseStep_finish (s : State) : riseStep (finish s) = riseStep s := by
  unfold riseStep
  rw [profile_finish]

theorem commitPasses_finish (s : State) (e : ClaimEntry) : commitPasses (finish s) e = commitPasses s e :=
  commitPasses_congr (finish_route s) (finish_odo s) (profile_finish s) rfl

theorem s_finish (s : State) : (finish s).s = s.s := by
  unfold State.s
  rw [finish_odo]

theorem wordSent_finish {v : Nat} {s r t : State} (words : r.words = s.words) (sent : wordSent r t v) : wordSent s (finish t) v := by
  obtain ⟨out, behind⟩ := Prod.mk.inj words
  unfold wordSent at sent ⊢
  rw [finish_auth, finish_now, ← out]
  exact sent

theorem finish_stopLine_carrier {s : State} (carrier : s.isCarrier = true) : (finish s).stopLine = s.auth.causes.any := by
  rw [finish_stopLine, stopLevel_refresh]
  unfold stopLevel
  exact if_pos carrier

theorem isHeld_finish (z : Nat) (s : State) : isHeld (finish s) z = isHeld s z := isHeld_congr (by rw [finish_window]) z

theorem finish_noticeGiven {n : Notice} {s t : State} (noted : s.port.notices.length < 16 → n ∈ t.port.notices) :
    noticeGiven s (finish t) n := fun room => finish_noticed (noted room)

/-- Settles O43. -/
theorem authorityTick : Obligations.AuthorityTick := by
  unfold Obligations.AuthorityTick
  intro s held carrier active fits laid inv
  let r := nextOutput (s.reach s.auth.outputAt)
  have inner : Inner (indexTaken r) (authorityTickWork r) := authorityTickWork_inner r
  have auth := inner.auth
  have moves : Moves tickF r (authorityTickWork r) := authorityTickWork_moves carrier active
  have onCarrier : (authorityTickWork r).isCarrier = true := by
    rw [inner.isCarrier]
    exact carrier
  have early : s.auth.pendingIx = none → takePending r = r := fun none => by
    obtain eq | ⟨pending, -⟩ := takePending_cases r
    · rw [eq, indexTaken_none (s := r) none]
    · exact absurd none pending
  have previous : s.auth.previous = s.auth.ceiling := inv.1.1
  refine ⟨finish (authorityTickWork r), exec_authorityTick held carrier active, ?_, ?_, ?_, ?_, ?_, ?_, ?_, ?_, ?_, ?_, ?_, ?_,
    ?_, ?_, ?_, ?_, ?_, ?_, ?_, ?_, finish_tableKept inner.table, finish_radioKept inner.radio, inner.finish_portKept⟩
  · rw [finish_now, inner.now]
    rfl
  · rw [finish_auth, auth]
    rfl
  · rw [finish_auth, auth]
    rfl
  · rw [finish_auth, auth]
    rfl
  · rw [finish_auth, auth]
    rfl
  · rw [finish_auth, grantedHorizon_finish]
    exact authorityTickWork_horizon carrier active
  · rw [finish_auth]
    exact authorityTickWork_overrunStays (r := r) carrier active
  · rw [finish_auth, hZone_finish, s_finish]
    exact authorityTickWork_passed (r := r) carrier active
  · rw [finish_auth]
    intro inside
    exact authorityTickWork_overrunRests (r := r) carrier active (Int.le_trans inside (takePending_hZone (r := r) fits laid))
  · rw [finish_auth]
    intro none passed
    refine authorityTickWork_overrunRaised (r := r) carrier active ?_
    rw [early none]
    exact passed
  · rw [finish_auth]
    intro absent raised
    obtain ⟨passed, cause, claims, noted⟩ := authorityTickWork_raised (r := r) carrier active fits absent raised
    refine ⟨cause, fun z front => ?_, hZone (takePending r), passed, fun none => by rw [early none]; rfl, fun room => ?_⟩
    · rw [finish_window]
      obtain ⟨e, found, isHeld, committed⟩ | crowded := claims z front
      · exact .inl ⟨e, findEntry_mem found, findEntry_zone found, isHeld, committed⟩
      · exact .inr crowded
    · have same : overrunNotice (tickBase r) =
          .overrun s.s (hZone (takePending r)) (((frontCell s).map (fun c => c.cell.ident)).getD 0) := by
        unfold overrunNotice frontCell State.front
        rw [tickBase_s, (tickBase_inner r).route]
        rfl
      rw [← same]
      exact finish_noticeGiven fun few => noted (takePending_notices (s := r) active room few)
  · rw [finish_auth, rawCeiling_finish, profile_finish, ← previous]
    exact authorityTickWork_ceiling (r := r) carrier active
  · rw [finish_auth]
    exact authorityTickWork_previous r
  · rw [finish_auth]
    exact wordSent_finish (r := r) rfl (authorityTickWork_wordSent carrier active)
  · rw [finish_stopLine_carrier onCarrier, finish_auth]
  · intro e member isHeld passes
    rw [finish_window] at member
    rw [commitPasses_finish] at passes
    exact authorityTickWork_commits (r := r) carrier fits member isHeld passes
  · intro z h
    rw [isHeld_finish]
    exact moves.held_stays (by decide) (show windowFits r.window from fits) h
  · rw [finish_station, inner.station]
    rfl
  · rw [finish_route, inner.route]
    rfl
  · rw [finish_odo, inner.odo]
    rfl

end Sys2Proof.Machine
end

section
/-! O8: entry into ACTIVE from LISTEN. -/

namespace Sys2Proof.Machine

-- One proof after another: many at a time want more threads than the memory limit of a build leaves.
set_option Elab.async false


/-! ### No entry left QUEUED (R25) -/

/-- The entries that are QUEUED stand for zones of the list. -/
def QueuedIn (zs : List Nat) (s : State) : Prop := ∀ e ∈ s.window.entries, e.state = .queued → e.zone ∈ zs

/-- An entry that a move other than a listing leaves QUEUED was QUEUED before. -/
theorem Origin.queued {s : State} {f : Flag} {e : ClaimEntry} (origin : Origin s f e) (other : f ≠ .list)
    (queued : e.state = .queued) : ∃ x ∈ s.window.entries, x.zone = e.zone ∧ x.state = .queued := by
  cases origin with
  | kept _ member => exact ⟨e, member, rfl, queued⟩
  | commit x member => exact ⟨x, member, rfl, queued⟩
  | needs x member => exact ⟨x, member, rfl, queued⟩
  | settle x member => exact ⟨x, member, rfl, queued⟩
  | report x member => exact ⟨x, member, rfl, queued⟩
  | air x member => exact ⟨x, member, rfl, queued⟩
  | waits x member => exact ⟨x, member, (waitMore_zone x).symm, (waitMore_state x).1 ▸ queued⟩
  | completes x member => exact ⟨x, member, (completed_zone x).symm, (completed_state x).1 ▸ queued⟩
  | commitStanding x member =>
    refine ⟨x, member, (commitIn_zone _ x).symm, ?_⟩
    unfold ClaimEntry.commitIn at queued
    split at queued
    · exact queued
    · exact queued
  | occupy x => exact absurd ((occupy_state x).symm.trans queued) nofun
  | occupyNew z => exact absurd ((occupy_state _).symm.trans queued) nofun
  | track x =>
    unfold ClaimEntry.trackBlock at queued
    split at queued
    all_goals exact ⟨x, ‹_›, rfl, queued⟩
  | list => exact absurd rfl other
  | _ => exact nomatch queued

theorem Move.queuedIn {f : Flag} {s t : State} (m : Move f s t) (other : f ≠ .list) {zs : List Nat} (queued : QueuedIn zs s) :
    QueuedIn zs t := fun e member is => by
  obtain ⟨x, old, zone, was⟩ := (m.origin member).queued other is
  rw [← zone]
  exact queued x old was

theorem Moves.queuedIn {F : List Flag} (other : .list ∉ F) {s t : State} (m : Moves F s t) {zs : List Nat}
    (queued : QueuedIn zs s) : QueuedIn zs t :=
  m.keeps (I := QueuedIn zs) (fun f _ _ member move before => move.queuedIn (by
    rintro rfl
    obtain absurd | member := member
    · exact nomatch absurd
    · exact other member) before) queued

/-- A first announcement takes its zone from the QUEUED ones. -/
theorem announce_queuedIn {z : Nat} {zs : List Nat} {s : State} (queued : QueuedIn (z :: zs) s) : QueuedIn zs (announce z s) := by
  have fresh : QueuedIn zs (modifyEntry z (ClaimEntry.announceFirst s.now (settleLength s)) s) := fun e member is => by
    obtain ⟨x, old, eq⟩ := List.mem_map.mp (show e ∈ (s.window.entries.map _) from member)
    split at eq
    · subst eq
      exact nomatch is
    · rename_i other
      subst eq
      exact (List.mem_cons.mp (queued x old is)).resolve_left fun h => other (by rw [h]; exact beq_self_eq_true z)
  exact (reevaluate_moves z _).queuedIn (by decide) ((Move.urgent _).queuedIn (by decide) fresh)

theorem announceQueued_none (s : State) : QueuedIn [] (announceQueued s) := by
  have run : ∀ (zs : List Nat) (t : State), QueuedIn zs t → QueuedIn [] (zs.foldl (fun s z => announce z s) t) := by
    intro zs
    induction zs with
    | nil => exact fun t queued => queued
    | cons z zs ih => exact fun t queued => ih _ (announce_queuedIn queued)
  exact run _ s fun e member is => List.mem_map_of_mem (List.mem_filter.mpr ⟨member, by simpa using is⟩)

theorem listZone_queuedIn {z : Nat} {s : State} (active : s.station.state = .active) (queued : QueuedIn [] s) :
    QueuedIn [] (listZone z s) := by
  unfold listZone
  rw [active]
  refine announce_queuedIn fun e member is => ?_
  obtain rfl | old := mem_addEntry member
  · exact List.mem_cons_self
  · exact absurd (queued e old is) (List.not_mem_nil)

theorem listStep_queuedIn {z : Nat} {s : State} (active : s.station.state = .active)
    (needed : isNeeded z s.route.cells = true) (runs : listingRuns s = true) (queued : QueuedIn [] s) :
    QueuedIn [] (listStep z s) := by
  cases found : findEntry z s with
  | none =>
    cases room : windowHasRoom s with
    | true =>
      rw [listStep_lists found room]
      exact listZone_queuedIn active queued
    | false =>
      rw [listStep_full found room]
      exact queued
  | some e =>
    by_cases revives : e.state = .releasing ∧ canRevive z e s = true
    · rw [listStep_revives found revives.1 revives.2]
      exact (reviveEntry_moves found revives.1 revives.2 needed runs).queuedIn (by decide) queued
    · rw [listStep_rest found revives]
      exact queued

theorem walkOver_queuedIn : ∀ {zs : List Nat} {s : State} (_ : s.station.state = .active)
    (_ : ∀ z ∈ zs, isNeeded z s.route.cells = true) (_ : listingRuns s = true) (_ : QueuedIn [] s), QueuedIn [] (walkOver zs s)
  | [], _, _, _, _, queued => queued
  | z :: zs, s, active, needed, runs, queued => by
    have need := needed z List.mem_cons_self
    have inner := (listStep_moves need runs).inner (by decide)
    exact walkOver_queuedIn (zs := zs) (s := listStep z s) (by rw [inner.station]; exact active)
      (fun y hy => by rw [inner.route]; exact needed y (List.mem_cons_of_mem z hy))
      (by rw [listingRuns_inner inner]; exact runs) (listStep_queuedIn active need runs queued)

theorem listingTest_queuedIn {s : State} (active : s.station.state = .active) (queued : QueuedIn [] s) :
    QueuedIn [] (listingTest s) := by
  cases runs : listingRuns s with
  | true =>
    obtain ⟨visited, rest, w⟩ := listingTest_walked runs
    have walked := walkOver_queuedIn active w.needed runs queued
    unfold QueuedIn at walked ⊢
    rw [w.entries]
    exact walked
  | false =>
    rw [listingTest_still runs]
    exact queued

theorem authorityTickWork_queuedIn {r : State} (active : r.station.state = .active)
    (queued : QueuedIn [] r) : QueuedIn [] (authorityTickWork r) := by
  have taken : QueuedIn [] (takePending r) := by
    obtain eq | ⟨-, eq⟩ := takePending_cases r
    · rw [eq]
      exact queued
    · rw [eq]
      exact listingTest_queuedIn (s := indexTaken r) active queued
  have tested : QueuedIn [] (tickTested r) :=
    (overrunTest_moves (tickBase r)).queuedIn (by decide) (show QueuedIn [] (tickBase r) from taken)
  have set : QueuedIn [] (tickCeiling (tickTested r)) := by
    unfold QueuedIn
    rw [tickCeiling_window]
    exact tested
  exact (commitAll_moves (tickCeiling (tickTested r))).queuedIn (by decide) set

/-! ### Entry into ACTIVE (R177) -/

/-- Entry into ACTIVE of a carrier, up to its tick. -/
def enterListed (s : State) : State := listingTest (announceQueued (activeBase s))

theorem enterActive_carrier {s : State} (carrier : s.isCarrier = true) : enterActive s = authorityTickWork (enterListed s) := by
  rw [enterActive_eq]
  exact if_pos carrier

theorem enterActive_fixed {s : State} (fixed : s.isCarrier = false) : enterActive s = activeBase s := by
  rw [enterActive_eq]
  exact if_neg (by show ¬s.isCarrier = true; rw [fixed]; exact Bool.false_ne_true)

theorem announceQueued_entryWork (s : State) : EntryWork s (announceQueued s) :=
  foldl_keeps (I := EntryWork s) (fun t z work => work.trans (.announce z t)) _ s (.refl s)

theorem enterListed_listWork (s : State) : ListWork (activeBase s) (enterListed s) := by
  have announced := announceQueued_entryWork (activeBase s)
  exact announced.listWork.trans (listingTest_listWork (by rw [announced.station]; rfl))

theorem enterListed_inner (s : State) : Inner (activeBase s) (enterListed s) :=
  (announceQueued_inner _).trans (listingTest_inner _)

theorem Inner.indexTaken {s t : State} (inner : Inner s t) : Inner (Machine.indexTaken s) (Machine.indexTaken t) where
  now := inner.now
  station := inner.station
  route := inner.route
  table := inner.table
  odo := inner.odo
  stopLine := inner.stopLine
  pending := inner.pending
  standing := inner.standing
  radio := inner.radio
  auth := by
    show { t.auth with active := t.auth.pendingIx.getD t.auth.active, pendingIx := none } = _
    rw [inner.auth]
    rfl
  port := inner.port
  notices := inner.notices
  room := inner.room
  boot := inner.boot
  configFault := inner.configFault

section
variable {s : State}

theorem enterListed_station (s : State) : (enterListed s).station = (activeBase s).station := (enterListed_listWork s).station

theorem enterListed_active (s : State) : (enterListed s).station.state = .active := by
  rw [enterListed_station]
  rfl

theorem enterListed_carrier (carrier : s.isCarrier = true) : (enterListed s).isCarrier = true := by
  rw [(enterListed_inner s).isCarrier]
  exact carrier

theorem enterActive_inner (carrier : s.isCarrier = true) : Inner (indexTaken (activeBase s)) (enterActive s) := by
  rw [enterActive_carrier carrier]
  exact (enterListed_inner s).indexTaken.trans (authorityTickWork_inner _)

theorem enterActive_horizon (carrier : s.isCarrier = true) : (enterActive s).auth.horizon = grantedHorizon (enterActive s) := by
  rw [enterActive_carrier carrier]
  exact authorityTickWork_horizon (enterListed_carrier carrier) (enterListed_active s)

theorem enterActive_ceiling_le (carrier : s.isCarrier = true) (previous : s.auth.previous = 0) :
    (enterActive s).auth.ceiling ≤ riseStep (enterActive s) := by
  have before : (enterListed s).auth.previous = 0 := by
    rw [(enterListed_listWork s).auth]
    exact previous
  rw [enterActive_carrier carrier, authorityTickWork_ceiling (enterListed_carrier carrier) (enterListed_active s), before,
    Nat.zero_add]
  split
  · exact Nat.zero_le _
  · exact Nat.min_le_right _ _

theorem enterActive_wordSent (carrier : s.isCarrier = true) : wordSent s (enterActive s) (enterActive s).auth.ceiling := by
  have sent := authorityTickWork_wordSent (enterListed_carrier carrier) (enterListed_active s)
  have out : (enterListed s).auth.wordOut = s.auth.wordOut := by
    rw [(enterListed_listWork s).auth]
    rfl
  rw [enterActive_carrier carrier]
  unfold wordSent at sent ⊢
  rw [out] at sent
  exact sent

theorem enterActive_noQueued (carrier : s.isCarrier = true) : ∀ e ∈ (enterActive s).window.entries, e.state ≠ .queued := by
  have announced := announceQueued_none (activeBase s)
  have work := announceQueued_entryWork (activeBase s)
  have listed : QueuedIn [] (enterListed s) := listingTest_queuedIn (by rw [work.station]; rfl) announced
  rw [enterActive_carrier carrier]
  exact fun e member is => absurd
    (authorityTickWork_queuedIn (enterListed_active s) listed e member is) (List.not_mem_nil)

end

/-! ### The listen timer (R174) -/

theorem exec_listenTimerExpiry {s : State} {d : Time} (held : s.station.held = false) (listening : s.station.state = .listen)
    (runs : s.station.listen = .running d) :
    exec .listenTimerExpiry s = .next (finish (listenExpired (s.reach d))) := by
  have due : listenDue s = some d := by
    unfold listenDue
    rw [listening, runs]
  show execListenTimerExpiry s = _
  unfold execListenTimerExpiry timedEvent
  rw [due]
  dsimp only
  rw [held]
  rfl

theorem listenExpired_waits {s : State} (carrier : s.isCarrier = true) (unmarked : s.station.startMark = false) :
    listenExpired s = setListen .expired s := by
  unfold listenExpired
  rw [if_neg (by rw [carrier, unmarked]; decide)]
  rfl

theorem listenExpired_enters {s : State} (enters : s.isCarrier = false ∨ s.station.startMark = true) :
    listenExpired s = enterActive (setRadio { s.radio with fresh := false } s) := by
  unfold listenExpired
  rw [if_pos (by simpa using enters), enterActiveFromListen_eq]

/-- Settles O8. -/
theorem listenTimerOutcomes : Obligations.ListenTimerOutcomes := by
  unfold Obligations.ListenTimerOutcomes
  intro s d held listening runs settled inv
  refine ⟨fun carrier unmarked => ?_, fun enters => ?_⟩
  · rw [exec_listenTimerExpiry held listening runs, listenExpired_waits (s := s.reach d) carrier unmarked]
    exact congrArg _ (finish_settled settled)
  · let a := setRadio { s.radio with fresh := false } (s.reach d)
    have run : exec .listenTimerExpiry s = .next (finish (enterActive a)) := by
      rw [exec_listenTimerExpiry held listening runs, listenExpired_enters (s := s.reach d) enters]
      rfl
    cases is : s.isCarrier with
    | true =>
      have carrier : a.isCarrier = true := is
      have inner := enterActive_inner carrier
      have auth := inner.auth
      have port := inner.port
      refine ⟨_, run, ?_, ?_, ?_, ?_, ?_, finish_tableKept inner.table, ?_, ?_, finish_reports ?_, fun _ => ?_, nofun⟩
      · rw [finish_now, inner.now]
        rfl
      · rw [finish_station, inner.station]
        rfl
      · rw [finish_route, inner.route]
        rfl
      · rw [finish_odo, inner.odo]
        rfl
      · rw [finish_radio]
        exact inner.radio
      · rw [finish_auth, auth]
        rfl
      · have status : (finish (enterActive a)).port.statusAt = (enterActive a).port.statusAt :=
          (finish_portKept (s := enterActive a) rfl rfl rfl rfl rfl).2.2.2.1
        rw [status, port]
        rfl
      · rw [port]
        rfl
      · refine ⟨?_, ?_, ?_, ?_, ?_, ?_⟩
        · rw [finish_window]
          exact enterActive_noQueued carrier
        · rw [finish_auth, auth]
          rfl
        · rw [finish_auth, auth]
          rfl
        · rw [finish_auth, grantedHorizon_finish]
          exact enterActive_horizon carrier
        · have zero : a.auth.previous = 0 := inv.1.1.trans (inv.1.2.2.2.2.1 (by rw [listening]; decide))
          rw [finish_auth, profile_finish]
          exact enterActive_ceiling_le carrier zero
        · rw [finish_auth]
          exact wordSent_finish (r := a) rfl (enterActive_wordSent carrier)
    | false =>
      rw [enterActive_fixed (s := a) is] at run
      refine ⟨_, run, by rw [finish_now]; rfl, by rw [finish_station]; rfl, by rw [finish_route]; rfl, by rw [finish_odo]; rfl,
        by rw [finish_radio]; rfl, finish_tableKept rfl, by rw [finish_auth]; rfl, ?_, finish_reports rfl, nofun,
        fun _ => ⟨by rw [finish_window]; rfl, by rw [finish_auth]; rfl, fun empty => ?_⟩⟩
      · exact (finish_portKept (s := activeBase a) rfl rfl rfl rfl rfl).2.2.2.1
      · have fixed : (activeBase a).isCarrier = false := is
        rw [finish_stopLine, stopLevel_refresh]
        unfold stopLevel holdOffAsserted
        rw [fixed]
        show (_ || s.window.standing.isEmpty || _ || _) = true
        rw [empty]
        simp

end Sys2Proof.Machine
end

section
/-! O44: the output refreshes and the ceiling words. -/

namespace Sys2Proof.Machine

-- One proof after another: many at a time want more threads than the memory limit of a build leaves.
set_option Elab.async false


theorem takePending_authRest (s : State) : AuthRest (indexTaken s) (takePending s) := (takePending_listing s).authRest (by decide)

theorem zonesInReach_empty {s : State} (none : s.route.cells = []) : zonesInReach s = [] := by
  unfold zonesInReach
  rw [none]
  rfl

/-- Without cells a listing test leaves all but WINDOW_FULL. -/
theorem listingTest_empty {s : State} (none : s.route.cells = []) : (listingTest s).auth = s.auth := by
  unfold listingTest
  split
  · rw [zonesInReach_empty none]
    rfl
  · rfl

theorem takePending_empty {s : State} (none : s.route.cells = []) : (takePending s).auth = (indexTaken s).auth := by
  obtain eq | ⟨-, eq⟩ := takePending_cases s
  · rw [eq]
  · rw [eq]
    exact listingTest_empty (s := indexTaken s) none

/-! ### What a refresh does by the state of the station (R106) -/

theorem exec_outputRefresh {s : State} (held : s.station.held = false)
    (idle : ¬(s.isCarrier = true ∧ s.station.state = .active)) :
    exec .outputRefresh s = .next (finish (outputRefreshWork (nextOutput (s.reach s.auth.outputAt)))) := by
  show execOutputRefresh s = _
  unfold execOutputRefresh timedEvent
  rw [if_neg fun due => idle (ticks_iff.mp due)]
  dsimp only
  rw [held]
  rfl

theorem outputRefreshWork_fixed {s : State} (fixed : s.isCarrier = false) : outputRefreshWork s = s := by
  unfold outputRefreshWork
  exact if_neg (by rw [fixed]; exact Bool.false_ne_true)

theorem outputRefreshWork_stopped {s : State} (carrier : s.isCarrier = true) (stops : s.running = false) :
    outputRefreshWork s = sendWord 0 s := by
  unfold outputRefreshWork
  rw [if_pos carrier]
  cases state : s.station.state with
  | boot | configFault => rfl
  | listen => exact nomatch (running_of_state (.inl state)).symm.trans stops
  | active => exact nomatch (running_of_state (.inr (.inl state))).symm.trans stops
  | parked => exact nomatch (running_of_state (.inr (.inr state))).symm.trans stops

theorem outputRefreshWork_running {s : State} (carrier : s.isCarrier = true) (running : s.running = true)
    (idle : s.station.state ≠ .active) : outputRefreshWork s = sendWord 0 (refreshHorizon (takePending s)) := by
  unfold outputRefreshWork
  rw [if_pos carrier]
  cases state : s.station.state with
  | listen | parked => rfl
  | active => exact absurd state idle
  | boot | configFault =>
    unfold State.running at running
    rw [state] at running
    exact nomatch running

theorem refreshHorizon_cells {s : State} (some : s.route.cells ≠ []) : refreshHorizon s = setHorizon (grantedHorizon s) s := by
  unfold refreshHorizon
  exact if_neg fun empty => some (List.isEmpty_iff.mp empty)

theorem refreshHorizon_empty {s : State} (none : s.route.cells = []) : refreshHorizon s = s := by
  unfold refreshHorizon
  rw [none]
  rfl

theorem refreshHorizon_authRest (s : State) : AuthRest s (refreshHorizon s) := by
  unfold refreshHorizon
  split
  · exact .of_auth rfl
  · exact ⟨rfl, rfl, id⟩

theorem refreshHorizon_light (s : State) : Inner s (refreshHorizon s) := by
  unfold refreshHorizon
  exact .ite (.refl s) (setHorizon_inner _ _)

/-- The word 0 of a refresh, and what stays of the authority block. -/
theorem refreshed_auth {s t : State} (rest : AuthRest s t) : (sendWord 0 t).auth.ceiling = s.auth.ceiling ∧
    (sendWord 0 t).auth.overrun = s.auth.overrun := by
  rw [sendWord_auth, rest.rest]
  exact ⟨rfl, by rw [rest.causes]⟩

theorem sendWord_isHeld (v z : Nat) (s : State) : isHeld (sendWord v s) z = isHeld s z :=
  isHeld_congr (by rw [sendWord_window]) z

theorem sendWord_grantedHorizon (v : Nat) (s : State) : grantedHorizon (sendWord v s) = grantedHorizon s :=
  grantedHorizon_congr (sendWord_inner v s).route (sendWord_inner v s).odo fun z => sendWord_isHeld v z s

theorem exec_ceilingWordComplete {s : State} {out : WordOut} (held : s.station.held = false) (line : s.auth.wordOut = some out) :
    exec .ceilingWordComplete s = .next (finish (wordComplete (s.reach out.endsAt))) := by
  show execCeilingWordComplete s = _
  unfold execCeilingWordComplete timedEvent
  rw [line]
  dsimp only [Option.map_some]
  rw [held]
  rfl

theorem wordComplete_eq {s : State} (carrier : s.isCarrier = true) : wordComplete s = { s with auth := { s.auth with
    wordOut := s.auth.pendingWord.map (fun v => wordOnLine v (s.now + 80)), pendingWord := none } } := by
  unfold wordComplete
  dsimp only
  cases s.auth.pendingWord with
  | none => rfl
  | some v =>
    dsimp only
    unfold sendWord
    rw [if_pos (show State.isCarrier { s with auth := { s.auth with wordOut := none, pendingWord := none } } = true from carrier)]
    rfl

/-- Settles O44. -/
theorem outputRefreshAndWords : Obligations.OutputRefreshAndWords := by
  unfold Obligations.OutputRefreshAndWords
  intro s held settled
  refine ⟨fun idle => ?_, fun carrier out line => ?_⟩
  · let r := nextOutput (s.reach s.auth.outputAt)
    have run : exec .outputRefresh s = .next (finish (outputRefreshWork r)) := exec_outputRefresh held idle
    cases is : s.isCarrier with
    | false =>
      rw [outputRefreshWork_fixed (s := r) is, finish_settled (s := r) settled] at run
      have table : tableKept s (finish r) := finish_tableKept rfl
      rw [finish_settled (s := r) settled] at table
      exact ⟨r, run, rfl, rfl, rfl, rfl, rfl, rfl, rfl, rfl, table, rfl, ⟨rfl, rfl, rfl, rfl, rfl⟩, nofun,
        fun _ => rfl, nofun, nofun⟩
    | true =>
      cases runs : s.running with
      | false =>
        rw [outputRefreshWork_stopped (s := r) is runs] at run
        have inner := sendWord_inner 0 r
        have rest := refreshed_auth (AuthRest.of_auth (s := r) rfl)
        refine ⟨_, run, ?_, ?_, ?_, ?_, ?_, ?_, ?_, ?_, finish_tableKept inner.table, finish_radioKept inner.radio,
          inner.finish_portKept, fun _ => ?_, nofun, nofun, fun _ _ => ⟨?_, ?_⟩⟩
        · rw [finish_now, inner.now]; rfl
        · rw [finish_auth, sendWord_auth]; rfl
        · rw [finish_auth, sendWord_auth]; rfl
        · rw [finish_station, inner.station]; rfl
        · rw [finish_route, inner.route]; rfl
        · rw [finish_odo, inner.odo]; rfl
        · rw [finish_auth]; exact rest.1
        · rw [finish_auth]; exact rest.2
        · exact wordSent_finish (r := r) rfl (wordSent_of (s := r) is rfl rfl inner.now)
        · rw [finish_window, sendWord_window]; rfl
        · rw [finish_auth, sendWord_auth]; rfl
      | true =>
        have inactive : r.station.state ≠ .active := fun active => idle ⟨is, active⟩
        rw [outputRefreshWork_running (s := r) is runs inactive] at run
        let m := refreshHorizon (takePending r)
        have inner : Inner (indexTaken r) m := (takePending_inner r).trans (refreshHorizon_light _)
        have whole : Inner (indexTaken r) (sendWord 0 m) := inner.trans (sendWord_inner 0 m)
        have authRest : AuthRest (indexTaken r) m := (takePending_authRest r).trans (refreshHorizon_authRest _)
        have rest := refreshed_auth authRest
        have auth := whole.auth
        have route : (takePending r).route = s.route := (takePending_inner r).route
        refine ⟨_, run, ?_, ?_, ?_, ?_, ?_, ?_, ?_, ?_, finish_tableKept whole.table, finish_radioKept whole.radio,
          whole.finish_portKept, fun _ => ?_, nofun, fun _ _ => ⟨?_, ?_, fun cells => ?_, fun none => ?_⟩, nofun⟩
        · rw [finish_now, whole.now]; rfl
        · rw [finish_auth, auth]; rfl
        · rw [finish_auth, auth]; rfl
        · rw [finish_station, whole.station]; rfl
        · rw [finish_route, whole.route]; rfl
        · rw [finish_odo, whole.odo]; rfl
        · rw [finish_auth]; exact rest.1
        · rw [finish_auth]; exact rest.2
        · have carrier : m.isCarrier = true := inner.isCarrier.trans is
          exact wordSent_finish (r := r) rfl (wordSent_of (s := m) carrier authRest.words rfl
            (whole.now.trans inner.now.symm))
        · rw [finish_auth, auth]; rfl
        · rw [finish_auth, auth]; rfl
        · have set : m = setHorizon (grantedHorizon (takePending r)) (takePending r) :=
            refreshHorizon_cells (by rw [route]; exact cells)
          rw [finish_auth, grantedHorizon_finish, sendWord_grantedHorizon, sendWord_auth]
          show m.auth.horizon = grantedHorizon m
          rw [set]
          rfl
        · have same : m = takePending r := refreshHorizon_empty (by rw [route]; exact none)
          have kept : m.auth = (indexTaken r).auth := by
            rw [same]
            exact takePending_empty (s := r) none
          rw [finish_auth, sendWord_auth]
          show m.auth.horizon = _
          rw [kept]
          rfl
  · have carrier' : (s.reach out.endsAt).isCarrier = true := carrier
    rw [exec_ceilingWordComplete held line, wordComplete_eq carrier']
    exact congrArg _ (finish_settled settled)

end Sys2Proof.Machine
end

section
/-! O18: UNPARK. -/

namespace Sys2Proof.Machine

-- One proof after another: many at a time want more threads than the memory limit of a build leaves.
set_option Elab.async false


/-! ### A placement within an event (R129, R133) -/

/-- A beacon may have started at a clear channel: the radio's fields that tell. -/
def MayStart (s t : State) : Prop :=
  (t.radio.seq = s.radio.seq ∧ t.radio.tx = s.radio.tx ∧ t.radio.rx = s.radio.rx ∧ t.radio.rxGap = s.radio.rxGap) ∨
    (s.radio.tx = none ∧ s.radio.slot = none ∧ Config.channelClear s.radio.samples = true ∧
      t.radio.seq = (s.radio.seq + 1) % 65536 ∧ t.radio.rx = .hunt ∧ t.radio.rxGap = none ∧
      ∃ x, t.radio.tx = some x ∧ x.phase = .sending ∧ x.endsAt = s.now + 2000 + (9 + 3 * x.content.length) * 250)

/-- The entries are as they were, but for what the frame on the air carries for them. -/
def AirOnly (s t : State) : Prop :=
  t.window.entries = s.window.entries ∨ t.window.entries = s.window.entries.map (fun e => { e with air := e.airNow })

theorem AirOnly.unmarked {s t : State} (h : AirOnly s t) :
    t.window.entries.map (fun e => { e with air := .none }) = s.window.entries.map (fun e => { e with air := .none }) := by
  obtain same | marked := h
  · rw [same]
  · rw [marked, List.map_map]
    rfl

/-- What a placement changes. -/
structure Places (s t : State) : Prop where
  frame : t = { s with
    window := { s.window with entries := t.window.entries }
    radio := { s.radio with
      placementOpen := false, gen := t.radio.gen, slot := t.radio.slot, samples := t.radio.samples, seq := t.radio.seq
      tx := t.radio.tx, rx := t.radio.rx, rxGap := t.radio.rxGap } }
  air : AirOnly s t
  starts : MayStart s t

/-- A scheduled beacon due at once, the channel-clear level sampled. -/
def dueFilled (due : Time) (s : State) : State := { s with radio := { s.radio with
  placementOpen := false, gen := stepGen s.radio.gen, slot := some ⟨.scheduled, due, 0, false⟩
  samples := s.radio.samples + 1 } }

theorem beaconDueNow_filled {due : Time} {s : State} (empty : s.radio.slot = none) :
    Places s (beaconDueNow (Config.channelClear s.radio.samples) (dueFilled due s)) := by
  cases key : (dueFilled due s).radio.tx with
  | some x =>
    rw [beaconDueNow_key (s := dueFilled due s) rfl (by rw [key]; rfl)]
    exact ⟨rfl, .inl rfl, .inl ⟨rfl, rfl, rfl, rfl⟩⟩
  | none =>
    cases clear : Config.channelClear s.radio.samples with
    | true =>
      rw [beaconDueNow_clear (s := dueFilled due s) rfl key]
      refine ⟨rfl, .inr rfl, .inr ⟨key, empty, clear, rfl, rfl, rfl, _, rfl, rfl, ?_⟩⟩
      show s.now + 2000 + (beaconNow (dueFilled due s)).frame.length * 250 = _
      rw [frame_length]
    | false =>
      rw [beaconDueNow_backoff (s := dueFilled due s) rfl key (show 0 < 5 by decide)]
      exact ⟨rfl, .inl rfl, .inl ⟨rfl, rfl, rfl, rfl⟩⟩

/-- A placement fills an empty slot, and a beacon due at once may start. -/
theorem placeScheduled_places (n : Time) (s : State) : Places s (placeScheduled n s) := by
  cases slot : s.radio.slot with
  | some b =>
    rw [placeScheduled_full (by rw [slot]; rfl)]
    exact ⟨rfl, .inl rfl, .inl ⟨rfl, rfl, rfl, rfl⟩⟩
  | none =>
    have placed := placeScheduled_empty (n := n) slot
    dsimp only at placed
    rw [placed]
    split
    · exact beaconDueNow_filled slot
    · exact ⟨rfl, .inl rfl, .inl ⟨rfl, rfl, rfl, rfl⟩⟩

/-! ### The schedule back at P (R128) -/

/-- The first multiple of the period after an instant. -/
theorem nextMultiple {now l p : Nat} (positive : 0 < p) (past : l ≤ now) :
    now < l + ((now - l) / p + 1) * p ∧ l + ((now - l) / p + 1) * p ≤ now + p := by
  have split := Nat.div_add_mod (now - l) p
  have small := Nat.mod_lt (now - l) positive
  have product : ((now - l) / p + 1) * p = p * ((now - l) / p) + p := by rw [Nat.add_mul, Nat.one_mul, Nat.mul_comm]
  omega

theorem period_positive (s : State) : 0 < s.period * 1000 := by
  unfold State.period periodMs
  split <;> decide

/-- What the move back to the spacing P changes. -/
structure Respaces (s t : State) : Prop where
  frame : t = { s with
    window := { s.window with entries := t.window.entries }
    radio := { s.radio with
      parkedSpacing := false, next := t.radio.next, placementOpen := t.radio.placementOpen, gen := t.radio.gen
      slot := t.radio.slot, samples := t.radio.samples, seq := t.radio.seq, tx := t.radio.tx, rx := t.radio.rx
      rxGap := t.radio.rxGap } }
  air : AirOnly s t
  starts : MayStart s t
  ahead : ∀ n, s.radio.last ≠ none → t.radio.next = some n → t.radio.placementOpen = true → s.now + s.period * 250 < n
  next : ∀ l, s.radio.last = some l → l ≤ s.now → ∃ n k, t.radio.next = some n ∧ 1 ≤ k ∧ n = l + k * (s.period * 1000) ∧
    s.now < n ∧ n ≤ s.now + s.period * 1000

/-- The schedule with its new nominal instant, its placement not yet made. -/
def respaced (l : Time) (s : State) : State :=
  let n := l + ((s.now - l) / (s.period * 1000) + 1) * (s.period * 1000)
  { s with radio := { s.radio with
    parkedSpacing := false, next := some n
    placementOpen := if s.radio.next = some n then s.radio.placementOpen else true } }

theorem unparkSchedule_some {s : State} {l : Time} (last : s.radio.last = some l) :
    unparkSchedule s = if (respaced l s).radio.placementOpen &&
        decide (l + ((s.now - l) / (s.period * 1000) + 1) * (s.period * 1000) - s.period * 250 ≤ s.now) then
      placeScheduled (l + ((s.now - l) / (s.period * 1000) + 1) * (s.period * 1000)) (respaced l s) else respaced l s := by
  unfold unparkSchedule
  rw [last]
  rfl

theorem unparkSchedule_none {s : State} (last : s.radio.last = none) :
    unparkSchedule s = { s with radio := { s.radio with parkedSpacing := false } } := by
  unfold unparkSchedule
  rw [last]

theorem unparkSchedule_respaces (s : State) : Respaces s (unparkSchedule s) := by
  cases last : s.radio.last with
  | none =>
    rw [unparkSchedule_none last]
    exact ⟨rfl, .inl rfl, .inl ⟨rfl, rfl, rfl, rfl⟩, fun _ some => absurd last some, fun l eq => nomatch last.symm.trans eq⟩
  | some l =>
    let n := l + ((s.now - l) / (s.period * 1000) + 1) * (s.period * 1000)
    have instants : ∀ l', s.radio.last = some l' → l' ≤ s.now → ∃ n' k, some n = some n' ∧ 1 ≤ k ∧
        n' = l' + k * (s.period * 1000) ∧ s.now < n' ∧ n' ≤ s.now + s.period * 1000 := fun l' eq past => by
      obtain rfl := Option.some.inj (last.symm.trans eq)
      exact ⟨n, _, rfl, Nat.succ_pos _, rfl, nextMultiple (period_positive s) past⟩
    rw [unparkSchedule_some last]
    split
    · obtain ⟨frame, air, starts⟩ := placeScheduled_places n (respaced l s)
      have next : (placeScheduled n (respaced l s)).radio.next = some n := by rw [frame]; rfl
      have shut : (placeScheduled n (respaced l s)).radio.placementOpen = false := by rw [frame]
      refine ⟨?_, air, starts, fun _ _ _ isOpen => absurd (shut.symm.trans isOpen) Bool.false_ne_true, fun l' eq past => ?_⟩
      · rw [frame]
        rfl
      · show ∃ n' k, (placeScheduled n (respaced l s)).radio.next = some n' ∧ _
        rw [next]
        exact instants l' eq past
    · rename_i waits
      refine ⟨rfl, .inl rfl, .inl ⟨rfl, rfl, rfl, rfl⟩, fun n' _ next isOpen => ?_, instants⟩
      obtain rfl := Option.some.inj next
      rw [isOpen, Bool.true_and, decide_eq_true_eq] at waits
      exact Nat.lt_of_not_le fun late => waits (Nat.sub_le_of_le_add late)

/-! ### UNPARK (R180) -/

theorem AirOnly.isHeld {s t : State} (h : AirOnly s t) (z : Nat) : Machine.isHeld t z = Machine.isHeld s z := by
  obtain same | marked := h
  · exact isHeld_congr same z
  · exact isHeld_map_same (f := fun e => { e with air := e.airNow }) (fun _ => rfl) (fun _ => rfl) marked z

theorem AirOnly.windowFits {s t : State} (h : AirOnly s t) (standing : t.window.standing = s.window.standing)
    (fits : Machine.windowFits s.window) : Machine.windowFits t.window := by
  obtain same | marked := h
  · unfold Machine.windowFits
    rw [same, standing]
    exact fits
  · exact windowFits_map (f := fun e => { e with air := e.airNow }) (fun _ => rfl) marked standing fits

/-- What entry into ACTIVE does on either class. -/
structure Entered (s t : State) : Prop where
  now : t.now = s.now
  station : t.station = { s.station with state := .active, listen := .stopped }
  route : t.route = s.route
  odo : t.odo = s.odo
  table : t.table = s.table
  radio : t.radio = { s.radio with gen := t.radio.gen, slot := t.radio.slot }
  output : t.auth.outputAt = s.now + 50000
  port : t.port = { s.port with
    reportPending := true, statusAt := some (s.now + 200000), notices := t.port.notices, dropped := t.port.dropped }

theorem enterActive_entered (s : State) : Entered s (enterActive s) := by
  cases is : s.isCarrier with
  | true =>
    have inner := enterActive_inner is
    exact ⟨inner.now, inner.station, inner.route, inner.odo, inner.table, inner.radio, by rw [inner.auth]; rfl, inner.port⟩
  | false =>
    rw [enterActive_fixed is]
    exact ⟨rfl, rfl, rfl, rfl, rfl, rfl, rfl, rfl⟩

theorem enterActive_held {s : State} (running : s.running = true) (fits : windowFits s.window) {z : Nat}
    (h : isHeld s z = true) : isHeld (enterActive s) z = true :=
  (enterActive_moves running).held_stays (by decide) fits h

theorem unparkHandler_parked {s : State} (parked : s.station.state = .parked) :
    unparkHandler s = (enterActive (unparkSchedule (changeState .active s)), .accept []) := by
  unfold unparkHandler
  rw [parked]
  rfl

theorem unparkHandler_other {s : State} (other : s.station.state ≠ .parked) : unparkHandler s = (s, refuse .badState) := by
  unfold unparkHandler
  rw [if_pos (by simpa using other)]

/-- Settles O18. -/
theorem unpark : Obligations.Unpark := by
  unfold Obligations.Unpark
  intro t s ready settled inv fits
  have eq : ∀ s, exec (.unpark t []) s = .next (outsideEvent t (takeCommand 8#8 (some 0) [] unparkHandler) s) := fun _ => rfl
  have length : ∀ n, some 0 = some n → ([] : List Byte).length = n := fun n h => by cases h; rfl
  refine ⟨fun other => turnsAway_of eq ready settled length (unparkHandler_other (s := received t s) other), fun parked => ?_⟩
  let m := changeState .active (received t s)
  let w := unparkSchedule m
  obtain ⟨frame, air, starts, ahead, next⟩ := unparkSchedule_respaces m
  have run : exec (.unpark t []) s = .next (finish (queueReply 8#8 (.accept []) (enterActive w))) := by
    rw [exec_ready eq ready length, unparkHandler_parked (s := received t s) parked]
  have station : w.station = m.station := by
    show (unparkSchedule m).station = _
    rw [frame]
  have port : w.port = m.port := by
    show (unparkSchedule m).port = _
    rw [frame]
  have auth : w.auth = s.auth := by
    show (unparkSchedule m).auth = _
    rw [frame]
    rfl
  have now : w.now = max s.now t := by
    show (unparkSchedule m).now = _
    rw [frame]
    rfl
  have route : w.route = s.route := by
    show (unparkSchedule m).route = _
    rw [frame]
    rfl
  have odo : w.odo = s.odo := by
    show (unparkSchedule m).odo = _
    rw [frame]
    rfl
  have table : w.table = s.table := by
    show (unparkSchedule m).table = _
    rw [frame]
    rfl
  have standing : w.window = { s.window with entries := w.window.entries } := by
    show (unparkSchedule m).window = _
    rw [frame]
    rfl
  have running : w.running = true := by
    unfold State.running
    rw [station]
    rfl
  have entered := enterActive_entered w
  have pending : (enterActive w).port.reportPending = true := by rw [entered.port]
  have radio : (enterActive w).radio = { s.radio with
      parkedSpacing := false, next := w.radio.next, placementOpen := w.radio.placementOpen, gen := (enterActive w).radio.gen
      slot := (enterActive w).radio.slot, samples := w.radio.samples, seq := w.radio.seq, tx := w.radio.tx
      rx := w.radio.rx, rxGap := w.radio.rxGap } := by
    rw [entered.radio]
    have respaced : w.radio = { s.radio with
        parkedSpacing := false, next := w.radio.next, placementOpen := w.radio.placementOpen, gen := w.radio.gen
        slot := w.radio.slot, samples := w.radio.samples, seq := w.radio.seq, tx := w.radio.tx, rx := w.radio.rx
        rxGap := w.radio.rxGap } := congrArg State.radio frame
    rw [respaced]
  refine ⟨_, run, ?_, ?_, ?_, ?_, ?_, ?_, finish_reports pending, finish_tableKept ?_, ?_, ?_, ?_, ?_, fun carrier => ?_,
    fun fixed => ?_, finish_answers ?_ ?_⟩
  · rw [finish_now]
    exact entered.now.trans now
  · rw [finish_station]
    refine entered.station.trans ?_
    rw [station]
    rfl
  · rw [finish_route]
    exact entered.route.trans route
  · rw [finish_odo]
    exact entered.odo.trans odo
  · rw [finish_auth]
    refine entered.output.trans ?_
    rw [now]
  · have status := (finish_portKept (s := queueReply 8#8 (.accept []) (enterActive w)) rfl rfl rfl rfl rfl).2.2.2.1
    rw [status]
    show (enterActive w).port.statusAt = _
    rw [entered.port, now]
  · exact entered.table.trans table
  · rw [finish_radio]
    show (enterActive w).radio = { s.radio with
      parkedSpacing := false, next := (enterActive w).radio.next, placementOpen := (enterActive w).radio.placementOpen
      gen := (enterActive w).radio.gen, slot := (enterActive w).radio.slot, samples := (enterActive w).radio.samples
      seq := (enterActive w).radio.seq, tx := (enterActive w).radio.tx, rx := (enterActive w).radio.rx
      rxGap := (enterActive w).radio.rxGap }
    rw [radio]
  · rw [finish_radio]
    show ((enterActive w).radio.seq = _ ∧ (enterActive w).radio.tx = _ ∧ (enterActive w).radio.rx = _ ∧
      (enterActive w).radio.rxGap = _) ∨ (_ ∧ _ ∧ _ ∧ (enterActive w).radio.seq = _ ∧ (enterActive w).radio.rx = _ ∧
        (enterActive w).radio.rxGap = _ ∧ ∃ x, (enterActive w).radio.tx = some x ∧ _)
    rw [radio]
    exact starts
  · intro n last next' isOpen
    rw [finish_radio] at next' isOpen
    change (enterActive w).radio.next = _ at next'
    change (enterActive w).radio.placementOpen = _ at isOpen
    rw [radio] at next' isOpen
    exact ahead n last next' isOpen
  · intro l last past
    rw [finish_radio]
    show ∃ n k, (enterActive w).radio.next = some n ∧ _
    rw [radio]
    exact next l last past
  · have carrier' : w.isCarrier = true := by
      rw [isCarrier_of_station station]
      exact carrier
    have inner := enterActive_inner carrier'
    have taken := inner.auth
    rw [finish_auth, profile_finish, grantedHorizon_finish]
    refine ⟨?_, ?_, enterActive_horizon carrier', enterActive_ceiling_le carrier' ?_, ?_, fun z h => ?_⟩
    · show (enterActive w).auth.active = _
      rw [taken]
      show w.auth.pendingIx.getD w.auth.active = _
      rw [auth]
    · show (enterActive w).auth.pendingIx = _
      rw [taken]
      rfl
    · rw [auth]
      exact inv.1.1.trans (inv.1.2.2.2.2.1 (by rw [parked]; decide))
    · refine wordSent_finish (r := w) ?_ (enterActive_wordSent carrier')
      unfold State.words
      rw [auth]
    · rw [isHeld_finish]
      refine enterActive_held running ?_ ?_
      · exact air.windowFits (s := m) (by show (unparkSchedule m).window.standing = _; rw [frame]) fits
      · exact (air.isHeld z).trans h
  · have fixed' : w.isCarrier = false := by
      rw [isCarrier_of_station station]
      exact fixed
    rw [finish_window, finish_auth, show queueReply 8#8 (.accept []) (enterActive w) =
      queueReply 8#8 (.accept []) (activeBase w) by rw [enterActive_fixed fixed']]
    refine ⟨standing, air.unmarked, ?_⟩
    show { w.auth with outputAt := w.now + 50000 } = _
    rw [auth, now]
  · rw [entered.port, port]
    rfl
  · rw [entered.port, port]
    rfl

end Sys2Proof.Machine
end

section
/-! O21 and O37: the immediate recompute, and what gives a HELD entry up. -/

namespace Sys2Proof.Machine

-- One proof after another: many at a time want more threads than the memory limit of a build leaves.
set_option Elab.async false


/-! ### Entries of zones that OVERRUN does not take -/

theorem occupantClaim_passed {s₀ s : State} {y z : Nat} (inner : Inner s₀ s) (differ : (windowZones s).Nodup) (other : y ≠ z) :
    PassedAt s₀ y s (occupantClaim z s) := by
  cases found : findEntry z s with
  | none =>
    have absent : findEntry (entryFor z s.route.cells).occupy.zone s = none := by
      rw [occupy_entryFor_zone]
      exact found
    cases room : windowHasRoom s with
    | true =>
      rw [occupantClaim_new found room]
      have added : findEntry y (addEntry (entryFor z s.route.cells).occupy s) = findEntry y s :=
        findEntry_addEntry_ne differ absent (by rw [occupy_entryFor_zone]; exact other)
      exact (PassedAt.of_eq added).trans
        (occupantHeld_passed (inner.trans (addEntry_inner _ _)) (windowZones_added differ absent) z y)
    | false =>
      rw [occupantClaim_full found room]
      exact .of_eq (findEntry_congr (holdBack_entries z s))
  | some e =>
    by_cases held : e.state = .held
    · rw [occupantClaim_held found held]
      exact .of_eq (findEntry_modifyEntry_ne commit_zone other s)
    · rw [occupantClaim_found found held]
      refine (PassedAt.of_eq (findEntry_modifyEntry_ne occupy_zone other s)).trans
        (occupantHeld_passed (inner.trans (modifyEntry_inner _ _ _)) ?_ z y)
      rw [modifyEntry_zones occupy_zone]
      exact differ

theorem occupantClaims_passed {s₀ : State} {y : Nat} : ∀ {zs : List Nat} {s : State} (_ : stopped s)
    (_ : ∀ z ∈ zs, isNeeded z s.route.cells = true) (_ : s.isCarrier = true) (_ : windowFits s.window) (_ : Inner s₀ s)
    (_ : y ∉ zs), PassedAt s₀ y s (zs.foldl (fun s z => occupantClaim z s) s)
  | [], _, _, _, _, _, _, _ => .of_eq rfl
  | z :: zs, s, stop, needed, carrier, fits, inner, other => by
    have first := occupantClaim_moves stop (needed z List.mem_cons_self) carrier
    have step := first.inner (by decide)
    have apart : y ≠ z := fun eq => other (by rw [eq]; exact List.mem_cons_self)
    have here := occupantClaim_passed inner fits.2.1 apart
    exact here.trans (occupantClaims_passed (occupantClaim_stopped stop)
      (fun x hx => by rw [step.route]; exact needed x (List.mem_cons_of_mem z hx))
      (by rw [step.isCarrier]; exact carrier) (first.windowFits fits) (inner.trans step)
      fun h => other (List.mem_cons_of_mem z h))

theorem overrunNoted_window (s : State) : (overrunNoted s).window = s.window := by
  unfold overrunNoted
  rw [raiseNotice_window, overrunCause_window]

theorem overrunTest_passed {s : State} {y : Nat} (fits : windowFits s.window) (away : y ∉ frontZones s) :
    PassedAt s y s (overrunTest s) := by
  rw [overrunTest_eq]
  split
  · rename_i guard
    obtain ⟨carrier, -⟩ := guard
    have inner := overrunNoted_inner s
    have noted : PassedAt s y s (overrunNoted s) := .of_eq (findEntry_congr (by rw [overrunNoted_window]))
    refine noted.trans (occupantClaims_passed (overrunNoted_stopped s)
      (fun x hx => by rw [inner.route]; exact frontZones_needed hx) (by rw [inner.isCarrier]; exact carrier)
      (by rw [overrunNoted_window]; exact fits) inner away)
  · exact .of_eq rfl

/-! ### The immediate recompute (R108) -/

/-- The ceiling of a recompute (R118). -/
def recomputeValue (s : State) : Nat := if s.auth.causes.any then 0 else min (rawCeiling s) s.auth.previous

theorem recomputeCeiling_eq (s : State) : recomputeCeiling s =
    if recomputeValue (overrunTest s) < (overrunTest s).auth.ceiling then
      sendWord (recomputeValue (overrunTest s)) (setCeiling (recomputeValue (overrunTest s)) (overrunTest s))
    else overrunTest s := rfl

/-- The ceiling step of a recompute falls, or rests. -/
theorem recomputeCeiling_cases (s : State) : recomputeCeiling s = overrunTest s ∨
    ∃ c, c < (overrunTest s).auth.ceiling ∧ recomputeCeiling s = sendWord c (setCeiling c (overrunTest s)) := by
  rw [recomputeCeiling_eq]
  split
  · rename_i falls
    exact .inr ⟨_, falls, rfl⟩
  · exact .inl rfl

theorem recomputeCeiling_window (s : State) : (recomputeCeiling s).window = (overrunTest s).window := by
  obtain eq | ⟨c, -, eq⟩ := recomputeCeiling_cases s
  · rw [eq]
  · rw [eq, sendWord_window]
    rfl

theorem overrunTest_ceiling_le (s : State) : (overrunTest s).auth.ceiling ≤ s.auth.ceiling := by
  rw [overrunTest_eq]
  split
  · rename_i guard
    obtain ⟨carrier, -⟩ := guard
    show (overrunTaken s).auth.ceiling ≤ _
    rw [(overrunTaken_authRest carrier).rest]
    show (overrunCause s).auth.ceiling ≤ _
    unfold overrunCause
    split
    · exact Nat.le_refl _
    · rw [dropCeiling_zero]
      exact Nat.zero_le _
  · exact Nat.le_refl _

theorem recomputeCeiling_ceiling_le (s : State) : (recomputeCeiling s).auth.ceiling ≤ s.auth.ceiling := by
  refine Nat.le_trans ?_ (overrunTest_ceiling_le s)
  obtain eq | ⟨c, falls, eq⟩ := recomputeCeiling_cases s
  · exact Nat.le_of_eq (by rw [eq])
  · rw [eq, (sendWord_ceiling c _).1]
    exact Nat.le_of_lt falls

theorem immediateRecompute_ceiling_le (s : State) : (immediateRecompute s).auth.ceiling ≤ s.auth.ceiling := by
  rw [immediateRecompute_eq]
  split
  · exact Nat.le_trans (recomputeCeiling_ceiling_le _) (Nat.le_of_eq (giveWay_ceiling s).1)
  · exact Nat.le_of_eq (giveWay_ceiling s).1

theorem giveWay_passed (s₀ s : State) (y : Nat) : PassedAt s₀ y s (giveWay s) := .of_eq (findEntry_congr (by rw [giveWay_window]))

theorem frontZones_congr {s t : State} (route : t.route = s.route) (odo : t.odo = s.odo) : frontZones t = frontZones s := by
  unfold frontZones frontCell State.front State.s
  rw [route, odo]

theorem immediateRecompute_passed {s : State} {y : Nat} (fits : windowFits s.window) (away : y ∉ frontZones s) :
    PassedAt (giveWay s) y s (immediateRecompute s) := by
  have first : PassedAt (giveWay s) y s (giveWay s) := giveWay_passed _ s y
  rw [immediateRecompute_eq]
  split
  · have inner := giveWay_inner s
    have tested : PassedAt (giveWay s) y (giveWay s) (overrunTest (giveWay s)) :=
      overrunTest_passed (by rw [giveWay_window]; exact fits) (by rw [frontZones_congr inner.route inner.odo]; exact away)
    have last : PassedAt (giveWay s) y (overrunTest (giveWay s)) (recomputeCeiling (giveWay s)) :=
      .of_eq (findEntry_congr (by rw [recomputeCeiling_window]))
    exact (first.trans tested).trans last
  · exact first

theorem immediateRecompute_held {s : State} (fits : windowFits s.window) {z : Nat} (h : isHeld s z = true) :
    isHeld (immediateRecompute s) z = true := (immediateRecompute_moves s).held_stays (by decide) fits h

theorem recomputeF_inner : ∀ f ∈ recomputeF, f ∈ innerF := by decide

theorem Moves.radio_asked {F : List Flag} (kind : ∀ f ∈ F, f ∈ innerF) {s t : State} (m : Moves F s t) (asked : Asked s) :
    t.radio = s.radio := by
  obtain same | ⟨same, -⟩ := m.radio kind
  · exact same
  · rw [same, urgentRequest_asked asked]

theorem immediateRecompute_radio {s : State} (asked : Asked s) : (immediateRecompute s).radio = s.radio :=
  (immediateRecompute_moves s).radio_asked recomputeF_inner asked

theorem overrunTest_same {s : State} (same : (overrunTest s).auth.overrun = s.auth.overrun) : overrunTest s = s := by
  rw [overrunTest_eq] at same ⊢
  split at same
  · rename_i guard
    obtain ⟨carrier, -, absent, -⟩ := guard
    rw [raiseOverrun_overrun carrier, absent] at same
    exact nomatch same
  · rename_i rests
    exact if_neg rests

/-- A recompute that raises no OVERRUN leaves the smaller of the stored horizon and the one of the window. -/
theorem immediateRecompute_horizon {s : State} (carrier : s.isCarrier = true)
    (same : (immediateRecompute s).auth.overrun = s.auth.overrun) :
    (immediateRecompute s).auth.horizon = min s.auth.horizon (grantedHorizon (immediateRecompute s)) := by
  have way : giveWay s = lowerHorizon s := by
    unfold giveWay
    exact if_pos carrier
  have kept : ∀ t, t = giveWay s ∨ (∃ c, t = sendWord c (setCeiling c (giveWay s))) →
      t.auth.horizon = min s.auth.horizon (grantedHorizon t) := by
    rintro t (rfl | ⟨c, rfl⟩)
    · rw [way]
      rfl
    · rw [sendWord_grantedHorizon, sendWord_horizon, way]
      rfl
  refine kept _ ?_
  rw [immediateRecompute_eq] at same ⊢
  split at same
  · rename_i active
    rw [if_pos active]
    have overrun : (overrunTest (giveWay s)).auth.overrun = (giveWay s).auth.overrun := by
      have back : (giveWay s).auth.overrun = s.auth.overrun := by
        rw [way]
        rfl
      rw [back, ← same]
      obtain eq | ⟨c, -, eq⟩ := recomputeCeiling_cases (giveWay s)
      · rw [eq]
      · rw [eq, sendWord_overrun]
        rfl
    have rests := overrunTest_same overrun
    obtain eq | ⟨c, -, eq⟩ := recomputeCeiling_cases (giveWay s)
    · exact .inl (eq.trans rests)
    · rw [rests] at eq
      exact .inr ⟨c, eq⟩
  · rename_i idle
    rw [if_neg idle]
    exact .inl rfl

/-! ### YIELD_ZONE (R41) -/

/-- The front cell stands at its position. -/
theorem frontCell_at {s : State} {c : StoredCell} (cell : frontCell s = some c) :
    0 < s.front ∧ ∃ inside : s.front - 1 < s.route.cells.length, s.route.cells[s.front - 1] = c := by
  unfold frontCell at cell
  rw [List.head?_drop] at cell
  obtain ⟨inside, eq⟩ := List.getElem?_eq_some_iff.mp cell
  refine ⟨?_, inside, eq⟩
  unfold State.front frontPosition
  split
  · exact Nat.succ_pos _
  · split
    · exact Nat.lt_min.mpr ⟨Nat.one_pos, by omega⟩
    · omega

theorem mem_frontZones {s : State} {z : Nat} : z ∈ frontZones s ↔ ∃ c, frontCell s = some c ∧ z ∈ c.cell.zones := by
  unfold frontZones
  cases frontCell s with
  | none => simp
  | some c => simp

/-- The front cell is occupied (R5). -/
theorem frontZones_occupied {s : State} {z : Nat} (front : z ∈ frontZones s) : isOccupied s z = true := by
  obtain ⟨c, cell, zone⟩ := mem_frontZones.mp front
  obtain ⟨positive, inside, eq⟩ := frontCell_at cell
  refine List.any_eq_true.mpr ⟨c, List.mem_take_iff_getElem.mpr ⟨s.front - 1, ?_, eq⟩, by simpa using zone⟩
  omega

/-- A HELD entry given up, up to its recompute. -/
def givenUp (z : Nat) (s : State) : State := raiseNotice (.doubleHold z 0) (urgentRequest (modifyEntry z ClaimEntry.release s))

theorem yieldAtCommand_eq (z : Nat) (s : State) : yieldAtCommand z s = immediateRecompute (givenUp z s) := rfl

theorem givenUp_window (z : Nat) (s : State) : (givenUp z s).window = (modifyEntry z ClaimEntry.release s).window := by
  unfold givenUp
  rw [raiseNotice_window, urgentRequest_window]

theorem givenUp_auth (z : Nat) (s : State) : (givenUp z s).auth = s.auth := by
  unfold givenUp
  rw [raiseNotice_auth, urgentRequest_auth]
  rfl

theorem givenUp_radio (z : Nat) (s : State) : (givenUp z s).radio = (urgentRequest s).radio := by
  unfold givenUp
  rw [raiseNotice_radio]
  exact urgentRequest_radio_congr rfl rfl rfl

theorem givenUp_inner (z : Nat) (s : State) : Inner s (givenUp z s) :=
  (modifyEntry_inner _ _ _).trans ((urgentRequest_inner _).trans (raiseNotice_inner _ _))

theorem givenUp_asked (z : Nat) (s : State) : Asked (givenUp z s) := by
  have inner := raiseNotice_inner (.doubleHold z 0) (urgentRequest (modifyEntry z ClaimEntry.release s))
  exact (asked_urgentRequest _).congr inner.now inner.station (raiseNotice_radio _ _)

theorem urgentRequest_port (s : State) : (urgentRequest s).port = s.port := by
  rw [urgentRequest_eq]
  rfl

theorem isHeld_modifyEntry_ne {y z : Nat} {f : ClaimEntry → ClaimEntry} (zone : KeepsZone f) {s : State} (other : y ≠ z) :
    isHeld (modifyEntry z f s) y = isHeld s y := by
  unfold isHeld modifyEntry updateEntry
  rw [List.any_map]
  refine congrArg (fun p => s.window.entries.any p) (funext fun e => ?_)
  show ((if e.zone == z then f e else e).zone == y && _) = _
  by_cases is : e.zone = z
  · have away : (z == y) = false := beq_eq_false_iff_ne.mpr (Ne.symm other)
    simp [is, zone e, away]
  · simp [is]

end Sys2Proof.Machine
end

section
/-! O21 and O37. -/

namespace Sys2Proof.Machine

-- One proof after another: many at a time want more threads than the memory limit of a build leaves.
set_option Elab.async false


theorem noticed_of_inner {n : Notice} {s t : State} (inner : Inner s t) (member : n ∈ s.port.notices) : n ∈ t.port.notices :=
  inner.notices.subset member

theorem finish_queueReply_portKept {kind : Byte} {a : Answer} {s v : State} (inner : Inner s v) :
    portKept s (finish (queueReply kind a v)) := by
  have inbound : v.port.inbound = s.port.inbound := by rw [inner.port]
  have gap : v.port.inGap = s.port.inGap := by rw [inner.port]
  have restart : v.port.restartPending = s.port.restartPending := by rw [inner.port]
  have status : v.port.statusAt = s.port.statusAt := by rw [inner.port]
  have counters : v.port.counters = s.port.counters := by rw [inner.port]
  exact finish_portKept inbound gap restart status counters

theorem finish_queueReply_profilesKept {kind : Byte} {a : Answer} {s v : State} (inner : Inner s v) :
    profilesKept s (finish (queueReply kind a v)) := by
  have kept := Inner.profilesKept inner
  unfold Machine.profilesKept at kept ⊢
  rw [finish_auth]
  exact kept

theorem yieldZoneHandler_own {hi lo : Byte} {s : State} (running : s.running = true) (carrier : s.isCarrier = true) :
    yieldZoneHandler [hi, lo] s = match findEntry (word16 hi lo) s with
      | none => (s, refuse .unknownZone)
      | some e => match e.state with
        | .held => if isOccupied s (word16 hi lo) then (s, refuse .occupied) else (yieldAtCommand (word16 hi lo) s, .accept [])
        | .queued | .announced | .waiting => (s, refuse .notGranted)
        | .releasing => (s, .accept []) :=
  classHandler_own (s := s) running (cls_of_carrier carrier)

/-- A HELD entry given up keeps its place through the recompute when no occupied cell names its zone. -/
theorem yieldAtCommand_self {s : State} {z : Nat} {e : ClaimEntry} (fits : windowFits s.window)
    (found : findEntry z s = some e) (free : isOccupied s z = false) : findEntry z (yieldAtCommand z s) = some e.release := by
  have released : findEntry z (givenUp z s) = some e.release := by
    have modified : findEntry z (modifyEntry z ClaimEntry.release s) = some e.release := by
      rw [findEntry_modifyEntry release_zone, found]
      rfl
    exact (findEntry_congr (by rw [givenUp_window])).trans modified
  have inner := givenUp_inner z s
  have fits' : windowFits (givenUp z s).window := by
    rw [givenUp_window]
    exact modifyEntry_windowFits release_zone fits
  rw [yieldAtCommand_eq]
  refine (immediateRecompute_passed fits' fun front => ?_).stays released (.inl nofun)
  rw [frontZones_congr inner.route inner.odo] at front
  exact absurd (frontZones_occupied front) (by rw [free]; exact Bool.false_ne_true)

/-- Settles O21: YIELD_ZONE. -/
theorem yieldZone : Obligations.YieldZone := by
  intro t hi lo s ready settled fits _ z away
  have eq : ∀ s, exec (.yieldZone t [hi, lo]) s =
      .next (outsideEvent t (takeCommand 0x0A#8 (some 2) [hi, lo] (yieldZoneHandler [hi, lo])) s) := fun _ => rfl
  have length : ∀ n, some 2 = some n → [hi, lo].length = n := fun n h => by cases h; rfl
  have refuses {code : RefuseCode}
      (refused : yieldZoneHandler [hi, lo] (received t s) = (received t s, .refuse code [])) : away code :=
    turnsAway_of eq ready settled length refused
  refine ⟨fun stops => refuses (classHandler_stopped stops), fun running fixed => refuses (classHandler_other running ?_),
    fun running carrier => ⟨fun absent => refuses ?_, fun e member zone => ?_⟩⟩
  · simp [cls_of_fixed fixed]
  · rw [yieldZoneHandler_own (s := received t s) running carrier,
      show findEntry (word16 hi lo) (received t s) = none from Walked.absent_of (s := received t s) absent]
    rfl
  have found : findEntry (word16 hi lo) (received t s) = some e := by
    have here := findEntry_of_mem (s := received t s) fits.2.1 member
    rw [zone] at here
    exact here
  have own := yieldZoneHandler_own (hi := hi) (lo := lo) (s := received t s) running carrier
  rw [found] at own
  dsimp only at own
  refine ⟨fun held occupied => refuses ?_, fun unheld => refuses ?_, fun releasing => ?_, fun held free => ?_⟩
  · rw [own, held]
    exact if_pos occupied
  · rw [own]
    unfold ClaimEntry.unheld at unheld
    cases state : e.state with
    | queued | announced | waiting => rfl
    | held | releasing =>
      rw [state] at unheld
      exact nomatch unheld
  · refine exec_answered (v := received t s) eq ready length ?_ settled.1 settled.2.2 fun out => (settled.2.1 out).1
    rw [own, releasing]
  · have free' : ¬isOccupied (received t s) (word16 hi lo) = true := by
      rw [show isOccupied (received t s) (word16 hi lo) = false from free]
      exact Bool.false_ne_true
    rw [held] at own
    dsimp only at own
    rw [if_neg free'] at own
    let b := givenUp z (received t s)
    let v := yieldAtCommand z (received t s)
    have run : exec (.yieldZone t [hi, lo]) s = .next (finish (queueReply 0x0A#8 (.accept []) v)) := by
      rw [exec_ready eq ready length, own]
      rfl
    have before : Inner (received t s) b := givenUp_inner z (received t s)
    have after : Inner b v := immediateRecompute_inner b
    have inner : Inner (received t s) v := before.trans after
    have carrier' : b.isCarrier = true := before.isCarrier.trans carrier
    have entry : findEntry z v = some e.release := yieldAtCommand_self (s := received t s) fits found free
    refine ⟨_, run, ?_, ?_, ?_, ?_, ?_, fun y other heldY => ?_, ?_, finish_noticeGiven fun room => ?_, ?_, fun same => ?_,
      finish_queueReply_profilesKept (s := received t s) inner, finish_tableKept inner.table, finish_queueReply_portKept inner,
      finish_answers ?_ ?_⟩
    · rw [finish_now]
      exact inner.now
    · rw [finish_station]
      exact inner.station
    · rw [finish_route]
      exact inner.route
    · rw [finish_odo]
      exact inner.odo
    · rw [finish_window]
      exact findEntry_mem entry
    · rw [isHeld_finish]
      refine immediateRecompute_held (s := b) ?_ ?_
      · rw [givenUp_window]
        exact modifyEntry_windowFits release_zone fits
      · rw [isHeld_congr (s := modifyEntry z ClaimEntry.release (received t s)) (by rw [givenUp_window]),
          isHeld_modifyEntry_ne release_zone other]
        exact heldY
    · rw [finish_radio]
      exact (immediateRecompute_radio (givenUp_asked z _)).trans ((givenUp_radio z _).trans
        (urgentRequest_radio_congr rfl rfl rfl))
    · show _ ∈ v.port.notices
      refine noticed_of_inner after (raiseNotice_mem ?_)
      rw [urgentRequest_port]
      exact room
    · rw [finish_auth]
      refine Nat.le_trans (immediateRecompute_ceiling_le b) ?_
      rw [givenUp_auth]
      exact Nat.le_refl _
    · rw [finish_auth] at same ⊢
      rw [grantedHorizon_finish]
      have auth : b.auth = s.auth := givenUp_auth z (received t s)
      have lowered := immediateRecompute_horizon carrier' (by rw [auth]; exact same)
      rw [auth] at lowered
      exact lowered
    · show v.port.out = _
      rw [inner.port]
      rfl
    · show v.port.replies = _
      rw [inner.port]
      rfl

/-! ### The double-hold test (R72) -/

/-- An entry of the front cell's zone passes the commit test. -/
theorem commitPasses_front {s : State} {z : Nat} {e : ClaimEntry} (first : e.first = firstNeeding z s.route.cells)
    (front : z ∈ frontZones s) : commitPasses s e = true := by
  obtain ⟨c, cell, zone⟩ := mem_frontZones.mp front
  obtain ⟨positive, inside, eq⟩ := frontCell_at cell
  have needs : StoredCell.needs z s.route.cells[s.front - 1] = true := by
    rw [eq]
    unfold StoredCell.needs
    simpa using zone
  obtain ⟨i, found⟩ : ∃ i, s.route.cells.findIdx? (StoredCell.needs z) = some i := by
    cases none : s.route.cells.findIdx? (StoredCell.needs z) with
    | some i => exact ⟨i, rfl⟩
    | none =>
      rw [List.findIdx?_eq_none_iff] at none
      exact absurd needs (by rw [none _ (List.getElem_mem inside)]; exact Bool.false_ne_true)
  have early : i ≤ s.front - 1 := by
    obtain ⟨bound, -, before⟩ := List.findIdx?_eq_some_iff_getElem.mp found
    refine Classical.byContradiction fun late => ?_
    exact before (s.front - 1) (by omega) needs
  unfold commitPasses
  rw [first]
  unfold firstNeeding
  rw [found]
  show (decide (i + 1 ≤ s.front) || _) = true
  rw [decide_eq_true (by omega : i + 1 ≤ s.front), Bool.true_or]

/-- A peer stands in the record of a zone. -/
def Recorded (z n : Nat) (s : State) : Prop := ∃ r ∈ s.window.conflicts, r.zone = z ∧ n ∈ r.peers

theorem addConflictPeer_keeps {z n y m : Nat} {rs : List ConflictRecord} (recorded : ∃ r ∈ rs, r.zone = z ∧ n ∈ r.peers) :
    ∃ r ∈ addConflictPeer y m rs, r.zone = z ∧ n ∈ r.peers := by
  obtain ⟨r, member, zone, peer⟩ := recorded
  refine ⟨_, List.mem_map_of_mem member, ?_⟩
  split
  · exact ⟨zone, List.mem_append_left _ peer⟩
  · exact ⟨zone, peer⟩

theorem conflictRecords_keeps {z n y m : Nat} {rs : List ConflictRecord} (recorded : ∃ r ∈ rs, r.zone = z ∧ n ∈ r.peers) :
    ∃ r ∈ (conflictRecords y m rs).1, r.zone = z ∧ n ∈ r.peers := by
  unfold conflictRecords
  split
  · split
    · exact recorded
    · split
      · exact addConflictPeer_keeps recorded
      · exact recorded
  · split
    · obtain ⟨r, member, rest⟩ := recorded
      exact ⟨r, List.mem_append_left _ member, rest⟩
    · exact recorded

theorem recordConflict_conflicts (z n : Nat) (s : State) :
    (recordConflict z n s).window.conflicts = (conflictRecords z n s.window.conflicts).1 := by
  rw [recordConflict_eq]
  split
  · rw [raiseNotice_window]
    rfl
  · rfl

theorem Move.recorded {f : Flag} {s t : State} (m : Move f s t) (kind : f = .free ∨ f ∈ recomputeF) {z n : Nat}
    (recorded : Recorded z n s) : Recorded z n t := by
  by_cases same : f ∈ [Flag.conflict, .overrun]
  · cases m with
    | conflict y m =>
      unfold Recorded
      rw [recordConflict_conflicts]
      exact conflictRecords_keeps recorded
    | overrun =>
      unfold Recorded
      rw [overrunCause_window]
      exact recorded
    | _ => exact absurd same (by decide)
  · unfold Recorded
    rw [(m.causesSame ?_).conflicts]
    · exact recorded
    · revert kind same
      cases f <;> decide

theorem Moves.recorded {s t : State} (m : Moves recomputeF s t) {z n : Nat} (recorded : Recorded z n s) : Recorded z n t :=
  m.keeps (I := Recorded z n) (fun _ _ _ member move before => move.recorded member before) recorded

theorem Move.conflict_stays {f : Flag} {s t : State} (m : Move f s t) (kind : f = .free ∨ f ∈ recomputeF)
    (stands : s.auth.causes.conflict = true) : t.auth.causes.conflict = true := by
  by_cases same : f ∈ [Flag.conflict, .overrun]
  · cases m with
    | conflict y m => exact recordConflict_cause y m s
    | overrun =>
      rw [overrunCause_causes]
      exact stands
    | _ => exact absurd same (by decide)
  · rw [(m.causesSame ?_).causes]
    · exact stands
    · revert kind same
      cases f <;> decide

theorem Moves.conflict_stays {s t : State} (m : Moves recomputeF s t) (stands : s.auth.causes.conflict = true) :
    t.auth.causes.conflict = true :=
  m.keeps (I := fun t => t.auth.causes.conflict = true) (fun _ _ _ member move before => move.conflict_stays member before) stands

/-- The record a new conflict leaves, where a place is left. -/
theorem recordConflict_records {z n : Nat} {s : State} (new : ∀ r ∈ s.window.conflicts, r.zone ≠ z)
    (room : s.window.conflicts.length < 8) : Recorded z n (recordConflict z n s) := by
  have none : s.window.conflicts.find? (fun r => r.zone == z) = .none :=
    List.find?_eq_none.mpr fun r member => by simpa using new r member
  unfold Recorded
  rw [recordConflict_conflicts]
  unfold conflictRecords
  rw [none]
  dsimp only
  rw [if_pos (show s.window.conflicts.length < maxConflicts from room)]
  exact ⟨_, List.mem_append_right _ List.mem_cons_self, rfl, List.mem_cons_self⟩

theorem recordConflict_notice {z n : Nat} {s : State} (new : ∀ r ∈ s.window.conflicts, r.zone = z → n ∉ r.peers)
    (room : s.port.notices.length < 16) : .conflict z n ∈ (recordConflict z n s).port.notices := by
  have given : (conflictRecords z n s.window.conflicts).2 = true := by
    unfold conflictRecords
    split
    · rename_i r found
      have zone : r.zone = z := by simpa using List.find?_some found
      rw [if_neg (by simpa using new r (List.mem_of_find?_eq_some found) zone)]
      split <;> rfl
    · split <;> rfl
  rw [recordConflict_eq, if_pos given]
  exact raiseNotice_mem room

/-- Occupant claims leave an entry that is HELD and committed. -/
theorem occupantClaims_committed {z : Nat} {e : ClaimEntry} (held : e.state = .held) (committed : e.committed = true) :
    ∀ {zs : List Nat} {t : State} (_ : stopped t) (_ : ∀ z ∈ zs, isNeeded z t.route.cells = true)
      (_ : t.isCarrier = true) (_ : windowFits t.window) (_ : findEntry z t = some e),
      findEntry z (zs.foldl (fun s z => occupantClaim z s) t) = some e
  | [], _, _, _, _, _, found => found
  | y :: ys, t, stop, needed, carrier, fits, found => by
    have first := occupantClaim_moves stop (needed y List.mem_cons_self) carrier
    have inner := first.inner (by decide)
    exact occupantClaims_committed held committed (zs := ys) (t := occupantClaim y t) (occupantClaim_stopped stop)
      (fun x hx => by rw [inner.route]; exact needed x (List.mem_cons_of_mem y hx))
      (by rw [inner.isCarrier]; exact carrier) (first.windowFits fits) (occupantClaim_other fits.2.1 found held committed)

theorem overrunTest_committed {s : State} {z : Nat} {e : ClaimEntry} (fits : windowFits s.window)
    (found : findEntry z s = some e) (held : e.state = .held) (committed : e.committed = true) :
    findEntry z (overrunTest s) = some e := by
  rw [overrunTest_eq]
  split
  · rename_i guard
    obtain ⟨carrier, -⟩ := guard
    have inner := overrunNoted_inner s
    exact occupantClaims_committed held committed (t := overrunNoted s) (overrunNoted_stopped s)
      (fun x hx => by rw [inner.route]; exact frontZones_needed hx)
      (by rw [inner.isCarrier]; exact carrier) (by rw [overrunNoted_window]; exact fits)
      ((findEntry_congr (by rw [overrunNoted_window])).trans found)
  · exact found

theorem immediateRecompute_committed {s : State} {z : Nat} {e : ClaimEntry} (fits : windowFits s.window)
    (found : findEntry z s = some e) (held : e.state = .held) (committed : e.committed = true) :
    findEntry z (immediateRecompute s) = some e := by
  have before : findEntry z (giveWay s) = some e := (findEntry_congr (by rw [giveWay_window])).trans found
  rw [immediateRecompute_eq]
  split
  · rw [findEntry_congr (s := overrunTest (giveWay s)) (by rw [recomputeCeiling_window])]
    exact overrunTest_committed (by rw [giveWay_window]; exact fits) before held committed
  · exact before

end Sys2Proof.Machine
end

section
/-! O37: the double-hold test. -/

namespace Sys2Proof.Machine

-- One proof after another: many at a time want more threads than the memory limit of a build leaves.
set_option Elab.async false


section
variable {s : State} {z n : Nat} {c : Claim} {e : ClaimEntry}

/-- The mark of an own HELD entry once its commit test is made. -/
def ownMark (s : State) (e : ClaimEntry) : Bool := e.committed || (s.isCarrier && commitPasses s e)

theorem commitTest_marked (found : findEntry z s = some e) (held : e.state = .held) :
    findEntry z (commitTest z s) = some { e with committed := ownMark s e } := by
  rw [commitTest_self found]
  unfold ownMark
  split
  · rename_i guard
    obtain ⟨carrier, -, passes⟩ := guard
    rw [carrier, passes, Bool.and_true, Bool.or_true]
    rfl
  · rename_i guard
    have rests : (s.isCarrier && commitPasses s e) = false :=
      Bool.of_not_eq_true fun h => guard ⟨(Bool.and_eq_true_iff.mp h).1, held, (Bool.and_eq_true_iff.mp h).2⟩
    rw [rests, Bool.or_false]

/-- An unmarked entry that does not pass leaves the test as it was. -/
theorem commitTest_still (found : findEntry z s = some e) (unmarked : ownMark s e = false) : commitTest z s = s := by
  obtain ⟨-, fails⟩ := Bool.or_eq_false_iff.mp unmarked
  unfold commitTest
  rw [found]
  refine if_neg fun passes => ?_
  simp only [Bool.and_eq_true] at passes
  exact absurd (Bool.and_eq_true_iff.mpr ⟨passes.1.1.1, passes.2⟩) (by rw [fails]; exact Bool.false_ne_true)

/-- The outcome by R72's table. -/
theorem doubleHoldTest_held (found : findEntry z s = some e) (held : e.state = .held) :
    doubleHoldTest z n c s = match ownMark s e, c.committed with
      | true, true => conflictOutcome z n (commitTest z s)
      | true, false => commitTest z s
      | false, true => yieldEntry z n (commitTest z s)
      | false, false => if outranks c.urgency c.wait n e.urgency e.wait (commitTest z s).ownNumber then
          yieldEntry z n (commitTest z s) else commitTest z s := by
  unfold doubleHoldTest
  dsimp only
  rw [commitTest_marked found held]
  dsimp only
  rw [held]
  exact if_neg (by decide)

/-- A yield, up to its recompute. -/
def yielded (z n : Nat) (s : State) : State :=
  raiseNotice (.doubleHold z n) (urgentRequest (modifyEntry z (ClaimEntry.yieldTo s.now) s))

theorem yieldEntry_eq (z n : Nat) (s : State) : yieldEntry z n s = immediateRecompute (yielded z n s) := rfl

theorem yielded_window (z n : Nat) (s : State) : (yielded z n s).window = (modifyEntry z (ClaimEntry.yieldTo s.now) s).window := by
  unfold yielded
  rw [raiseNotice_window, urgentRequest_window]

theorem yielded_auth (z n : Nat) (s : State) : (yielded z n s).auth = s.auth := by
  unfold yielded
  rw [raiseNotice_auth, urgentRequest_auth]
  rfl

theorem yielded_radio (z n : Nat) (s : State) : (yielded z n s).radio = (urgentRequest s).radio := by
  unfold yielded
  rw [raiseNotice_radio]
  exact urgentRequest_radio_congr rfl rfl rfl

theorem yielded_inner (z n : Nat) (s : State) : Inner s (yielded z n s) :=
  (modifyEntry_inner _ _ _).trans ((urgentRequest_inner _).trans (raiseNotice_inner _ _))

theorem yielded_asked (z n : Nat) (s : State) : Asked (yielded z n s) := by
  have inner := raiseNotice_inner (.doubleHold z n) (urgentRequest (modifyEntry z (ClaimEntry.yieldTo s.now) s))
  exact (asked_urgentRequest _).congr inner.now inner.station (raiseNotice_radio _ _)

theorem yielded_notice (room : s.port.notices.length < 16) : .doubleHold z n ∈ (yielded z n s).port.notices := by
  refine raiseNotice_mem ?_
  rw [urgentRequest_port]
  exact room

/-- An entry that yields stays WAITING through the recompute: one whose zone OVERRUN would take passes the commit test. -/
theorem yieldEntry_self (fits : windowFits s.window) (found : findEntry z s = some e)
    (first : e.first = firstNeeding z s.route.cells) (unmarked : ownMark s e = false) :
    findEntry z (yieldEntry z n s) = some (e.yieldTo s.now) := by
  have modified : findEntry z (modifyEntry z (ClaimEntry.yieldTo s.now) s) = some (e.yieldTo s.now) := by
    rw [findEntry_modifyEntry (yieldTo_zone s.now), found]
    rfl
  have waits : findEntry z (yielded z n s) = some (e.yieldTo s.now) := (findEntry_congr (by rw [yielded_window])).trans modified
  have inner := yielded_inner z n s
  rw [yieldEntry_eq]
  cases carrier : s.isCarrier with
  | true =>
    have fits' : windowFits (yielded z n s).window := by
      rw [yielded_window]
      exact modifyEntry_windowFits (yieldTo_zone s.now) fits
    refine (immediateRecompute_passed fits' fun front => ?_).stays waits (.inl nofun)
    rw [frontZones_congr inner.route inner.odo] at front
    obtain ⟨-, fails⟩ := Bool.or_eq_false_iff.mp unmarked
    rw [carrier, commitPasses_front first front] at fails
    exact nomatch fails
  | false =>
    have fixed : (yielded z n s).isCarrier = false := inner.isCarrier.trans carrier
    rw [immediateRecompute_eq, if_neg (by rw [fixed]; exact fun h => nomatch h.1)]
    exact (findEntry_congr (by rw [giveWay_window])).trans waits

/-- The outcome CONFLICT. -/
theorem conflictOutcome_cases (z n : Nat) (s : State) : conflictOutcome z n s = recordConflict z n s ∨
    conflictOutcome z n s = immediateRecompute (recordConflict z n s) := by
  unfold conflictOutcome
  dsimp only
  split
  · exact .inl rfl
  · exact .inr rfl

theorem recordConflict_windowFits (z n : Nat) (fits : windowFits s.window) : windowFits (recordConflict z n s).window := by
  unfold windowFits
  rw [recordConflict_entries, recordConflict_standing]
  exact fits

theorem conflictOutcome_moves_from (z n : Nat) (s : State) : Moves recomputeF (recordConflict z n s) (conflictOutcome z n s) := by
  obtain eq | eq := conflictOutcome_cases z n s
  · rw [eq]
    exact .refl
  · rw [eq]
    exact immediateRecompute_moves _

theorem conflictOutcome_keeps (fits : windowFits s.window) (found : findEntry z s = some e) (held : e.state = .held)
    (committed : e.committed = true) : findEntry z (conflictOutcome z n s) = some e := by
  have recorded : findEntry z (recordConflict z n s) = some e := (findEntry_congr (recordConflict_entries z n s)).trans found
  obtain eq | eq := conflictOutcome_cases z n s
  · rw [eq]
    exact recorded
  · rw [eq]
    exact immediateRecompute_committed (recordConflict_windowFits z n fits) recorded held committed

end

/-- Settles O37. -/
theorem doubleHoldOutcomes : Obligations.DoubleHoldOutcomes := by
  unfold Obligations.DoubleHoldOutcomes
  intro s z n c e running fits inv found held first v own peerAbove
  have outcome := doubleHoldTest_held (n := n) (c := c) found held
  have marked := commitTest_marked found held
  have work := EntryWork.commitTest z s
  have fits' : windowFits (commitTest z s).window := (commitTest_moves z s).windowFits fits
  have zone : e.zone = z := findEntry_zone found
  have number : (commitTest z s).ownNumber = s.ownNumber := by
    unfold State.ownNumber
    rw [work.station]
  have is : own = ownMark s e := rfl
  refine ⟨fun isOwn peer => ?_, fun keeps => ?_, fun notOwn above => ?_⟩
  · rw [is] at isOwn
    rw [isOwn, peer] at outcome
    rw [isOwn] at marked
    have eq : v = conflictOutcome z n (commitTest z s) := outcome
    have ends := conflictOutcome_moves_from z n (commitTest z s)
    have kept := conflictOutcome_keeps (n := n) fits' marked held rfl
    have cause : v.auth.causes.conflict = true := by
      rw [eq]
      exact ends.conflict_stays (recordConflict_cause _ _ _)
    have conflicts : (commitTest z s).window.conflicts = s.window.conflicts := by rw [work]
    refine ⟨⟨{ e with committed := true }, ?_, zone, held, rfl⟩, cause, ?_, fun new room => .inr ?_, fun new room => ?_⟩
    · rw [eq]
      exact findEntry_mem kept
    · exact (doubleHoldTest_ceilingInv z n c inv).1.2.2.2.1 (any_of_conflict cause)
    · rw [eq]
      exact ends.recorded (recordConflict_records (by rw [conflicts]; exact new) (by rw [conflicts]; exact room))
    · rw [eq]
      refine noticed_of_inner (ends.inner (by decide)) (recordConflict_notice (by rw [conflicts]; exact new) ?_)
      rw [work.port]
      exact room
  · have eq : v = commitTest z s := by
      rw [is] at keeps
      obtain ⟨isOwn, peer⟩ | ⟨notOwn, peer, below⟩ := keeps
      · rw [isOwn, peer] at outcome
        exact outcome
      · rw [notOwn, peer, number] at outcome
        dsimp only at outcome
        rw [if_neg (by rw [show outranks c.urgency c.wait n e.urgency e.wait s.ownNumber = false from below]; exact Bool.false_ne_true)] at outcome
        exact outcome
    rw [eq]
    refine ⟨?_, ⟨_, findEntry_mem marked, rfl⟩, by rw [work]⟩
    have light := work
    unfold EntryWork at light
    rw [light]
  · rw [is] at notOwn
    have still := commitTest_still found notOwn
    have eq : v = yieldEntry z n s := by
      rw [notOwn, still] at outcome
      cases peer : c.committed with
      | true =>
        rw [peer] at outcome
        exact outcome
      | false =>
        rw [peer] at outcome above
        obtain absurd | higher := above
        · exact nomatch absurd
        · dsimp only at outcome
          rw [if_pos (show outranks c.urgency c.wait n e.urgency e.wait s.ownNumber = true from higher)] at outcome
          exact outcome
    have self := yieldEntry_self (n := n) fits found first notOwn
    have inner : Inner (yielded z n s) (yieldEntry z n s) := immediateRecompute_inner _
    rw [eq]
    refine ⟨findEntry_mem self, ?_, fun room => noticed_of_inner inner (yielded_notice room), ?_, fun carrier same => ?_⟩
    · rw [yieldEntry_eq, immediateRecompute_radio (yielded_asked z n s), yielded_radio]
    · rw [yieldEntry_eq]
      exact Nat.le_trans (immediateRecompute_ceiling_le _) (Nat.le_of_eq (by rw [yielded_auth]))
    · rw [yieldEntry_eq] at same ⊢
      have auth := yielded_auth z n s
      rw [immediateRecompute_horizon ((yielded_inner z n s).isCarrier.trans carrier) (by rw [auth]; exact same), auth]

end Sys2Proof.Machine
end

section
/-! O17: the standing claims given up, by STAND_RELEASE and by PARK on a FIXED station. -/

namespace Sys2Proof.Machine

-- One proof after another: many at a time want more threads than the memory limit of a build leaves.
set_option Elab.async false


/-! ### Releases outside ACTIVE -/

theorem release_release (e : ClaimEntry) : e.release.release = e.release := rfl

/-- The entries with those of some zones released. -/
def releasedIn (zs : List Nat) (es : List ClaimEntry) : List ClaimEntry :=
  es.map (fun e => if zs.contains e.zone then e.release else e)

/-- Outside ACTIVE, and on a FIXED station, a recompute computes no ceiling. -/
def computesNone (s : State) : Prop := s.isCarrier = true → s.station.state ≠ .active

theorem Inner.computesNone {s t : State} (inner : Inner s t) (idle : Machine.computesNone s) : Machine.computesNone t := by
  unfold Machine.computesNone
  rw [inner.isCarrier, inner.station]
  exact idle

theorem releaseEntry_idle {z : Nat} {s : State} (idle : computesNone s) :
    releaseEntry z s = giveWay (urgentRequest (modifyEntry z ClaimEntry.release s)) := by
  have inner := (modifyEntry_inner z ClaimEntry.release s).trans (urgentRequest_inner _)
  show immediateRecompute _ = _
  rw [immediateRecompute_eq, if_neg fun both => inner.computesNone idle both.1 both.2]

theorem giveWay_auth (s : State) : (giveWay s).auth = { s.auth with horizon := (giveWay s).auth.horizon } := by
  unfold giveWay
  split <;> rfl

theorem giveWay_horizon_le (s : State) : (giveWay s).auth.horizon ≤ s.auth.horizon := by
  unfold giveWay
  split
  · exact Int.min_le_left _ _
  · exact Int.le_refl _

theorem giveWay_fixed {s : State} (fixed : s.isCarrier = false) : giveWay s = s := by
  unfold giveWay
  exact if_neg (by rw [fixed]; exact Bool.false_ne_true)

/-- What releases outside ACTIVE do. -/
structure ReleasedIdle (zs : List Nat) (s t : State) : Prop where
  inner : Inner s t
  window : t.window = { s.window with entries := releasedIn zs s.window.entries }
  auth : t.auth = { s.auth with horizon := t.auth.horizon }
  horizon : t.auth.horizon ≤ s.auth.horizon
  fixed : s.isCarrier = false → t.auth = s.auth
  port : t.port = s.port
  radio : t.radio = if zs = [] then s.radio else (urgentRequest s).radio

theorem releaseEntry_releasedIdle {z : Nat} {s : State} (idle : computesNone s) :
    ReleasedIdle [z] s (releaseEntry z s) := by
  have auth : (urgentRequest (modifyEntry z ClaimEntry.release s)).auth = s.auth := urgentRequest_auth _
  have eq := releaseEntry_idle (z := z) idle
  refine ⟨releaseEntry_inner z s, ?_, ?_, ?_, fun fixed => ?_, ?_, ?_⟩
  · rw [eq, giveWay_window, urgentRequest_window]
    unfold modifyEntry updateEntry releasedIn
    simp only [List.contains_cons, List.contains_nil, Bool.or_false]
  · rw [eq, giveWay_auth, auth]
  · rw [eq]
    exact Int.le_trans (giveWay_horizon_le _) (Int.le_of_eq (by rw [auth]))
  · rw [eq, giveWay_fixed, auth]
    rw [(urgentRequest_inner _).isCarrier]
    exact fixed
  · rw [eq]
    have way : (giveWay (urgentRequest (modifyEntry z ClaimEntry.release s))).port =
        (urgentRequest (modifyEntry z ClaimEntry.release s)).port := by
      unfold giveWay
      split <;> rfl
    rw [way, urgentRequest_port]
    rfl
  · rw [eq, giveWay_radio, if_neg (List.cons_ne_nil _ _)]
    exact urgentRequest_radio_congr rfl rfl rfl

theorem releasedIn_cons (z : Nat) (zs : List Nat) (es : List ClaimEntry) :
    releasedIn zs (releasedIn [z] es) = releasedIn (z :: zs) es := by
  unfold releasedIn
  rw [List.map_map]
  refine List.map_congr_left fun e _ => ?_
  show (if zs.contains (if [z].contains e.zone then e.release else e).zone then _ else _) = _
  by_cases first : e.zone = z
  · by_cases later : zs.contains z = true <;> simp_all [release_release, release_zone e]
  · simp [first]

theorem releaseEntries_releasedIdle : ∀ (zs : List Nat) {s : State} (_ : computesNone s),
    ReleasedIdle zs s (zs.foldl (fun s z => releaseEntry z s) s)
  | [], s, _ => ⟨.refl s, by unfold releasedIn; simp, rfl, Int.le_refl _, fun _ => rfl, rfl, rfl⟩
  | z :: zs, s, idle => by
    have first := releaseEntry_releasedIdle (z := z) idle
    have idle' : computesNone (releaseEntry z s) := first.inner.computesNone idle
    have rest := releaseEntries_releasedIdle zs idle'
    refine ⟨first.inner.trans rest.inner, ?_, ?_, Int.le_trans rest.horizon first.horizon, fun fixed => ?_,
      rest.port.trans first.port, ?_⟩
    · rw [List.foldl_cons, rest.window, first.window, releasedIn_cons]
    · rw [List.foldl_cons, rest.auth, first.auth]
    · exact (rest.fixed (first.inner.isCarrier.trans fixed)).trans (first.fixed fixed)
    · have radio := first.radio
      rw [if_neg (List.cons_ne_nil _ _)] at radio
      have asked : Asked (releaseEntry z s) := by
        rw [releaseEntry_idle idle]
        exact (giveWay_moves _).asked (by decide) (asked_urgentRequest _)
      rw [List.foldl_cons, rest.radio, urgentRequest_asked asked, ite_self, if_neg (List.cons_ne_nil _ _), radio]

/-! ### The standing list emptied (R150) -/

/-- The window with the standing claims given up. -/
def windowGivenUp (w : Window) : Window := { w with
  standing := []
  entries := (w.entries.filter (fun e => !e.unheld)).map (fun e =>
    if e.state = .held then { e with state := .releasing, committed := false, released := 0 } else e) }

theorem mem_zones_iff {s : State} {p : ClaimEntry → Bool} {e : ClaimEntry} (fits : windowFits s.window)
    (member : e ∈ s.window.entries) : e.zone ∈ (s.window.entries.filter p).map ClaimEntry.zone ↔ p e = true := by
  constructor
  · intro among
    obtain ⟨x, found, zone⟩ := List.mem_map.mp among
    obtain ⟨member', is⟩ := List.mem_filter.mp found
    have same : x = e := inj_of_nodup_map fits.2.1 member' member zone
    rw [← same]
    exact is
  · exact fun is => List.mem_map_of_mem (List.mem_filter.mpr ⟨member, is⟩)

theorem giveUpStanding_givenUp {s : State} (fixed : s.isCarrier = false) (fits : windowFits s.window) :
    Inner (setStanding [] s) (giveUpStanding s) ∧ (giveUpStanding s).window = windowGivenUp s.window ∧
      (giveUpStanding s).auth = s.auth ∧ (giveUpStanding s).port = s.port ∧
      (giveUpStanding s).radio =
        if (s.window.entries.filter (fun e => e.state = .held)).map ClaimEntry.zone = [] then s.radio else (urgentRequest s).radio := by
  have released := releaseEntries_releasedIdle ((s.window.entries.filter (fun e => e.state = .held)).map ClaimEntry.zone)
    (s := removeZones ((s.window.entries.filter ClaimEntry.unheld).map ClaimEntry.zone) (setStanding [] s))
    (fun carrier => absurd carrier (by rw [show (removeZones _ (setStanding [] s)).isCarrier = false from fixed]; exact Bool.false_ne_true))
  rw [giveUpStanding_eq]
  refine ⟨(removeZones_inner _ _).trans released.inner, ?_, released.fixed fixed, released.port, ?_⟩
  · rw [released.window]
    show ({ s.window with standing := [], entries := _ } : Window) = windowGivenUp s.window
    refine congrArg (fun es => ({ s.window with standing := [], entries := es } : Window)) ?_
    show releasedIn _ (s.window.entries.filter _) = _
    have kept : s.window.entries.filter
        (fun e => !((s.window.entries.filter ClaimEntry.unheld).map ClaimEntry.zone).contains e.zone) =
        s.window.entries.filter (fun e => !e.unheld) :=
      List.filter_congr fun e member => by
        have same := mem_zones_iff (p := ClaimEntry.unheld) fits member
        rw [← List.contains_iff_mem] at same
        exact congrArg Bool.not (Bool.eq_iff_iff.mpr same)
    rw [kept]
    refine List.map_congr_left fun e among => ?_
    have member := (List.mem_filter.mp among).1
    have same := mem_zones_iff (p := fun e => decide (e.state = .held)) fits member
    rw [← List.contains_iff_mem, decide_eq_true_eq] at same
    by_cases held : e.state = .held
    · rw [if_pos (same.mpr held), if_pos held]
      rfl
    · rw [if_neg fun h => held (same.mp h), if_neg held]
  · rw [released.radio]
    refine ite_congr rfl (fun _ => rfl) fun _ => (urgentRequest_radio_congr rfl rfl rfl)

theorem heldZones_empty {s : State} :
    (s.window.entries.filter (fun e => decide (e.state = .held))).map ClaimEntry.zone = [] ↔ ∀ e ∈ s.window.entries, e.state ≠ .held := by
  rw [List.map_eq_nil_iff, List.filter_eq_nil_iff]
  simp

theorem stopLevel_emptied {s : State} (fixed : s.isCarrier = false) (empty : s.window.standing = []) : stopLevel s = true := by
  unfold stopLevel holdOffAsserted
  rw [fixed, empty]
  simp

/-- A FIXED station whose hold-off line is released is ACTIVE and has no conflict record. -/
theorem line_released {s : State} (fixed : s.isCarrier = false) (settled : eventEndInv s) (down : s.stopLine = false) :
    s.station.state = .active ∧ s.window.conflicts = [] := by
  have level := settled.1.symm.trans down
  unfold stopLevel holdOffAsserted conflictStands at level
  rw [fixed] at level
  simp only [Bool.false_eq_true, if_false, Bool.or_eq_false_iff, bne_eq_false_iff_eq] at level
  obtain ⟨⟨⟨active, -⟩, -⟩, none⟩ := level
  exact ⟨active, by simpa using none⟩

end Sys2Proof.Machine
end

section
/-! O17, the statement. -/

namespace Sys2Proof.Machine

-- One proof after another: many at a time want more threads than the memory limit of a build leaves.
set_option Elab.async false


theorem holdOffNotice_released {s : State} (clear : s.window.conflicts = []) (active : s.station.state = .active)
    (empty : s.window.standing = []) : holdOffNotice s = .holdOff .released 0 0 := by
  unfold holdOffNotice firstUnheldStanding
  rw [clear, active, empty]
  rfl

theorem holdOffNotice_state {s : State} (clear : s.window.conflicts = []) (other : s.station.state ≠ .active) :
    holdOffNotice s = .holdOff .state 0 0 := by
  unfold holdOffNotice
  rw [clear]
  exact if_pos (by simpa using other)

/-- What a command that gives up the standing claims leaves at its end. -/
theorem finish_holdsOffBy {kind : Byte} {a : Answer} {v : State} {n : Notice} (fixed : v.isCarrier = false)
    (down : v.stopLine = false) (empty : v.window.standing = []) (notice : holdOffNotice (refreshRelevance (queueReply kind a v)) = n)
    (room : v.port.notices.length < 16) : n ∈ (finish (queueReply kind a v)).port.notices ∨
      ∃ m, (finish (queueReply kind a v)).port.out = some m ∧ m.content = .notice n := by
  rw [← notice]
  exact finish_holdsOff (s := queueReply kind a v) fixed down (stopLevel_emptied (s := queueReply kind a v) fixed empty) room

theorem finish_stopLine_emptied {kind : Byte} {a : Answer} {v : State} (fixed : v.isCarrier = false)
    (empty : v.window.standing = []) : (finish (queueReply kind a v)).stopLine = true := by
  rw [finish_stopLine, stopLevel_refresh]
  exact stopLevel_emptied (s := queueReply kind a v) fixed empty

theorem parkBase_radio (s : State) : (parkBase s).radio = { s.radio with
    parkedSpacing := true, next := (parkBase s).radio.next, placementOpen := (parkBase s).radio.placementOpen } := by
  unfold parkBase parkSchedule
  split <;> rfl

theorem parkBase_next {s : State} {l : Time} (last : s.radio.last = some l) :
    (parkBase s).radio.next = some (l + 8 * s.period * 1000) := by
  unfold parkBase parkSchedule
  rw [show (changeState .parked s).radio.last = some l from last]
  rfl

theorem parkBase_port (s : State) : (parkBase s).port =
    { s.port with reportPending := true, statusAt := some (s.now + 1000000) } := by
  unfold parkBase parkSchedule
  split <;> rfl

theorem parkBase_now (s : State) : (parkBase s).now = s.now := by
  unfold parkBase parkSchedule
  split <;> rfl

theorem parkBase_stopLine (s : State) : (parkBase s).stopLine = s.stopLine := by
  unfold parkBase parkSchedule
  split <;> rfl

theorem parkHandler_accepts {s : State} (active : s.station.state = .active)
    (still : s.isCarrier = true → s.station.standstill = 50) : parkHandler s = (applyPark s, .accept []) := by
  unfold parkHandler
  rw [if_neg (by rw [active]; decide), if_neg]
  intro moving
  simp only [Bool.and_eq_true, bne_iff_ne] at moving
  exact moving.2 (still moving.1)

/-- Settles O17. -/
theorem standingClaimsGivenUp : Obligations.StandingClaimsGivenUp := by
  unfold Obligations.StandingClaimsGivenUp
  intro t s ready settled fits
  have eq : ∀ s, exec (.standRelease t []) s =
      .next (outsideEvent t (takeCommand 0x0C#8 (some 0) [] standReleaseHandler) s) := fun _ => rfl
  have length : ∀ n, some 0 = some n → ([] : List Byte).length = n := fun n h => by cases h; rfl
  refine ⟨fun stops => turnsAway_of eq ready settled length (classHandler_stopped stops),
    fun running carrier => turnsAway_of eq ready settled length (classHandler_other running ?_), fun running fixed => ⟨?_, ?_⟩⟩
  · simp [cls_of_carrier carrier]
  · let r := received t s
    obtain ⟨inner, window, auth, port, radio⟩ := giveUpStanding_givenUp (s := r) fixed fits
    have run : exec (.standRelease t []) s =
        .next (finish (queueReply 0x0C#8 (.accept [byteOf s.window.standing.length]) (giveUpStanding r))) := by
      rw [exec_ready eq ready length]
      have own : standReleaseHandler (received t s) = (giveUpStanding r, .accept [byteOf s.window.standing.length]) :=
        classHandler_own (s := received t s) running (cls_of_fixed fixed)
      rw [own]
    have fixed' : (giveUpStanding r).isCarrier = false := inner.isCarrier.trans fixed
    have empty : (giveUpStanding r).window.standing = [] := by
      rw [window]
      rfl
    refine ⟨_, run, ?_, ?_, ?_, ?_, ?_, ?_, finish_tableKept inner.table, fun some => ?_, fun none => ?_,
      finish_stopLine_emptied fixed' empty, fun down room => ?_, ?_, finish_answers ?_ ?_⟩
    · rw [finish_now]
      exact inner.now
    · rw [finish_window]
      exact window
    · rw [finish_station]
      exact inner.station
    · rw [finish_route]
      exact inner.route
    · rw [finish_odo]
      exact inner.odo
    · rw [finish_auth]
      exact auth
    · rw [finish_radio]
      refine radio.trans ((if_neg fun empty => ?_).trans (urgentRequest_radio_congr rfl rfl rfl))
      obtain ⟨e, member, held⟩ := some
      exact heldZones_empty.mp empty e member held
    · rw [finish_radio]
      exact radio.trans (if_pos (heldZones_empty.mpr none))
    · obtain ⟨active, clear⟩ := line_released fixed settled down
      refine finish_holdsOffBy fixed' (inner.stopLine.trans down) empty ?_ (by rw [port]; exact room)
      have conflicts : (giveUpStanding r).window.conflicts = [] := by
        rw [window]
        exact clear
      exact holdOffNotice_released (s := refreshRelevance (queueReply _ _ (giveUpStanding r))) conflicts
        ((congrArg Station.state inner.station).trans active) empty
    · exact finish_queueReply_portKept (s := setStanding [] r) inner
    · show (giveUpStanding r).port.out = _
      rw [port]
      rfl
    · show (giveUpStanding r).port.replies = _
      rw [port]
      rfl
  · intro active
    have eq : ∀ s, exec (.park t []) s = .next (outsideEvent t (takeCommand 7#8 (some 0) [] parkHandler) s) := fun _ => rfl
    let r := received t s
    let m := parkBase r
    have fixedBase : m.isCarrier = false := (parkBase_isCarrier r).trans fixed
    obtain ⟨inner, window, auth, port, radio⟩ := giveUpStanding_givenUp (s := m) fixedBase (by rw [parkBase_window]; exact fits)
    have run : exec (.park t []) s = .next (finish (queueReply 7#8 (.accept []) (giveUpStanding m))) := by
      rw [exec_ready eq ready length, parkHandler_accepts (s := received t s) active
        (fun carrier => absurd carrier (by rw [received_isCarrier, fixed]; exact Bool.false_ne_true)), applyPark_eq, if_neg]
      rw [fixedBase]
      exact Bool.false_ne_true
    have fixed' : (giveUpStanding m).isCarrier = false := inner.isCarrier.trans fixedBase
    have empty : (giveUpStanding m).window.standing = [] := by
      rw [window]
      rfl
    have spaced := inner.radio
    refine ⟨_, run, ?_, ?_, ?_, ?_, ?_, ?_, finish_tableKept ?_, ?_, fun l last => ?_, finish_stopLine_emptied fixed' empty,
      fun down room => ?_, ?_, finish_reports ?_, finish_answers ?_ ?_⟩
    · rw [finish_now]
      exact inner.now.trans (parkBase_now r)
    · rw [finish_window]
      refine window.trans ?_
      rw [parkBase_window]
      rfl
    · rw [finish_station]
      exact inner.station.trans (parkBase_station r)
    · rw [finish_route]
      exact inner.route.trans (parkBase_route r)
    · rw [finish_odo]
      exact inner.odo.trans (parkBase_odo r)
    · rw [finish_auth]
      exact auth.trans (parkBase_auth r)
    · exact inner.table.trans (parkBase_table r)
    · rw [finish_radio]
      show (giveUpStanding m).radio.parkedSpacing = true
      rw [spaced]
      show (parkBase r).radio.parkedSpacing = true
      rw [parkBase_radio]
    · rw [finish_radio]
      show (giveUpStanding m).radio.next = _
      rw [spaced]
      exact parkBase_next (s := r) last
    · obtain ⟨-, clear⟩ := line_released fixed settled down
      refine finish_holdsOffBy fixed' (inner.stopLine.trans ((parkBase_stopLine r).trans down)) empty ?_ ?_
      · have conflicts : (giveUpStanding m).window.conflicts = [] := by
          rw [window]
          show (parkBase r).window.conflicts = []
          rw [parkBase_window]
          exact clear
        have parked : (giveUpStanding m).station.state = .parked :=
          congrArg Station.state (inner.station.trans (parkBase_station r))
        exact holdOffNotice_state (s := refreshRelevance (queueReply _ _ (giveUpStanding m))) conflicts
          (fun active => nomatch parked.symm.trans active)
      · rw [port, parkBase_port]
        exact room
    · have status : (finish (queueReply 7#8 (.accept []) (giveUpStanding m))).port.statusAt = (giveUpStanding m).port.statusAt :=
        (finish_portKept (s := queueReply 7#8 (.accept []) (giveUpStanding m)) rfl rfl rfl rfl rfl).2.2.2.1
      rw [status, port, parkBase_port]
      rfl
    · show (giveUpStanding m).port.reportPending = true
      rw [port, parkBase_port]
    · show (giveUpStanding m).port.out = _
      rw [port, parkBase_port]
      rfl
    · show (giveUpStanding m).port.replies = _
      rw [port, parkBase_port]
      rfl

end Sys2Proof.Machine
end

section
/-! O16: PARK on a carrier. -/

namespace Sys2Proof.Machine

-- One proof after another: many at a time want more threads than the memory limit of a build leaves.
set_option Elab.async false


/-- The zones given up at PARK: those that the predicate picks, of no occupied cell. -/
def aheadZones (p : ClaimEntry → Bool) (s : State) : List Nat :=
  (s.window.entries.filter (fun e => p e && !isOccupied s e.zone)).map ClaimEntry.zone

/-- What is given up at PARK, up to the re-evaluations. -/
def aheadGiven (s : State) : State :=
  removeZones (aheadZones ClaimEntry.unheld s)
    ((aheadZones (fun e => decide (e.state = .held)) s).foldl (fun s z => releaseEntry z s) s)

theorem giveUpAhead_eq (s : State) : ∃ sel, giveUpAhead s = reevaluateZones sel (aheadGiven s) := ⟨_, rfl⟩

section
variable {s : State}

theorem aheadGiven_released (idle : computesNone s) :
    ReleasedIdle (aheadZones (fun e => decide (e.state = .held)) s) s
      ((aheadZones (fun e => decide (e.state = .held)) s).foldl (fun s z => releaseEntry z s) s) :=
  releaseEntries_releasedIdle _ idle

theorem aheadGiven_window (idle : computesNone s) : (aheadGiven s).window = { s.window with
    entries := (releasedIn (aheadZones (fun e => decide (e.state = .held)) s) s.window.entries).filter
      (fun e => !(aheadZones ClaimEntry.unheld s).contains e.zone) } := by
  unfold aheadGiven removeZones setEntries
  rw [(aheadGiven_released idle).window]

theorem aheadGiven_windowFits (fits : windowFits s.window) : windowFits (aheadGiven s).window := by
  have released := (releaseEntries_moves (aheadZones (fun e => decide (e.state = .held)) s) s).windowFits fits
  obtain ⟨few, differ, standing⟩ := released
  refine ⟨?_, ?_, ?_⟩
  · exact Nat.le_trans (List.length_filter_le _ _) few
  · exact differ.sublist ((List.filter_sublist).map ClaimEntry.zone)
  · exact standing

theorem giveUpAhead_entryWork (s : State) : EntryWork (aheadGiven s) (giveUpAhead s) := by
  obtain ⟨sel, eq⟩ := giveUpAhead_eq s
  rw [eq]
  exact .pass _ _ _ _

theorem giveUpAhead_auth (idle : computesNone s) :
    (giveUpAhead s).auth = { s.auth with horizon := (giveUpAhead s).auth.horizon } ∧
      (giveUpAhead s).auth.horizon ≤ s.auth.horizon := by
  have released := aheadGiven_released idle
  have same : (giveUpAhead s).auth =
      ((aheadZones (fun e => decide (e.state = .held)) s).foldl (fun s z => releaseEntry z s) s).auth :=
    (giveUpAhead_entryWork s).auth
  rw [same]
  exact ⟨released.auth, released.horizon⟩

theorem giveUpAhead_port (idle : computesNone s) : (giveUpAhead s).port = s.port :=
  (giveUpAhead_entryWork s).port.trans (aheadGiven_released idle).port

/-- An entry that is not withdrawn, as PARK leaves it when it is not requested. -/
theorem giveUpAhead_keeps (idle : computesNone s) (fits : windowFits s.window) {e : ClaimEntry} (member : e ∈ s.window.entries)
    (stays : (e.unheld && !isOccupied s e.zone) = false)
    (rests : (if e.state = .held ∧ isOccupied s e.zone = false then e.release else e).requested = false) :
    (if e.state = .held ∧ isOccupied s e.zone = false then e.release else e) ∈ (giveUpAhead s).window.entries := by
  obtain ⟨sel, eq⟩ := giveUpAhead_eq s
  rw [eq]
  refine reevaluateZones_rests (aheadGiven_windowFits fits) ?_ rests
  rw [aheadGiven_window idle]
  have lost := mem_zones_iff (p := fun e => decide (e.state = .held) && !isOccupied s e.zone) fits member
  have withdrawn := mem_zones_iff (p := fun e => e.unheld && !isOccupied s e.zone) fits member
  have image : (if (aheadZones (fun e => decide (e.state = .held)) s).contains e.zone then e.release else e) =
      if e.state = .held ∧ isOccupied s e.zone = false then e.release else e := by
    refine ite_congr (propext ?_) (fun _ => rfl) fun _ => rfl
    rw [List.contains_iff_mem]
    exact lost.trans (by simp)
  rw [← image]
  refine List.mem_filter.mpr ⟨List.mem_map_of_mem member, ?_⟩
  have zone : (if (aheadZones (fun e => decide (e.state = .held)) s).contains e.zone then e.release else e).zone = e.zone := by
    split <;> rfl
  rw [zone, Bool.not_eq_true', ← Bool.not_eq_true, List.contains_iff_mem]
  exact fun among => absurd (withdrawn.mp among) (by rw [stays]; exact Bool.false_ne_true)

/-- A withdrawn entry leaves. -/
theorem giveUpAhead_withdraws (idle : computesNone s) {e : ClaimEntry} (member : e ∈ s.window.entries)
    (unheld : e.unheld = true) (free : isOccupied s e.zone = false) : e.zone ∉ windowZones (giveUpAhead s) := by
  obtain ⟨sel, eq⟩ := giveUpAhead_eq s
  rw [eq, reevaluateZones_zones]
  unfold windowZones
  rw [aheadGiven_window idle]
  intro there
  obtain ⟨x, found, zone⟩ := List.mem_map.mp there
  have away := (List.mem_filter.mp found).2
  rw [zone, Bool.not_eq_true', ← Bool.not_eq_true, List.contains_iff_mem] at away
  exact away (List.mem_map_of_mem (List.mem_filter.mpr ⟨member, by rw [unheld, free]; rfl⟩))

end

theorem parkStopped_computesNone (s : State) : computesNone (parkStopped s) := fun _ => parkStopped_idle s

/-- What PARK does to a carrier, but for the entries. -/
structure CarrierParked (s w : State) : Prop where
  base : Inner (parkBase s) w
  auth : w.auth = { s.auth with
    ceiling := 0, previous := 0, horizon := w.auth.horizon, wordOut := w.auth.wordOut, pendingWord := w.auth.pendingWord }
  horizon : w.auth.horizon ≤ s.auth.horizon
  words : w.words = (sendWord 0 s).words
  port : w.port = (parkBase s).port
  conflicts : w.window.conflicts = s.window.conflicts

theorem parkStopped_auth (s : State) : (parkStopped s).auth = { s.auth with
    ceiling := 0, previous := 0, wordOut := (parkStopped s).auth.wordOut, pendingWord := (parkStopped s).auth.pendingWord } := by
  have sent := sendWord_auth 0 (setCeiling 0 (parkBase s))
  have same : (setCeiling 0 (parkBase s)).auth = { s.auth with ceiling := 0, previous := 0 } := by
    unfold setCeiling
    rw [parkBase_auth]
  rw [same] at sent
  exact sent

theorem sendWord_port (v : Nat) (s : State) : (sendWord v s).port = s.port := by
  unfold sendWord
  split
  · split <;> rfl
  · rfl

theorem parkStopped_words (s : State) : (parkStopped s).words = (sendWord 0 s).words := by
  refine sendWord_words_congr (parkBase_isCarrier s) (parkBase_now s) ?_
  show ((parkBase s).auth.wordOut, (parkBase s).auth.pendingWord) = _
  rw [parkBase_auth]
  rfl

theorem parked_carrier (s : State) : CarrierParked s (giveUpAhead (parkStopped s)) := by
  have idle := parkStopped_computesNone s
  obtain ⟨auth, lower⟩ := giveUpAhead_auth idle
  have stopped := parkStopped_auth s
  refine ⟨(parkStopped_inner s).trans (giveUpAhead_inner _), ?_, ?_, ?_, ?_, ?_⟩
  · rw [auth, stopped]
  · exact Int.le_trans lower (Int.le_of_eq (by rw [stopped]))
  · rw [← parkStopped_words]
    unfold State.words
    rw [auth]
  · exact (giveUpAhead_port idle).trans (sendWord_port 0 _)
  · rw [giveUpAhead_entryWork (parkStopped s), aheadGiven_window idle, parkStopped_window]

theorem unheld_of_held {e : ClaimEntry} (held : e.state = .held) : e.unheld = false := by
  unfold ClaimEntry.unheld
  rw [held]

theorem unheld_of_releasing {e : ClaimEntry} (releasing : e.state = .releasing) : e.unheld = false := by
  unfold ClaimEntry.unheld
  rw [releasing]

/-- What PARK does to the entries of a carrier (R179). -/
theorem parked_entries {s : State} (fits : windowFits s.window) {e : ClaimEntry} (member : e ∈ s.window.entries) :
    (isOccupied s e.zone = true → e.state = .held → e ∈ (giveUpAhead (parkStopped s)).window.entries) ∧
      (e.state = .releasing → e ∈ (giveUpAhead (parkStopped s)).window.entries) ∧
      (isOccupied s e.zone = false → e.state = .held → e.release ∈ (giveUpAhead (parkStopped s)).window.entries) ∧
      (isOccupied s e.zone = false → e.unheld = true → e.zone ∉ windowZones (giveUpAhead (parkStopped s))) := by
  have idle := parkStopped_computesNone s
  have window := parkStopped_window s
  have inner := parkStopped_inner s
  have occupied (z : Nat) : isOccupied (parkStopped s) z = isOccupied s z := by
    unfold isOccupied occupiedCells State.front State.s
    rw [inner.route, inner.odo, parkBase_route, parkBase_odo]
  have fits' : windowFits (parkStopped s).window := by
    rw [window]
    exact fits
  have member' : e ∈ (parkStopped s).window.entries := by
    rw [window]
    exact member
  have keeps := giveUpAhead_keeps idle fits' member'
  rw [occupied] at keeps
  refine ⟨fun front held => ?_, fun releasing => ?_, fun free held => ?_, fun free unheld => ?_⟩
  · have other : ¬(e.state = .held ∧ isOccupied s e.zone = false) := fun h => nomatch h.2.symm.trans front
    rw [if_neg other, unheld_of_held held] at keeps
    exact keeps rfl (not_requested held (by decide))
  · have other : ¬(e.state = .held ∧ isOccupied s e.zone = false) := fun h => nomatch h.1.symm.trans releasing
    rw [if_neg other, unheld_of_releasing releasing] at keeps
    exact keeps rfl (not_requested releasing (by decide))
  · rw [if_pos ⟨held, free⟩, unheld_of_held held] at keeps
    exact keeps rfl (not_requested (e := e.release) rfl ⟨nofun, nofun⟩)
  · exact giveUpAhead_withdraws idle member' unheld ((occupied e.zone).trans free)

theorem exec_park {t : Time} {s : State} (ready : ready s) (active : s.station.state = .active)
    (carrier : s.isCarrier = true) (still : s.station.standstill = 50) : exec (.park t []) s =
      .next (finish (queueReply 7#8 (.accept []) (giveUpAhead (parkStopped (received t s))))) := by
  have eq : ∀ s, exec (.park t []) s = .next (outsideEvent t (takeCommand 7#8 (some 0) [] parkHandler) s) := fun _ => rfl
  have onCarrier : (parkBase (received t s)).isCarrier = true := (parkBase_isCarrier _).trans carrier
  rw [exec_ready eq ready fun n h => by cases h; rfl,
    parkHandler_accepts (s := received t s) active fun _ => still, applyPark_eq, if_pos onCarrier]

/-- Settles O16. -/
theorem parkCarrier : Obligations.ParkCarrier := by
  unfold Obligations.ParkCarrier
  intro t s ready settled fits
  have eq : ∀ s, exec (.park t []) s = .next (outsideEvent t (takeCommand 7#8 (some 0) [] parkHandler) s) := fun _ => rfl
  have length : ∀ n, some 0 = some n → ([] : List Byte).length = n := fun n h => by cases h; rfl
  refine ⟨fun other => turnsAway_of eq ready settled length ?_, fun active carrier moving => turnsAway_of eq ready settled length ?_,
    fun active carrier still => ?_⟩
  · unfold parkHandler
    exact if_pos (by simpa using other)
  · unfold parkHandler
    rw [if_neg (by simpa using active), if_pos]
    · rfl
    · simp only [Bool.and_eq_true, bne_iff_ne]
      exact ⟨carrier, moving⟩
  · obtain ⟨base, auth, lower, words, port, conflicts⟩ := parked_carrier (received t s)
    have entries {e : ClaimEntry} (member : e ∈ s.window.entries) := parked_entries (s := received t s) fits member
    have run := exec_park (t := t) ready active carrier still
    revert base auth lower words port conflicts entries run
    generalize giveUpAhead (parkStopped (received t s)) = w
    intro base auth lower words port conflicts entries run
    have onCarrier : w.isCarrier = true := base.isCarrier.trans ((parkBase_isCarrier _).trans carrier)
    rw [parkBase_port] at port
    refine ⟨_, run, ?_, ?_, ?_, ?_, ?_, ?_, ?_, ?_, ?_, ?_, ?_, ?_, finish_tableKept ?_, fun e member => ?_,
      fun e member => ?_, fun e member => ?_, fun e member => ?_, ?_, ?_, ?_, fun l last => ?_,
      ?_, finish_reports ?_, finish_answers ?_ ?_⟩
    · rw [finish_now]
      exact base.now.trans (parkBase_now _)
    · rw [finish_station]
      exact base.station.trans (parkBase_station _)
    · rw [finish_route]
      exact base.route.trans (parkBase_route _)
    · rw [finish_odo]
      exact base.odo.trans (parkBase_odo _)
    · rw [finish_auth]
      have same := congrArg Authority.ceiling auth
      exact same
    · rw [finish_auth]
      have same := congrArg Authority.previous auth
      exact same
    · exact wordSent_finish (r := received t s) rfl (wordSent_of (s := received t s) carrier rfl words
        (base.now.trans (parkBase_now _)))
    · rw [finish_auth]
      have same := congrArg Authority.causes auth
      exact same
    · rw [finish_auth]
      have same := congrArg Authority.overrun auth
      exact same
    · have level : s.stopLine = stopLevel s := settled.1
      unfold stopLevel at level
      rw [if_pos carrier] at level
      rw [finish_stopLine_carrier (s := queueReply 7#8 (.accept []) w) onCarrier, level]
      have same := congrArg (fun a => a.causes.any) auth
      exact same
    · rw [finish_auth]
      exact lower
    · unfold Machine.profilesKept
      rw [finish_auth]
      have profiles := congrArg Authority.profiles auth
      have active := congrArg Authority.active auth
      have pendingIx := congrArg Authority.pendingIx auth
      have outputAt := congrArg Authority.outputAt auth
      exact ⟨profiles, active, pendingIx, outputAt⟩
    · exact base.table.trans (parkBase_table _)
    · rw [finish_window]
      exact (entries member).1
    · rw [finish_window]
      exact (entries member).2.1
    · rw [finish_window]
      exact (entries member).2.2.1
    · have gone := (entries member).2.2.2
      unfold windowZones
      rw [finish_window]
      exact gone
    · rw [finish_window]
      refine base.standing.trans ?_
      rw [parkBase_window]
      rfl
    · rw [finish_window]
      exact conflicts
    · rw [finish_radio]
      have radio := base.radio
      rw [parkBase_radio] at radio
      show w.radio = { s.radio with
        parkedSpacing := true, next := w.radio.next, placementOpen := w.radio.placementOpen, gen := w.radio.gen
        slot := w.radio.slot }
      rw [radio]
      rfl
    · rw [finish_radio]
      show w.radio.next = _
      rw [base.radio]
      exact parkBase_next (s := received t s) last
    · have status := (finish_portKept (s := queueReply 7#8 (.accept []) w) rfl rfl rfl rfl rfl).2.2.2.1
      rw [status]
      have same := congrArg Port.statusAt port
      exact same
    · have same := congrArg Port.reportPending port
      exact same
    · have same := congrArg Port.out port
      exact same
    · have same := congrArg Port.replies port
      exact same

end Sys2Proof.Machine
end

section
/-! O22: STAND_CLAIM. -/

namespace Sys2Proof.Machine

-- One proof after another: many at a time want more threads than the memory limit of a build leaves.
set_option Elab.async false


/-- A window whose zones differ is what its zones find. -/
theorem entries_found {s : State} (differ : (windowZones s).Nodup) :
    (windowZones s).filterMap (fun z => findEntry z s) = s.window.entries := by
  unfold windowZones
  rw [List.filterMap_map]
  have finds : ∀ e ∈ s.window.entries, ((fun z => findEntry z s) ∘ ClaimEntry.zone) e = some e :=
    fun e member => findEntry_of_mem differ member
  rw [filterMap_congr finds, List.filterMap_some]

/-- Windows with the same zones in the same order that find the same entries are the same. -/
theorem entries_ext {s t : State} (differ : (windowZones s).Nodup) (zones : windowZones t = windowZones s)
    (same : ∀ z ∈ windowZones s, findEntry z t = findEntry z s) : t.window.entries = s.window.entries := by
  rw [← entries_found differ, ← entries_found (s := t) (by rw [zones]; exact differ), zones]
  exact filterMap_congr same

/-- A selected ANNOUNCED entry with no blocker, whose settle timer has not expired, stays. -/
theorem reevaluateZones_stays {sel : Nat → Bool} {s : State} {e : ClaimEntry} (fits : windowFits s.window)
    (member : e ∈ s.window.entries) (chosen : sel e.zone = true) (announced : e.state = .announced)
    (free : isBlocked s e = false) (runs : e.settle ≠ .expired) : e ∈ (reevaluateZones sel s).window.entries := by
  obtain ⟨m, inner, found, after⟩ := reevaluateZones_selected fits member chosen
  rw [reevaluate_stays found announced ((inner.isBlocked e).trans free) fun h => runs h.1, found] at after
  exact findEntry_mem after

/-- Re-evaluation of a window of entries freshly announced. -/
theorem reevaluateZones_fresh {s : State} (fits : windowFits s.window)
    (fresh : ∀ e ∈ s.window.entries, e.state = .announced ∧ e.settle ≠ .expired) :
    (reevaluateZones (fun _ => true) s).window.entries =
      s.window.entries.map (fun e => if isBlocked s e then e.block s.now (holdStands s e.zone) else e) := by
  let t := setEntries (s.window.entries.map (fun e => if isBlocked s e then e.block s.now (holdStands s e.zone) else e)) s
  have keeps : KeepsZone fun e => if isBlocked s e then e.block s.now (holdStands s e.zone) else e := fun e => by
    by_cases blocked : isBlocked s e = true
    · simp [blocked, block_zone]
    · simp [blocked]
  have zones : windowZones t = windowZones s := windowZones_map keeps rfl
  have moves : Moves reevalF s (reevaluateZones (fun _ => true) s) := reevaluateZones_moves _ s
  refine entries_ext (s := t) (by rw [zones]; exact fits.2.1) ((reevaluateZones_zones _ s).trans zones.symm) fun z there => ?_
  rw [zones] at there
  obtain ⟨e, found⟩ := mem_windowZones.mp there
  have member := findEntry_mem found
  have zone := findEntry_zone found
  obtain ⟨announced, runs⟩ := fresh e member
  have image : findEntry z t = some (if isBlocked s e then e.block s.now (holdStands s e.zone) else e) := by
    rw [findEntry_map (s := s) keeps rfl, found]
    rfl
  rw [image]
  have after : (windowZones (reevaluateZones (fun _ => true) s)).Nodup := by
    rw [reevaluateZones_zones]
    exact fits.2.1
  cases blocked : isBlocked s e with
  | true =>
    have here := findEntry_of_mem after (reevaluateZones_blocks fits member rfl announced blocked)
    rw [block_zone, zone] at here
    rw [here, if_pos rfl, zone]
  | false =>
    have here := findEntry_of_mem after (reevaluateZones_stays fits member rfl announced blocked runs)
    rw [zone] at here
    rw [here, if_neg Bool.false_ne_true]

theorem urgentRequests_none {α : Type} : ∀ {xs : List α} {s : State} (_ : Asked s),
    xs.foldl (fun s _ => urgentRequest s) s = s
  | [], _, _ => rfl
  | _ :: xs, s, asked => by
    rw [List.foldl_cons, urgentRequest_asked asked]
    exact urgentRequests_none asked

/-- Requests behind the first change nothing. -/
theorem urgentRequests_one {α : Type} {xs : List α} {s : State} (some : xs ≠ []) :
    xs.foldl (fun s _ => urgentRequest s) s = urgentRequest s := by
  obtain ⟨x, ys, rfl⟩ := List.exists_cons_of_ne_nil some
  rw [List.foldl_cons]
  exact urgentRequests_none (asked_urgentRequest s)

/-- The entry that a standing claim makes. -/
def standingEntry (s : State) (r : Standing) : ClaimEntry :=
  (ClaimEntry.new r.zone r.urgency none none).announceFirst s.now (settleLength s)

/-- The standing claims written and announced, with their urgent request. -/
def standingAsked (rs : List Standing) (s : State) : State := setRadio (urgentRequest s).radio (standingBase rs s)

theorem standingAsked_eq (rs : List Standing) (s : State) : urgentRequest (standingBase rs s) = standingAsked rs s := by
  rw [urgentRequest_eq, urgentRequest_radio_congr (s := s) (t := standingBase rs s) rfl rfl rfl]
  rfl

theorem standingAsked_entries (rs : List Standing) (s : State) : (standingAsked rs s).window.entries = rs.map (standingEntry s) := rfl

theorem standingAsked_windowFits {rs : List Standing} {s : State} (few : rs.length ≤ 8) (differ : (rs.map Standing.zone).Nodup) :
    windowFits (standingAsked rs s).window := by
  refine ⟨?_, ?_, few⟩
  · rw [standingAsked_entries, List.length_map]
    exact few
  · rw [standingAsked_entries, List.map_map]
    exact differ

theorem standingAsked_asked (rs : List Standing) (s : State) : Asked (standingAsked rs s) := by
  rw [← standingAsked_eq]
  exact asked_urgentRequest _

/-- The entry that a standing claim leaves: WAITING at once where a blocker stands. -/
def standingJudged (s : State) (r : Standing) : ClaimEntry :=
  if isBlocked s (standingEntry s r) then (standingEntry s r).block s.now (holdStands s r.zone) else standingEntry s r

theorem applyStanding_entries {rs : List Standing} {s : State} (few : rs.length ≤ 8) (differ : (rs.map Standing.zone).Nodup) :
    (reevaluateZones (fun _ => true) (standingAsked rs s)).window.entries = rs.map (standingJudged s) := by
  have fresh : ∀ e ∈ (standingAsked rs s).window.entries, e.state = .announced ∧ e.settle ≠ .expired := by
    rw [standingAsked_entries]
    intro e among
    obtain ⟨r, -, rfl⟩ := List.mem_map.mp among
    exact ⟨rfl, nofun⟩
  rw [reevaluateZones_fresh (standingAsked_windowFits few differ) fresh, standingAsked_entries, List.map_map]
  rfl

theorem applyStanding_whole {rs : List Standing} {s : State} (some : rs ≠ []) (few : rs.length ≤ 8)
    (differ : (rs.map Standing.zone).Nodup) : applyStanding rs s = { s with
      window := { s.window with standing := rs, entries := rs.map (standingJudged s) }
      radio := (urgentRequest s).radio } := by
  have work : EntryWork (standingAsked rs s) (reevaluateZones (fun _ => true) (standingAsked rs s)) := .pass _ _ _ _
  have radio : (reevaluateZones (fun _ => true) (standingAsked rs s)).radio = (urgentRequest s).radio :=
    (reevaluateZones_moves _ _).radio_asked (by decide) (standingAsked_asked rs s)
  have entries := applyStanding_entries (s := s) few differ
  rw [applyStanding_eq, urgentRequests_one some, standingAsked_eq]
  unfold EntryWork at work
  rw [work, radio, entries]
  rfl

theorem standingJudged_zone (s : State) (r : Standing) : (standingJudged s r).zone = r.zone := by
  unfold standingJudged
  split <;> rfl

theorem standingJudged_unheld (s : State) (r : Standing) : (standingJudged s r).state ≠ .held := by
  unfold standingJudged
  split <;> exact nofun

/-- The hold-off line is asserted while a standing claim is not HELD. -/
theorem stopLevel_unheld {s : State} (fixed : s.isCarrier = false) (unheld : ∀ e ∈ s.window.entries, e.state ≠ .held) :
    stopLevel s = true := by
  unfold stopLevel holdOffAsserted
  rw [fixed]
  simp only [Bool.false_eq_true, if_false, Bool.or_eq_true]
  cases standing : s.window.standing with
  | nil => exact .inl (.inl (.inr rfl))
  | cons r rs =>
    refine .inl (.inr ?_)
    unfold firstUnheldStanding
    rw [standing]
    have away : isHeld s r.zone = false := by
      unfold isHeld
      rw [List.any_eq_false]
      intro e member
      simp [unheld e member]
    rw [List.find?_cons_of_pos (by rw [away]; rfl)]
    rfl

theorem standClaimHandler_own {payload : List Byte} {s : State} (running : s.running = true) (fixed : s.isCarrier = false) :
    standClaimHandler payload s = match parseStanding payload with
      | none => (s, refuse .badLength)
      | some rs =>
        if s.station.state != .active then (s, refuse .badState)
        else if !s.window.entries.isEmpty then (s, refuse .badState)
        else (applyStanding rs s, .accept [byteOf rs.length]) := classHandler_own (s := s) running (cls_of_fixed fixed)

/-- Settles O22. -/
theorem standClaim : Obligations.StandClaim := by
  intro t payload s ready settled away
  have eq : ∀ s, exec (.standClaim t payload) s =
      .next (outsideEvent t (takeCommand 0x0B#8 none payload (standClaimHandler payload)) s) := fun _ => rfl
  have length : ∀ n, none = some n → payload.length = n := nofun
  have refuses {code : RefuseCode}
      (refused : standClaimHandler payload (received t s) = (received t s, .refuse code [])) : away code :=
    turnsAway_of eq ready settled length refused
  refine ⟨fun stops => refuses (classHandler_stopped stops), fun running carrier => refuses (classHandler_other running ?_),
    fun running fixed => ?_⟩
  · simp [cls_of_carrier carrier]
  have own := standClaimHandler_own (payload := payload) (s := received t s) running fixed
  refine ⟨fun none => refuses ?_, fun rs parsed => ⟨fun idle => refuses ?_, fun active busy => refuses ?_, fun active empty => ?_⟩⟩
  · rw [own, none]
    rfl
  · rw [own, parsed]
    exact if_pos (by simpa using idle)
  · rw [own, parsed]
    dsimp only
    rw [if_neg (by simpa using active), if_pos (by simpa using (show (received t s).window.entries ≠ [] from busy))]
    rfl
  · obtain ⟨least, few, -, differ⟩ := parseStanding_fits parsed
    have some : rs ≠ [] := fun none => by rw [none] at least; exact absurd least (by decide)
    let r := received t s
    have run : exec (.standClaim t payload) s = .next (finish (queueReply 0x0B#8 (.accept [byteOf rs.length]) (applyStanding rs r))) := by
      rw [exec_ready eq ready length, own, parsed]
      dsimp only
      rw [if_neg (by simpa using active), if_neg (by simpa using (show (received t s).window.entries = [] from empty))]
    have whole := applyStanding_whole (s := r) some few differ
    have fixed' : (applyStanding rs r).isCarrier = false := by
      rw [whole]
      exact fixed
    have unheld : ∀ e ∈ (applyStanding rs r).window.entries, e.state ≠ .held := by
      rw [whole]
      intro e among
      obtain ⟨x, -, rfl⟩ := List.mem_map.mp among
      exact standingJudged_unheld r x
    have before : s.stopLine = true := settled.1.trans (stopLevel_unheld fixed (by rw [empty]; exact nofun))
    refine ⟨_, run, ?_, ?_, ?_, ?_, ?_, finish_tableKept ?_, ?_, ?_, ?_, ?_, finish_answers ?_ ?_⟩
    · rw [finish_now]
      show (applyStanding rs r).now = _
      rw [whole]
      rfl
    · rw [finish_station]
      show (applyStanding rs r).station = _
      rw [whole]
      rfl
    · rw [finish_route]
      show (applyStanding rs r).route = _
      rw [whole]
      rfl
    · rw [finish_odo]
      show (applyStanding rs r).odo = _
      rw [whole]
      rfl
    · rw [finish_auth]
      show (applyStanding rs r).auth = _
      rw [whole]
      rfl
    · show (applyStanding rs r).table = _
      rw [whole]
      rfl
    · rw [finish_window]
      show (applyStanding rs r).window = _
      rw [whole]
      rfl
    · rw [finish_radio]
      show (applyStanding rs r).radio = _
      rw [whole]
      exact urgentRequest_radio_congr rfl rfl rfl
    · rw [before, finish_stopLine, stopLevel_refresh]
      exact stopLevel_unheld (s := queueReply _ _ (applyStanding rs r)) fixed' unheld
    · rw [whole]
      exact finish_portKept rfl rfl rfl rfl rfl
    · rw [whole]
      rfl
    · rw [whole]
      rfl

end Sys2Proof.Machine
end

section
/-! O7: leaving BOOT. -/

namespace Sys2Proof.Machine

-- One proof after another: many at a time want more threads than the memory limit of a build leaves.
set_option Elab.async false

/-- A listing test with nothing stored and WINDOW_FULL clear changes nothing. -/
theorem listingTest_idle {s : State} (none : s.route.cells = []) (clear : s.window.full = false) : listingTest s = s := by
  unfold listingTest
  split
  · rw [zonesInReach_empty none]
    show { s with window := { s.window with full := false } } = s
    rw [← clear]
  · rfl

/-- A word that passes the checks names a period (R173). -/
theorem periodCode_of_passes {w : ConfigWord} (passes : failedCheck w = 0) : w.periodCode ≠ 3 := by
  intro code
  simp only [failedCheck, firstFailing_cons] at passes
  rw [decide_eq_true (p := w.periodCode = 3) code] at passes
  split at passes
  · exact nomatch passes
  · exact nomatch passes

theorem periodMs_eq {n : Nat} (few : n ≤ 2) : periodMs n * 1000 = 100000 * 2 ^ n := by
  match n, few with
  | 0, _ | 1, _ | 2, _ => rfl

theorem listenInterval_eq {n : Nat} (few : n ≤ 3) : listenInterval n = 1600000 * 2 ^ n := by
  match n, few with
  | 0, _ | 1, _ | 2, _ | 3, _ => rfl

theorem wf_codes {w : ConfigWord} (wf : w.wf = true) : w.periodCode ≤ 3 ∧ w.listenCode ≤ 3 := by
  unfold ConfigWord.wf at wf
  simp only [Bool.and_eq_true, decide_eq_true_eq] at wf
  obtain ⟨⟨⟨⟨⟨⟨⟨⟨⟨-, period⟩, listen⟩, -⟩, -⟩, -⟩, -⟩, -⟩, -⟩, -⟩ := wf
  exact ⟨period, listen⟩

theorem isCarrier_locked (w : ConfigWord) {s : State} (cfg : s.station.cfg = some w) : s.isCarrier = decide (w.cls = .carrier) := by
  unfold State.isCarrier State.cls
  rw [cfg]

/-- Outside ACTIVE the hold-off line of a FIXED station is asserted. -/
theorem stopLevel_idle {s : State} (fixed : s.isCarrier = false) (idle : s.station.state ≠ .active) : stopLevel s = true := by
  unfold stopLevel holdOffAsserted
  rw [fixed]
  simp [idle]

theorem configuredMode_eq (w : ConfigWord) : (w.modeCode = 0 → configuredMode w = .dual) ∧
    (w.modeCode = 1 → configuredMode w = .aOnly) ∧ (w.modeCode = 2 → configuredMode w = .bOnly) := by
  unfold configuredMode
  exact ⟨fun code => by rw [code]; rfl, fun code => by rw [code]; rfl, fun code => by rw [code]; rfl⟩

/-- The read of a word that passes, in an empty part. -/
theorem configRead_listens {w : ConfigWord} {s : State} (boot : s.station.state = .boot) (unread : s.station.cfg = none)
    (passes : failedCheck w = 0) (cells : s.route.cells = []) (full : s.window.full = false) :
    configRead w s = listenBase w (lockWord w s) := by
  rw [configRead_unread boot unread, if_pos passes, enterListen_eq]
  exact listingTest_idle cells full

/-- Settles O7. -/
theorem leavingBoot : Obligations.LeavingBoot := by
  unfold Obligations.LeavingBoot
  intro t w s held boot unread wf cells _ full causes
  obtain ⟨period, listen⟩ := wf_codes wf
  obtain ⟨dual, aOnly, bOnly⟩ := configuredMode_eq w
  let r := s.reach t
  have run : exec (.configReadComplete t w) s = .next (finish (configRead w r)) := exec_configReadComplete held
  by_cases passes : failedCheck w = 0
  · rw [configRead_listens (s := r) boot unread passes cells full] at run
    have two : w.periodCode ≤ 2 := Nat.le_of_lt_succ (Nat.lt_of_le_of_ne period (periodCode_of_passes passes))
    have last : periodMs w.periodCode * 1000 = 100000 * 2 ^ w.periodCode := periodMs_eq two
    let b := listenBase w (lockWord w r)
    refine ⟨finish b, run, ?_, ?_, ?_, ?_, finish_reports rfl, ?_, fun code => ?_, fun code => ?_, fun code => ?_,
      fun _ => ⟨?_, ?_, ?_, ?_⟩, fun fails => absurd passes fails⟩
    · rw [finish_now]
      rfl
    · rw [finish_route]
      rfl
    · rw [finish_window]
      rfl
    · exact (finish_portKept (s := b) rfl rfl rfl rfl rfl).2.2.2.1
    · rw [finish_odo]
      rfl
    · rw [finish_odo]
      exact dual code
    · rw [finish_odo]
      exact aOnly code
    · rw [finish_odo]
      exact bOnly code
    · rw [finish_station, ← listenInterval_eq listen]
      rfl
    · rw [finish_auth]
      show { s.auth with causes := { s.auth.causes with boot := false } } = _
      rw [causes]
    · rw [finish_stopLine, stopLevel_refresh]
      cases cls : w.cls with
      | carrier =>
        have carrier : b.isCarrier = true := (isCarrier_locked w rfl).trans (by rw [cls]; rfl)
        unfold stopLevel
        rw [if_pos carrier]
        show StopCauses.any { s.auth.causes with boot := false } = _
        rw [causes]
        rfl
      | fixed => exact stopLevel_idle ((isCarrier_locked (s := b) w rfl).trans (by rw [cls]; rfl)) nofun
    · rw [finish_radio, ← last]
      rfl
  · rw [configRead_unread (s := r) boot unread, if_neg passes] at run
    let b := enterConfigFault (failedCheck w) (lockWord w r)
    refine ⟨finish b, run, ?_, ?_, ?_, ?_, finish_reports rfl, ?_, fun code => ?_, fun code => ?_, fun code => ?_,
      fun pass => absurd pass passes, fun _ => ⟨?_, ?_, ?_, ?_⟩⟩
    · rw [finish_now]
      rfl
    · rw [finish_route]
      rfl
    · rw [finish_window]
      rfl
    · exact (finish_portKept (s := b) rfl rfl rfl rfl rfl).2.2.2.1
    · rw [finish_odo]
      rfl
    · rw [finish_odo]
      exact dual code
    · rw [finish_odo]
      exact aOnly code
    · rw [finish_odo]
      exact bOnly code
    · rw [finish_station]
      rfl
    · rw [finish_auth]
      show { s.auth with causes := { s.auth.causes with boot := false, configFault := true } } = _
      rw [causes]
    · rw [finish_stopLine, stopLevel_refresh]
      cases cls : w.cls with
      | carrier =>
        have carrier : b.isCarrier = true := (isCarrier_locked w rfl).trans (by rw [cls]; rfl)
        unfold stopLevel
        rw [if_pos carrier]
        show StopCauses.any { s.auth.causes with boot := false, configFault := true } = _
        rw [causes]
        rfl
      | fixed => exact stopLevel_idle ((isCarrier_locked (s := b) w rfl).trans (by rw [cls]; rfl)) nofun
    · rw [finish_radio]
      rfl

end Sys2Proof.Machine
end

section
/-! O42: the braking candidates. -/

namespace Sys2Proof.Machine

-- One proof after another: many at a time want more threads than the memory limit of a build leaves.
set_option Elab.async false

/-! ### The root -/

theorem int_pow_two (x : Int) : x ^ 2 = x * x := by
  rw [Int.pow_succ, Int.pow_succ, Int.pow_zero, Int.one_mul]

/-- A number is at most the root exactly when its square is at most the argument. -/
theorem le_isqrt_iff {n v : Nat} (small : n < 2 ^ 64) : v ≤ isqrt n ↔ v ^ 2 ≤ n := by
  obtain ⟨low, high⟩ := isqrt_spec small
  constructor
  · intro le
    exact Nat.le_trans (by rw [Nat.pow_two]; exact Nat.mul_le_mul le le) low
  · intro square
    refine Classical.byContradiction fun greater => ?_
    have above : isqrt n + 1 ≤ v := Nat.lt_of_not_le greater
    exact absurd (Nat.lt_of_le_of_lt (by rw [← Nat.pow_two]; exact square) high) (Nat.not_lt.mpr (Nat.mul_le_mul above above))

/-- The candidate of a distance: 0 at or beyond the point, the root of 2 × a × d before it. -/
theorem root_spec (a : Nat) (d : Int) : (d ≤ 0 → isqrt (2 * a * d.toNat) = 0) ∧
    (0 < d → 2 * (a : Int) * d < 2 ^ 64 → ((isqrt (2 * a * d.toNat) : Nat) : Int) ^ 2 ≤ 2 * a * d ∧
      2 * (a : Int) * d < ((isqrt (2 * a * d.toNat) : Nat) + 1 : Int) ^ 2) := by
  refine ⟨fun beyond => ?_, fun before small => ?_⟩
  · rw [Int.toNat_of_nonpos beyond, Nat.mul_zero, isqrt_zero]
  · obtain ⟨m, rfl⟩ := Int.eq_ofNat_of_zero_le (Int.le_of_lt before)
    have small' : 2 * a * m < 2 ^ 64 := by exact_mod_cast small
    obtain ⟨low, high⟩ := isqrt_spec small'
    rw [Int.toNat_natCast]
    refine ⟨?_, ?_⟩
    · rw [int_pow_two]
      exact_mod_cast low
    · rw [int_pow_two]
      exact_mod_cast high

/-! ### The look-ahead cells (R116) -/

theorem mem_takeWhile_iff {α : Type} {p : α → Bool} {x : α} : ∀ {xs : List α},
    x ∈ xs.takeWhile p ↔ ∃ k : Nat, xs[k]? = some x ∧ ∀ j ≤ k, ∀ b, xs[j]? = some b → p b = true
  | [] => by simp
  | y :: ys => by
    cases is : p y with
    | false =>
      rw [List.takeWhile_cons_of_neg (by rw [is]; exact Bool.false_ne_true)]
      refine ⟨fun h => absurd h (List.not_mem_nil), fun ⟨k, _, all⟩ => ?_⟩
      exact absurd (all 0 (Nat.zero_le k) y rfl) (by rw [is]; exact Bool.false_ne_true)
    | true =>
      rw [List.takeWhile_cons_of_pos is, List.mem_cons, mem_takeWhile_iff]
      constructor
      · rintro (rfl | ⟨k, at_, all⟩)
        · refine ⟨0, rfl, fun j low b eq => ?_⟩
          obtain rfl := Nat.le_zero.mp low
          obtain rfl := Option.some.inj eq
          exact is
        · refine ⟨k + 1, at_, fun j low b eq => ?_⟩
          cases j with
          | zero =>
            obtain rfl := Option.some.inj eq
            exact is
          | succ j => exact all j (Nat.le_of_succ_le_succ low) b eq
      · rintro ⟨k, at_, all⟩
        cases k with
        | zero => exact .inl (Option.some.inj at_).symm
        | succ k => exact .inr ⟨k, at_, fun j low b eq => all (j + 1) (Nat.succ_le_succ low) b eq⟩

theorem mem_lookAheadCells {s : State} {c : StoredCell} : c ∈ lookAheadCells s ↔
    ∃ i, s.front ≤ i ∧ i < s.front + 4 ∧ s.route.cells[i]? = some c ∧
      ∀ j b, s.front ≤ j → j ≤ i → s.route.cells[j]? = some b → b.entry ≤ s.auth.horizon := by
  have at_ (k : Nat) : ((s.route.cells.drop s.front).take 4)[k]? = if k < 4 then s.route.cells[s.front + k]? else none := by
    rw [List.getElem?_take, List.getElem?_drop]
  unfold lookAheadCells
  rw [mem_takeWhile_iff]
  constructor
  · rintro ⟨k, eq, all⟩
    rw [at_] at eq
    split at eq
    · rename_i few
      refine ⟨s.front + k, Nat.le_add_right _ _, Nat.add_lt_add_left few _, eq, fun j b low high cell => ?_⟩
      have near := all (j - s.front) (by omega) b
      rw [at_, if_pos (by omega), Nat.add_sub_cancel' low] at near
      simpa using near cell
    · exact nomatch eq
  · rintro ⟨i, low, high, cell, all⟩
    refine ⟨i - s.front, ?_, fun j few b eq => ?_⟩
    · rw [at_, if_pos (by omega), Nat.add_sub_cancel' low]
      exact cell
    · rw [at_, if_pos (by omega)] at eq
      exact decide_eq_true (all (s.front + j) b (Nat.le_add_right _ _) (by omega) eq)

/-! ### The raw ceiling (R117) -/

theorem le_foldl_min {v : Nat} : ∀ {xs : List Nat} {n : Nat}, v ≤ xs.foldl min n ↔ v ≤ n ∧ ∀ x ∈ xs, v ≤ x
  | [], n => by simp
  | x :: xs, n => by
    rw [List.foldl_cons, le_foldl_min, Nat.le_min, List.forall_mem_cons, and_assoc]

theorem le_rawCeiling_iff {s : State} {v : Nat} : v ≤ rawCeiling s ↔ v ≤ s.profile.cap ∧ v ≤ zoneCandidate s ∧
    (∀ c, stopCandidate s = some c → v ≤ c) ∧ (∀ c ∈ lookAheadCells s, v ≤ lookAheadCandidate s c) ∧
    (∀ c, frontCell s = some c → v ≤ c.cell.limit) ∧ (s.odo.quality = .lost → v ≤ 300) := by
  have least : v ≤ (zoneCandidate s :: ((stopCandidate s).toList ++ (lookAheadCells s).map (lookAheadCandidate s) ++
      ((frontCell s).map (fun c => c.cell.limit)).toList)).foldl min s.profile.cap ↔
      v ≤ s.profile.cap ∧ v ≤ zoneCandidate s ∧ (∀ c, stopCandidate s = some c → v ≤ c) ∧
        (∀ c ∈ lookAheadCells s, v ≤ lookAheadCandidate s c) ∧ (∀ c, frontCell s = some c → v ≤ c.cell.limit) := by
    rw [le_foldl_min]
    simp only [List.forall_mem_cons, List.mem_append, Option.mem_toList, List.mem_map, Option.map_eq_some_iff, or_imp,
      forall_and, forall_exists_index, and_imp, forall_apply_eq_imp_iff₂, and_assoc]
  unfold rawCeiling
  dsimp only
  cases quality : s.odo.quality with
  | lost =>
    dsimp only
    rw [Nat.le_min, least]
    simp only [and_assoc, forall_const]
  | good | doubt =>
    dsimp only
    rw [least]
    simp only [reduceCtorEq, false_implies, and_true]

theorem le_lookAheadCandidate_iff {s : State} {c : StoredCell} {v : Nat}
    (small : (c.cell.limit : Int) ^ 2 + 2 * s.profile.decel * max 0 (c.entry - s.s - reactionDistance s) < 2 ^ 64) :
    v ≤ lookAheadCandidate s c ↔
      (v : Int) ^ 2 ≤ (c.cell.limit : Int) ^ 2 + 2 * s.profile.decel * max 0 (c.entry - s.s - reactionDistance s) := by
  unfold lookAheadCandidate
  have far : max 0 (c.entry - s.s - reactionDistance s) = ((c.entry - s.s - (reactionDistance s : Int)).toNat : Int) := by
    rw [Int.toNat_eq_max, Int.max_comm]
  rw [far] at small ⊢
  have small' : c.cell.limit ^ 2 + 2 * s.profile.decel * (c.entry - s.s - (reactionDistance s : Int)).toNat < 2 ^ 64 := by
    exact_mod_cast small
  rw [le_isqrt_iff small']
  exact_mod_cast Iff.rfl

/-- Settles O42. -/
theorem brakingCandidates : Obligations.BrakingCandidates := by
  intro s a root ahead square within
  refine ⟨root_spec a _, fun none => ?_, fun h stop => ⟨_, ?_, root_spec a _⟩, fun small => ?_⟩
  · unfold stopCandidate
    rw [none]
    rfl
  · unfold stopCandidate
    rw [stop]
    rfl
  · have bounds (v : Nat) : v ≤ rawCeiling s ↔ within v := by
      have look : (∀ c ∈ lookAheadCells s, v ≤ lookAheadCandidate s c) ↔ ∀ c, ahead c → (v : Int) ^ 2 ≤ square c :=
        forall_congr' fun c => by
          have same : c ∈ lookAheadCells s ↔ ahead c := mem_lookAheadCells
          rw [same]
          exact imp_congr_right fun near => le_lookAheadCandidate_iff (small c near)
      rw [le_rawCeiling_iff, look]
      constructor
      · rintro ⟨cap, zone, stop, near, front, lost⟩
        exact ⟨zone, stop, near, front, cap, lost⟩
      · rintro ⟨zone, stop, near, front, cap, lost⟩
        exact ⟨cap, zone, stop, near, front, lost⟩
    exact ⟨(bounds _).mp (Nat.le_refl _), fun v is => (bounds v).mpr is⟩

end Sys2Proof.Machine
end

section
/-! O12: ROUTE_APPEND, and what a delivery does when no claim has lost its need. -/

namespace Sys2Proof.Machine

-- One proof after another: many at a time want more threads than the memory limit of a build leaves.
set_option Elab.async false


/-! ### The delivery (R24) -/

/-- The zones of the HELD entries that have lost their need. -/
def lostZones (s : State) : List Nat :=
  (s.window.entries.filter (fun e => e.state = .held && !isNeeded e.zone s.route.cells)).map ClaimEntry.zone

/-- The zones of the unheld entries that have lost their need. -/
def withdrawnZones (s : State) : List Nat :=
  (s.window.entries.filter (fun e => e.unheld && !isNeeded e.zone s.route.cells)).map ClaimEntry.zone

/-- The delivery up to its re-evaluations. -/
def needsTaken (s : State) : State :=
  removeZones (withdrawnZones s) ((lostZones s).foldl (fun s z => releaseEntry z s) (updateAll s))

theorem deliverNeeds_eq (s : State) : ∃ sel, deliverNeeds s = reevaluateZones sel (needsTaken s) := ⟨_, rfl⟩

theorem removeZones_none (s : State) : removeZones [] s = s := by
  have all : s.window.entries.filter (fun e => !([] : List Nat).contains e.zone) = s.window.entries :=
    List.filter_eq_self.mpr fun _ _ => rfl
  unfold removeZones
  rw [all]
  rfl

section
variable {s : State}

theorem lostZones_none (needed : ∀ e ∈ s.window.entries, e.state = .held → isNeeded e.zone s.route.cells = true) :
    lostZones s = [] := by
  unfold lostZones
  rw [List.map_eq_nil_iff, List.filter_eq_nil_iff]
  intro e member
  by_cases held : e.state = .held
  · simp [needed e member held]
  · simp [held]

theorem withdrawnZones_none (needed : ∀ e ∈ s.window.entries, e.unheld = true → isNeeded e.zone s.route.cells = true) :
    withdrawnZones s = [] := by
  unfold withdrawnZones
  rw [List.map_eq_nil_iff, List.filter_eq_nil_iff]
  intro e member
  cases unheld : e.unheld with
  | false => simp
  | true => simp [needed e member unheld]

/-- A delivery that releases nothing works on entries alone. -/
theorem deliverNeeds_entryWork (needed : ∀ e ∈ s.window.entries, e.state = .held → isNeeded e.zone s.route.cells = true) :
    EntryWork s (deliverNeeds s) := by
  obtain ⟨sel, eq⟩ := deliverNeeds_eq s
  rw [eq]
  unfold needsTaken
  rw [lostZones_none needed]
  exact ((EntryWork.of_entries _ s).trans (.of_entries _ _)).trans (.pass sel _ _ _)

/-- With every claim needed, a delivery brings the entries up to date and re-evaluates some. -/
theorem deliverNeeds_needed (needed : ∀ e ∈ s.window.entries, e.state ≠ .releasing → isNeeded e.zone s.route.cells = true) :
    ∃ sel, deliverNeeds s = reevaluateZones sel (updateAll s) := by
  obtain ⟨sel, eq⟩ := deliverNeeds_eq s
  refine ⟨sel, ?_⟩
  rw [eq]
  unfold needsTaken
  rw [lostZones_none fun e member held => needed e member (by rw [held]; decide),
    withdrawnZones_none fun e member unheld => needed e member fun releasing => ?_, removeZones_none]
  · rfl
  · rw [unheld_of_releasing releasing] at unheld
    exact nomatch unheld

theorem updateAll_zones (s : State) : (windowZones (updateAll s)).Perm (windowZones s) := by
  refine ((orderEntries_perm _ _).map ClaimEntry.zone).trans (.of_eq ?_)
  rw [List.map_map]
  rfl

theorem deliverNeeds_zones (needed : ∀ e ∈ s.window.entries, e.state ≠ .releasing → isNeeded e.zone s.route.cells = true) :
    (windowZones (deliverNeeds s)).Perm (windowZones s) := by
  obtain ⟨sel, eq⟩ := deliverNeeds_needed needed
  rw [eq, reevaluateZones_zones]
  exact updateAll_zones s

theorem deliver_held (needed : ∀ e ∈ s.window.entries, e.state ≠ .releasing → isNeeded e.zone s.route.cells = true)
    (fits : windowFits s.window) {z : Nat} (held : isHeld s z = true) : isHeld (deliver s) z = true := by
  have delivered : Moves (.needs :: listingF) s (deliverNeeds s) := by
    obtain ⟨sel, eq⟩ := deliverNeeds_needed needed
    rw [eq]
    exact (Moves.one (.needs s)).trans ((reevaluateZones_moves sel _).mono (by decide))
  exact (delivered.trans ((listingTest_moves _).mono (by decide))).held_stays (by decide) fits held

theorem listingTest_auth (other : s.station.state ≠ .listen) : (listingTest s).auth = s.auth := by
  by_cases active : s.station.state = .active
  · exact (listingTest_listWork active).auth
  · refine congrArg State.auth (listingTest_still (Bool.eq_false_iff.mpr fun runs => ?_))
    obtain ⟨-, state⟩ := listingRuns_iff.mp runs
    exact state.elim other active

theorem deliver_auth (needed : ∀ e ∈ s.window.entries, e.state = .held → isNeeded e.zone s.route.cells = true)
    (other : s.station.state ≠ .listen) : (deliver s).auth = s.auth := by
  have delivered := deliverNeeds_entryWork needed
  exact (listingTest_auth (by rw [delivered.station]; exact other)).trans delivered.auth

end

/-! ### ROUTE_APPEND (R9, R10) -/

/-- The store after an append. -/
def appended (cells : List RouteCell) (s : State) : State :=
  setCells (s.route.cells ++ layCells (routeEnd s.route.cells) cells) s

theorem applyAppend_eq (cells : List RouteCell) (s : State) : applyAppend cells s = deliver (appended cells s) := rfl

theorem appended_needed {cells : List RouteCell} {s : State} (carrier : s.isCarrier = true) (inv : routeInv s) :
    ∀ e ∈ (appended cells s).window.entries, e.state ≠ .releasing → isNeeded e.zone (appended cells s).route.cells = true := by
  intro e member claims
  obtain ⟨-, needed, -⟩ := routeInv_iff.mp inv
  obtain none | here := needed e member claims
  · exact absurd none List.not_mem_nil
  · exact isNeeded_append ((neededZone_carrier carrier).mp here)

theorem routeAppendHandler_own {payload : List Byte} {s : State} (running : s.running = true) (carrier : s.isCarrier = true) :
    routeAppendHandler payload s = match parseAppend payload with
      | none => (s, refuse .badLength)
      | some cells =>
        if s.route.cells.isEmpty then (s, refuse .badState)
        else
          match firstBadCell cells with
          | some i => (s, .refuse .badCell [byteOf i])
          | none =>
            if maxCells < s.route.cells.length + cells.length then (s, refuse .routeFull)
            else (applyAppend cells s, .accept [byteOf (applyAppend cells s).route.cells.length]) :=
  classHandler_own running (cls_of_carrier carrier)

/-- Settles O12: the appended cells take no claim's need away, so the delivery releases nothing. -/
theorem routeAppend : Obligations.RouteAppend := by
  intro t payload s ready settled inv away
  have eq : ∀ s, exec (.routeAppend t payload) s =
      .next (outsideEvent t (takeCommand 2#8 none payload (routeAppendHandler payload)) s) := fun _ => rfl
  have length : ∀ n, Option.none = some n → payload.length = n := nofun
  have refuses {code : RefuseCode} {q : List Byte}
      (refused : routeAppendHandler payload (received t s) = (received t s, .refuse code q)) : away code q :=
    turnsAway_of eq ready settled length refused
  refine ⟨fun stops => refuses (classHandler_stopped stops), fun running fixed => refuses (classHandler_other running ?_),
    fun running carrier => ⟨fun none => refuses ?_, fun cells parsed => ?_⟩⟩
  · simp [cls_of_fixed fixed]
  · rw [routeAppendHandler_own (s := received t s) running carrier, none]
    rfl
  have own := routeAppendHandler_own (payload := payload) (s := received t s) running carrier
  rw [parsed] at own
  dsimp only at own
  refine ⟨fun empty => refuses ?_, fun stored => ⟨fun before c after split good bad => refuses ?_, fun good => ⟨fun over_ =>
    refuses ?_, fun room => ?_⟩⟩⟩
  · rw [own, if_pos (by rw [show (received t s).route.cells = [] from empty]; rfl)]
    rfl
  all_goals
    have stored' : ¬(received t s).route.cells.isEmpty = true := fun empty => stored (List.isEmpty_iff.mp empty)
    rw [if_neg stored'] at own
  · rw [own, split, firstBadCell_split good bad]
  all_goals rw [firstBadCell_allGood good] at own; dsimp only at own
  · rw [own]
    exact if_pos over_
  have few : ¬maxCells < (received t s).route.cells.length + cells.length := Nat.not_lt.mpr room
  rw [if_neg few] at own
  let b := appended cells (received t s)
  obtain ⟨v, is⟩ : ∃ v, v = deliver b := ⟨_, rfl⟩
  have inner : Inner b v := is ▸ deliver_inner b
  have claims := appended_needed (cells := cells) (s := received t s) carrier inv
  have kept : profilesKept s v := inner.profilesKept
  have count : v.route.cells.length = s.route.cells.length + cells.length := by
    rw [inner.route]
    show (s.route.cells ++ layCells (routeEnd s.route.cells) cells).length = _
    rw [List.length_append, layCells_length]
  have run : exec (.routeAppend t payload) s =
      .next (finish (queueReply 2#8 (.accept [byteOf (s.route.cells.length + cells.length)]) v)) := by
    rw [exec_ready eq ready length, own, ← count, is]
    rfl
  obtain ⟨⟨-, fits, -, -⟩, -, -⟩ := routeInv_iff.mp inv
  refine ⟨_, run, ?_, ?_, ?_, ?_, fun other => ?_, finish_profilesKept kept, finish_tableKept inner.table,
    finish_radioKept inner.radio, finish_queueReply_portKept (s := b) inner, ?_, fun z held => ?_, fun parked z => ?_,
    finish_answers ?_ ?_⟩
  · rw [finish_now]
    exact inner.now
  · rw [finish_route, queueReply_route, inner.route]
    rfl
  · rw [finish_odo]
    exact inner.odo
  · rw [finish_station]
    exact inner.station
  · rw [finish_auth]
    rw [queueReply_auth, is]
    exact deliver_auth (s := b) (fun e member held => claims e member (by rw [held]; decide)) other
  · rw [finish_window]
    exact inner.standing
  · rw [isHeld_finish]
    rw [is]
    exact deliver_held (s := b) claims fits held
  · have still : v = deliverNeeds b := by
      rw [is]
      refine listingTest_still (Bool.eq_false_iff.mpr fun runs => ?_)
      obtain ⟨-, state⟩ := listingRuns_iff.mp runs
      rw [(deliverNeeds_inner b).station, show b.station.state = .parked from parked] at state
      exact state.elim nofun nofun
    unfold windowZones
    rw [finish_window, queueReply_window, still]
    exact (deliverNeeds_zones claims).mem_iff
  · rw [inner.port]
    rfl
  · rw [inner.port]
    rfl

end Sys2Proof.Machine
end

section
/-! O13: ROUTE_CUT, and what a delivery keeps of a HELD and committed zone. -/

namespace Sys2Proof.Machine

-- One proof after another: many at a time want more threads than the memory limit of a build leaves.
set_option Elab.async false

/-! ### A committed zone under a delivery -/

section
variable {s : State} {y z : Nat} {e : ClaimEntry}

theorem releaseEntry_committed (fits : windowFits s.window) (other : z ≠ y) (found : findEntry z s = some e)
    (held : e.state = .held) (committed : e.committed = true) : findEntry z (releaseEntry y s) = some e := by
  refine immediateRecompute_committed ?_ ?_ held committed
  · rw [urgentRequest_window]
    exact modifyEntry_windowFits release_zone fits
  · rw [findEntry_congr (s := modifyEntry y ClaimEntry.release s) (by rw [urgentRequest_window]),
      findEntry_modifyEntry_ne release_zone other]
    exact found

end

theorem releaseEntries_committed {z : Nat} {e : ClaimEntry} (held : e.state = .held) (committed : e.committed = true) :
    ∀ {zs : List Nat} {s : State} (_ : windowFits s.window) (_ : z ∉ zs) (_ : findEntry z s = some e),
      findEntry z (zs.foldl (fun s y => releaseEntry y s) s) = some e
  | [], _, _, _, found => found
  | y :: zs, s, fits, away, found => by
    rw [List.mem_cons, not_or] at away
    exact releaseEntries_committed (s := releaseEntry y s) held committed ((releaseEntry_moves y s).windowFits fits) away.2
      (releaseEntry_committed fits away.1 found held committed)

theorem releaseEntries_ceiling_le : ∀ (zs : List Nat) (s : State),
    (zs.foldl (fun s y => releaseEntry y s) s).auth.ceiling ≤ s.auth.ceiling
  | [], _ => Nat.le_refl _
  | y :: zs, s => by
    refine Nat.le_trans (releaseEntries_ceiling_le zs (releaseEntry y s)) ?_
    refine Nat.le_trans (immediateRecompute_ceiling_le _) ?_
    rw [urgentRequest_auth]
    exact Nat.le_refl _

section
variable {s : State} {e : ClaimEntry}

theorem removeZones_stays {zs : List Nat} (away : e.zone ∉ zs) (member : e ∈ s.window.entries) :
    e ∈ (removeZones zs s).window.entries :=
  List.mem_filter.mpr ⟨member, by simpa using away⟩

theorem removeZones_windowFits {zs : List Nat} (fits : windowFits s.window) : windowFits (removeZones zs s).window :=
  windowFits_of_sublist (List.filter_sublist.map _) rfl fits

theorem updateAll_windowFits (fits : windowFits s.window) : windowFits (updateAll s).window :=
  (Move.needs s).windowFits fits

theorem needsTaken_windowFits (fits : windowFits s.window) : windowFits (needsTaken s).window :=
  removeZones_windowFits ((releaseEntries_moves _ _).windowFits (updateAll_windowFits fits))

theorem mem_updateAll (member : e ∈ s.window.entries) : e.updateNeeds s.route.cells ∈ (updateAll s).window.entries :=
  (orderEntries_perm _ _).mem_iff.mpr (List.mem_map_of_mem member)

/-- A HELD and committed zone that is needed still goes through a delivery unharmed. -/
theorem deliverNeeds_committed (fits : windowFits s.window) (member : e ∈ s.window.entries) (held : e.state = .held)
    (committed : e.committed = true) (needed : isNeeded e.zone s.route.cells = true) :
    e.updateNeeds s.route.cells ∈ (deliverNeeds s).window.entries := by
  have unlost : e.zone ∉ lostZones s := fun lost => by
    have is := (mem_zones_iff fits member).mp lost
    rw [needed] at is
    simp at is
  have unwithdrawn : e.zone ∉ withdrawnZones s := fun gone => by
    have is := (mem_zones_iff fits member).mp gone
    rw [needed] at is
    simp at is
  have updated : findEntry e.zone (updateAll s) = some (e.updateNeeds s.route.cells) :=
    findEntry_of_mem (updateAll_windowFits fits).2.1 (mem_updateAll member)
  have released := releaseEntries_committed (e := e.updateNeeds s.route.cells) held committed (updateAll_windowFits fits) unlost updated
  obtain ⟨sel, eq⟩ := deliverNeeds_eq s
  rw [eq]
  exact reevaluateZones_rests (needsTaken_windowFits fits) (removeZones_stays unwithdrawn (findEntry_mem released))
    (not_requested held (by decide))

/-- The listing test leaves an entry that is neither ANNOUNCED nor RELEASING. -/
theorem listingTest_stays (fits : windowFits s.window) (member : e ∈ s.window.entries) (still : e.state ≠ .announced)
    (claims : e.state ≠ .releasing) : e ∈ (listingTest s).window.entries := by
  cases runs : listingRuns s with
  | false =>
    rw [listingTest_still runs]
    exact member
  | true =>
    obtain ⟨visited, rest, walked⟩ := listingTest_walked runs
    exact walked.mem_of_found
      (walked.keeps fits (findEntry_of_mem fits.2.1 member) still fun _ _ _ revives => claims revives.1)

theorem deliver_committed (fits : windowFits s.window) (member : e ∈ s.window.entries) (held : e.state = .held)
    (committed : e.committed = true) (needed : isNeeded e.zone s.route.cells = true) :
    e.updateNeeds s.route.cells ∈ (deliver s).window.entries :=
  listingTest_stays ((deliverNeeds_moves s).windowFits fits) (deliverNeeds_committed fits member held committed needed)
    (by show e.state ≠ _; rw [held]; decide) (by show e.state ≠ _; rw [held]; decide)

end

theorem Moves.ceiling_same {F : List Flag} (kind : ∀ f ∈ F, f ∈ innerF)
    (other : ∀ f ∈ F, f ∉ [Flag.ceiling, .tick, .overrun]) {s t : State} (m : Moves F s t) :
    t.auth.ceiling = s.auth.ceiling :=
  m.keeps (I := fun t => t.auth.ceiling = s.auth.ceiling) (fun f a b member move before => by
    obtain rfl | member := member
    · exact (move.ceiling_same (by decide) (by decide)).1.trans before
    · exact (move.ceiling_same (kind f member) (other f member)).1.trans before) rfl

theorem deliver_ceiling_le (s : State) : (deliver s).auth.ceiling ≤ s.auth.ceiling := by
  have listed : (deliver s).auth.ceiling = (deliverNeeds s).auth.ceiling :=
    (listingTest_moves _).ceiling_same (by decide) (by decide)
  obtain ⟨sel, eq⟩ := deliverNeeds_eq s
  rw [listed, eq, (reevaluateZones_moves sel _).ceiling_same (by decide) (by decide)]
  exact releaseEntries_ceiling_le (lostZones s) (updateAll s)

/-! ### ROUTE_CUT (R14, R15) -/

/-- The store after a cut. -/
def cutAt (kept : Nat) (s : State) : State := setCells (s.route.cells.take kept) s

theorem applyCut_all {kept : Nat} {s : State} (all : s.route.cells.length ≤ kept) : applyCut kept s = s :=
  if_neg (Nat.not_lt.mpr all)

theorem applyCut_some {kept : Nat} {s : State} (some : kept < s.route.cells.length) :
    applyCut kept s = immediateRecompute (deliver (cutAt kept s)) := if_pos some

theorem foldl_max_le {v : Nat} : ∀ {xs : List Nat} {n : Nat}, xs.foldl max n ≤ v ↔ n ≤ v ∧ ∀ x ∈ xs, x ≤ v
  | [], n => by simp
  | x :: xs, n => by
    rw [List.foldl_cons, foldl_max_le, Nat.max_le, List.forall_mem_cons, and_assoc]

/-- The greatest position is the bound that one of them reaches. -/
theorem lastCommitted_eq {s : State} {last : Nat}
    (bound : ∀ e ∈ s.window.entries, e.state = .held → e.committed = true →
      ∀ k, lastNeeding e.zone s.route.cells = some k → k ≤ last)
    (reached : last = 0 ∨ ∃ e ∈ s.window.entries, e.state = .held ∧ e.committed = true ∧
      lastNeeding e.zone s.route.cells = some last) : lastCommitted s = last := by
  unfold lastCommitted
  refine Nat.le_antisymm (foldl_max_le.mpr ⟨Nat.zero_le _, fun k member => ?_⟩) ?_
  · obtain ⟨e, here, at_⟩ := List.mem_filterMap.mp member
    obtain ⟨here, marks⟩ := List.mem_filter.mp here
    simp only [Bool.and_eq_true, decide_eq_true_eq] at marks
    exact bound e here marks.1 marks.2 k at_
  · obtain rfl | ⟨e, here, held, committed, at_⟩ := reached
    · exact Nat.zero_le _
    · exact (foldl_max_le.mp (Nat.le_refl _)).2 last
        (List.mem_filterMap.mpr ⟨e, List.mem_filter.mpr ⟨here, by simp [held, committed]⟩, at_⟩)

/-- A zone whose last needing cell stays is needed still. -/
theorem isNeeded_take {z n k : Nat} {cells : List StoredCell} (last : lastNeeding z cells = some k) (within : k ≤ n) :
    isNeeded z (cells.take n) = true := by
  unfold lastNeeding at last
  obtain ⟨i, found, rfl⟩ := Option.map_eq_some_iff.mp last
  obtain ⟨inside, needs, -⟩ := List.findIdx?_eq_some_iff_getElem.mp found
  rw [List.getElem_reverse] at needs
  rw [List.length_reverse] at inside
  exact List.any_eq_true.mpr ⟨_, List.mem_take_iff_getElem.mpr ⟨cells.length - 1 - i, by omega, rfl⟩, needs⟩

theorem lastNeeding_le {z k : Nat} {cells : List StoredCell} (last : lastNeeding z cells = some k) : k ≤ cells.length := by
  unfold lastNeeding at last
  obtain ⟨i, -, rfl⟩ := Option.map_eq_some_iff.mp last
  exact Nat.sub_le _ _

theorem lastNeeding_some {z : Nat} {cells : List StoredCell} (needed : isNeeded z cells = true) :
    ∃ k, lastNeeding z cells = some k := by
  obtain ⟨c, member, needs⟩ := List.any_eq_true.mp needed
  unfold lastNeeding
  cases found : cells.reverse.findIdx? (StoredCell.needs z) with
  | none =>
    have away := List.findIdx?_eq_none_iff.mp found c (List.mem_reverse.mpr member)
    rw [away] at needs
    exact nomatch needs
  | some i => exact ⟨_, rfl⟩

theorem routeCutHandler_own {keep : Byte} {s : State} (running : s.running = true) (carrier : s.isCarrier = true) :
    routeCutHandler [keep] s = if s.route.cells.isEmpty then (s, refuse .badState)
      else (applyCut (countKept keep.toNat s) s, .accept [byteOf (countKept keep.toNat s)]) :=
  classHandler_own running (cls_of_carrier carrier)

theorem applyCut_committed {kept : Nat} {s : State} {e : ClaimEntry} (some : kept < s.route.cells.length)
    (fits : windowFits s.window) (member : e ∈ s.window.entries) (held : e.state = .held) (committed : e.committed = true)
    (needed : isNeeded e.zone (s.route.cells.take kept) = true) :
    e.updateNeeds (s.route.cells.take kept) ∈ (applyCut kept s).window.entries := by
  have delivered := deliver_committed (s := cutAt kept s) fits member held committed needed
  have fits' : windowFits (deliver (cutAt kept s)).window := (deliver_moves _).windowFits fits
  rw [applyCut_some some]
  exact findEntry_mem (immediateRecompute_committed fits' (findEntry_of_mem fits'.2.1 delivered) held committed)

theorem applyCut_inner {kept : Nat} {s : State} (some : kept < s.route.cells.length) : Inner (cutAt kept s) (applyCut kept s) := by
  rw [applyCut_some some]
  exact (deliver_inner _).trans (immediateRecompute_inner _)

theorem applyCut_ceiling_le {kept : Nat} {s : State} (some : kept < s.route.cells.length) :
    (applyCut kept s).auth.ceiling ≤ s.auth.ceiling := by
  rw [applyCut_some some]
  exact Nat.le_trans (immediateRecompute_ceiling_le _) (deliver_ceiling_le _)

/-- Settles O13: the count kept reaches the last needing cell of every HELD and committed zone. -/
theorem routeCut : Obligations.RouteCut := by
  intro t keep s ready settled inv ceilings away
  have eq : ∀ s, exec (.routeCut t [keep]) s =
      .next (outsideEvent t (takeCommand 3#8 (some 1) [keep] (routeCutHandler [keep])) s) := fun _ => rfl
  have length : ∀ n, some 1 = some n → [keep].length = n := fun n h => by cases h; rfl
  have refuses {code : RefuseCode}
      (refused : routeCutHandler [keep] (received t s) = (received t s, .refuse code [])) : away code :=
    turnsAway_of eq ready settled length refused
  refine ⟨fun stops => refuses (classHandler_stopped stops), fun running fixed => refuses (classHandler_other running ?_),
    fun running carrier => ?_⟩
  · simp [cls_of_fixed fixed]
  have own := routeCutHandler_own (keep := keep) (s := received t s) running carrier
  refine ⟨fun empty => refuses ?_, fun stored last bound reached => ?_⟩
  · rw [own, if_pos (by rw [show (received t s).route.cells = [] from empty]; rfl)]
    rfl
  intro kept
  have least : kept = min (max keep.toNat (max s.front last)) s.route.cells.length := rfl
  have stored' : ¬(received t s).route.cells.isEmpty = true := fun empty => stored (List.isEmpty_iff.mp empty)
  have count : countKept keep.toNat (received t s) = kept := by
    unfold countKept
    rw [lastCommitted_eq (s := received t s) bound reached]
    exact least.symm
  clear_value kept
  rw [if_neg stored', count] at own
  refine ⟨fun all => ?_, fun some => ?_⟩
  · refine exec_answered (v := received t s) eq ready length ?_ settled.1 settled.2.2 fun out => (settled.2.1 out).1
    rw [own, applyCut_all (s := received t s) (Nat.le_of_eq all.symm)]
  obtain ⟨v, is⟩ : ∃ v, v = applyCut kept (received t s) := ⟨_, rfl⟩
  have inner : Inner (cutAt kept (received t s)) v := is ▸ applyCut_inner (s := received t s) some
  have kept' : profilesKept s v := inner.profilesKept
  have run : exec (.routeCut t [keep]) s = .next (finish (queueReply 3#8 (.accept [byteOf kept]) v)) := by
    rw [exec_ready eq ready length, own, is]
  obtain ⟨⟨-, fits, -, -⟩, claims, -⟩ := routeInv_iff.mp inv
  refine ⟨_, run, ?_, ?_, ?_, ?_, fun e member held committed => ?_, ?_, ?_, finish_profilesKept kept',
    finish_tableKept inner.table, finish_radioKept inner.radio,
    finish_queueReply_portKept (s := cutAt kept (received t s)) inner, ?_, finish_answers ?_ ?_⟩
  · rw [finish_now]
    exact inner.now
  · rw [finish_route, queueReply_route, inner.route]
    rfl
  · rw [finish_odo]
    exact inner.odo
  · rw [finish_station]
    exact inner.station
  · have needed : isNeeded e.zone s.route.cells = true := by
      obtain none | here := claims e member (by rw [held]; decide)
      · exact absurd none List.not_mem_nil
      · exact (neededZone_carrier carrier).mp here
    obtain ⟨k, at_⟩ := lastNeeding_some needed
    have within : k ≤ kept := by
      have low := bound e member held committed k at_
      have inside : k ≤ s.route.cells.length := lastNeeding_le at_
      omega
    rw [finish_window, queueReply_window, is]
    exact ⟨_, applyCut_committed (s := received t s) some fits member held committed (isNeeded_take at_ within), rfl, held,
      committed, rfl⟩
  · rw [finish_auth, queueReply_auth, is]
    exact applyCut_ceiling_le (s := received t s) some
  · rw [finish_auth, hZone_finish, queueReply_auth, is]
    exact (routeInv_iff.mp (applyCut_routeInv (s := received t s) carrier inv)).2.2
  · rw [finish_window]
    exact inner.standing
  · rw [inner.port]
    rfl
  · rw [inner.port]
    rfl

end Sys2Proof.Machine
end

section
/-! Entries that listing, occupant claims and ticks leave as they are. -/

namespace Sys2Proof.Machine

-- One proof after another: many at a time want more threads than the memory limit of a build leaves.
set_option Elab.async false


/-- What stands at a zone is out of reach: HELD and committed, or, of a zone that no stored cell names, RELEASING or
nothing. -/
def RestsAt (s : State) (z : Nat) : Prop :=
  match findEntry z s with
  | none => isNeeded z s.route.cells = false
  | some e => (e.state = .held ∧ e.committed = true) ∨ (e.state = .releasing ∧ isNeeded z s.route.cells = false)

section
variable {s t : State} {z : Nat}

theorem restsAt_none (found : findEntry z s = none) : RestsAt s z ↔ isNeeded z s.route.cells = false := by
  unfold RestsAt
  rw [found]

theorem restsAt_some {e : ClaimEntry} (found : findEntry z s = some e) : RestsAt s z ↔
    (e.state = .held ∧ e.committed = true) ∨ (e.state = .releasing ∧ isNeeded z s.route.cells = false) := by
  unfold RestsAt
  rw [found]

theorem RestsAt.congr (rests : RestsAt s z) (route : t.route = s.route) (same : findEntry z t = findEntry z s) :
    RestsAt t z := by
  unfold RestsAt
  rw [same, route]
  exact rests

theorem RestsAt.state (rests : RestsAt s z) {e : ClaimEntry} (found : findEntry z s = some e) :
    e.state = .held ∨ e.state = .releasing := by
  obtain ⟨held, -⟩ | ⟨releasing, -⟩ := (restsAt_some found).mp rests
  · exact .inl held
  · exact .inr releasing

/-- A change of another entry, or a commit, leaves what rests. -/
theorem RestsAt.modify (rests : RestsAt s z) {y : Nat} {f : ClaimEntry → ClaimEntry} {e : ClaimEntry} (zone : KeepsZone f)
    (found : findEntry y s = some e) (open_ : y = z → e.state ≠ .held ∧ e.state ≠ .releasing) :
    findEntry z (modifyEntry y f s) = findEntry z s := by
  refine findEntry_modifyEntry_ne zone (fun same => ?_) s
  obtain ⟨unheld, unreleased⟩ := open_ same.symm
  rw [← same] at found
  exact (rests.state found).elim unheld unreleased

theorem RestsAt.needed (rests : RestsAt s z) (found : findEntry z s = none) {y : Nat}
    (needed : isNeeded y s.route.cells = true) : z ≠ y := by
  rintro rfl
  rw [(restsAt_none found).mp rests] at needed
  exact nomatch needed

theorem RestsAt.add (rests : RestsAt s z) (differ : (windowZones s).Nodup) {e : ClaimEntry} (absent : findEntry e.zone s = none)
    (needed : isNeeded e.zone s.route.cells = true) : findEntry z (addEntry e s) = findEntry z s := by
  refine findEntry_addEntry_ne differ absent fun same => ?_
  rw [← same] at absent needed
  exact rests.needed absent needed rfl

theorem Move.rests {f : Flag} (m : Move f s t) (kind : f = .free ∨ f ∈ activeF) (fits : Machine.windowFits s.window)
    (rests : RestsAt s z) : findEntry z t = findEntry z s := by
  by_cases entries : f ∉ entryF
  · exact findEntry_congr (m.entries_same entries).1
  cases m with
  | commit y _ e found held =>
    by_cases same : z = y
    · subst same
      obtain ⟨-, committed⟩ | ⟨releasing, -⟩ := (restsAt_some found).mp rests
      · rw [findEntry_modifyEntry commit_zone, found]
        exact congrArg some (commit_self committed)
      · rw [held] at releasing
        exact nomatch releasing
    · exact findEntry_modifyEntry_ne commit_zone same s
  | block y _ e found state => exact rests.modify (block_zone _ _) found fun _ => by rw [state]; decide
  | track y _ e found state => exact rests.modify (trackBlock_zone _ _) found fun _ => by rw [state]; decide
  | unblock y _ e found state => exact rests.modify (unblock_zone _ _) found fun _ => by rw [state]; decide
  | grant y _ e found state => exact rests.modify grant_zone found fun _ => by rw [state]; decide
  | announce y _ queued =>
    obtain ⟨e, found, state⟩ := queued fits
    exact rests.modify (announceFirst_zone _ _) found fun _ => by rw [state]; decide
  | occupy y _ e found unheld needed =>
    refine rests.modify occupy_zone found fun same => ⟨unheld, fun releasing => ?_⟩
    subst same
    obtain ⟨held, -⟩ | ⟨-, unneeded⟩ := (restsAt_some found).mp rests
    · exact unheld held
    · rw [unneeded] at needed
      exact nomatch needed
  | occupyNew y _ absent room needed =>
    exact rests.add fits.2.1 (by rw [occupy_entryFor_zone]; exact absent) (by rw [occupy_entryFor_zone]; exact needed)
  | list y _ absent room needed => exact rests.add fits.2.1 absent needed
  | revive y _ e found releasing can needed =>
    refine findEntry_modifyEntry_ne (revive_zone _) (fun same => ?_) s
    rw [← same] at found needed
    obtain ⟨held, -⟩ | ⟨-, unneeded⟩ := (restsAt_some found).mp rests
    · rw [held] at releasing
      exact nomatch releasing
    · rw [unneeded] at needed
      exact nomatch needed
  | reorder => exact findEntry_reorder fits.2.1 z
  | _ =>
    first
      | exact absurd kind (by decide)
      | exact absurd (by decide) entries

theorem Move.route_rests {f : Flag} (m : Move f s t) (kind : f = .free ∨ f ∈ activeF) : t.route = s.route := by
  by_cases inner : f ∈ innerF
  · exact (m.inner inner).route
  cases m with
  | retune => rfl
  | fault | listen | listenTimer | active | activate | mark => rfl
  | park s => 
    rw [(parkStopped_inner s).route, parkBase_route]
  | parkFixed s => exact parkBase_route s
  | _ =>
    first
      | exact absurd kind (by decide)
      | exact absurd (by decide) inner

/-- What rests at a zone outlasts listing, occupant claims, ticks and the entry into ACTIVE. -/
theorem Moves.rests {F : List Flag} (kind : ∀ f ∈ F, f ∈ activeF) (m : Moves F s t) (fits : Machine.windowFits s.window)
    (rests : RestsAt s z) : findEntry z t = findEntry z s ∧ RestsAt t z := by
  have step := m.keeps (I := fun t => Machine.windowFits t.window ∧ t.route = s.route ∧ findEntry z t = findEntry z s)
    (fun f a b member move ⟨fits, route, same⟩ => by
      have kind' : f = .free ∨ f ∈ activeF := member.imp_right (kind f)
      exact ⟨move.windowFits fits, (move.route_rests kind').trans route,
        (move.rests kind' fits (rests.congr route same)).trans same⟩) ⟨fits, rfl, rfl⟩
  exact ⟨step.2.2, rests.congr step.2.1 step.2.2⟩

/-- None of these moves shortens the window. -/
theorem Move.length_rests {f : Flag} (m : Move f s t) (kind : f = .free ∨ f ∈ activeF) :
    s.window.entries.length ≤ t.window.entries.length := by
  by_cases entries : f ∉ entryF
  · exact Nat.le_of_eq (by rw [(m.entries_same entries).1])
  have modified (y : Nat) (g : ClaimEntry → ClaimEntry) :
      s.window.entries.length ≤ (modifyEntry y g s).window.entries.length := Nat.le_of_eq (modifyEntry_length y g s).symm
  have added (e : ClaimEntry) : s.window.entries.length ≤ (addEntry e s).window.entries.length := by
    rw [(addEntry_perm e s).length_eq]
    exact Nat.le_succ _
  cases m with
  | commit | block | track | unblock | grant | announce | occupy | revive => exact modified _ _
  | occupyNew | list => exact added _
  | reorder => exact Nat.le_of_eq (reorder_perm s).length_eq.symm
  | _ =>
    first
      | exact absurd kind (by decide)
      | exact absurd (by decide) entries

theorem Moves.length_rests {F : List Flag} (kind : ∀ f ∈ F, f ∈ activeF) (m : Moves F s t) :
    s.window.entries.length ≤ t.window.entries.length :=
  m.keeps (I := fun t => s.window.entries.length ≤ t.window.entries.length)
    (fun f _ _ member move before => Nat.le_trans before (move.length_rests (member.imp_right (kind f)))) (Nat.le_refl _)

end

end Sys2Proof.Machine
end

section
/-! O11: an accepted START_POSITION. -/

namespace Sys2Proof.Machine

-- One proof after another: many at a time want more threads than the memory limit of a build leaves.
set_option Elab.async false


/-! ### An entry on its way to an occupant claim -/

/-- The entry of a zone at a later time, before it can be listed anew: its wait stands, and a RELEASING entry has stayed so
or has a clear mark. -/
structure Follows (e₀ e : ClaimEntry) : Prop where
  zone : e.zone = e₀.zone
  wait : e.wait = e₀.wait
  mark : e₀.state = .releasing → e.state = .releasing ∨ e.released = 0

theorem Follows.refl (e : ClaimEntry) : Follows e e := ⟨rfl, rfl, fun state => .inl state⟩

theorem Follows.change {e₀ e e' : ClaimEntry} (before : Follows e₀ e) (zone : e'.zone = e.zone) (wait : e'.wait = e.wait)
    (clear : e.released = 0 → e'.released = 0) (releasing : e.state = .releasing → e'.state = .releasing ∨ e'.released = 0) :
    Follows e₀ e' :=
  ⟨zone.trans before.zone, wait.trans before.wait, fun was => (before.mark was).elim releasing fun mark => .inr (clear mark)⟩

theorem occupy_wait (e : ClaimEntry) : e.occupy.wait = e.wait := by
  unfold ClaimEntry.occupy
  cases e.state <;> rfl

theorem occupy_released (e : ClaimEntry) : e.occupy.released = if e.state = .releasing then 0 else e.released := by
  unfold ClaimEntry.occupy
  cases e.state <;> rfl

theorem Follows.occupy {e₀ e : ClaimEntry} (before : Follows e₀ e) : Follows e₀ e.occupy := by
  refine before.change (occupy_zone e) (occupy_wait e) (fun clear => ?_) (fun releasing => .inr ?_)
  · rw [occupy_released, clear, ite_self]
  · rw [occupy_released, if_pos releasing]

/-- The entry's zone has an entry that follows it. -/
def Followed (e₀ : ClaimEntry) (s : State) : Prop := ∃ e ∈ s.window.entries, Follows e₀ e

section
variable {s t : State} {e₀ : ClaimEntry}

theorem Followed.modify (before : Followed e₀ s) (fits : windowFits s.window) {y : Nat} {g : ClaimEntry → ClaimEntry}
    {x : ClaimEntry} (found : findEntry y s = some x) (change : Follows e₀ x → Follows e₀ (g x)) :
    Followed e₀ (modifyEntry y g s) := by
  obtain ⟨e, member, follows⟩ := before
  refine ⟨_, List.mem_map_of_mem member, ?_⟩
  by_cases zone : e.zone = y
  · have same : e = x := by
      have here := findEntry_of_mem fits.2.1 member
      rw [zone, found] at here
      exact (Option.some.inj here).symm
    rw [if_pos (by simpa using zone), same]
    exact change (same ▸ follows)
  · rw [if_neg (by simpa using zone)]
    exact follows

theorem Move.followed {f : Flag} (m : Move f s t) (kind : f = .free ∨ f ∈ occupyF) (fits : Machine.windowFits s.window)
    (before : Followed e₀ s) : Followed e₀ t := by
  by_cases entries : f ∉ entryF
  · unfold Followed
    rw [(m.entries_same entries).1]
    exact before
  cases m with
  | commit y _ x found held => exact before.modify fits found fun h => h.change rfl rfl id fun state => .inl state
  | block y _ x found state | unblock y _ x found state | grant y _ x found state =>
    exact before.modify fits found fun h => h.change rfl rfl id fun is => by rw [state] at is; exact nomatch is
  | track y _ x found state => exact before.modify fits found fun h => h.change rfl rfl id fun is => .inl is
  | occupy y _ x found => exact before.modify fits found Follows.occupy
  | occupyNew y =>
    obtain ⟨e, member, follows⟩ := before
    exact ⟨e, (addEntry_perm _ _).mem_iff.mpr (List.mem_cons_of_mem _ member), follows⟩
  | _ =>
    first
      | exact absurd kind (by decide)
      | exact absurd (by decide) entries

theorem Moves.followed {F : List Flag} (kind : ∀ f ∈ F, f ∈ occupyF) (m : Moves F s t) (fits : Machine.windowFits s.window)
    (before : Followed e₀ s) : Followed e₀ t :=
  (m.keeps (I := fun t => Machine.windowFits t.window ∧ Followed e₀ t)
    (fun f _ _ member move ⟨fits, before⟩ =>
      ⟨move.windowFits fits, move.followed (member.imp_right (kind f)) fits before⟩) ⟨fits, before⟩).2

/-- An occupant claim takes the entry that stands at its zone. -/
theorem occupantClaim_takes (fits : windowFits s.window) (before : Followed e₀ s) :
    ∃ e, findEntry e₀.zone (occupantClaim e₀.zone s) = some e ∧ e.state = .held ∧ e.committed = true ∧ Follows e₀ e := by
  obtain ⟨x, member, follows⟩ := before
  have found : findEntry e₀.zone s = some x := by
    rw [← follows.zone]
    exact findEntry_of_mem fits.2.1 member
  by_cases held : x.state = .held
  · refine ⟨x.commit, ?_, held, rfl, follows.change rfl rfl id fun state => .inl state⟩
    rw [occupantClaim_held found held, findEntry_modifyEntry commit_zone, found]
    rfl
  · refine ⟨x.occupy, ?_, occupy_state x, occupy_committed x, follows.occupy⟩
    rw [occupantClaim_found found held]
    refine occupantHeld_stays ?_ ?_ (occupy_state x)
    · rw [modifyEntry_zones occupy_zone]
      exact fits.2.1
    · rw [findEntry_modifyEntry occupy_zone, found]
      rfl

end

theorem occupantClaims_takes {e₀ : ClaimEntry} : ∀ {zs : List Nat} {s : State} (_ : stopped s)
    (_ : ∀ z ∈ zs, isNeeded z s.route.cells = true) (_ : s.isCarrier = true) (_ : windowFits s.window) (_ : e₀.zone ∈ zs)
    (_ : Followed e₀ s), ∃ e, findEntry e₀.zone (zs.foldl (fun s z => occupantClaim z s) s) = some e ∧
      e.state = .held ∧ e.committed = true ∧ Follows e₀ e
  | [], _, _, _, _, _, member, _ => nomatch member
  | z :: zs, s, stop, needed, carrier, fits, member, before => by
    have first := occupantClaim_moves stop (needed z List.mem_cons_self) carrier
    have inner := first.inner (by decide)
    have fits' := first.windowFits fits
    have needed' : ∀ x ∈ zs, isNeeded x (occupantClaim z s).route.cells = true := fun x hx => by
      rw [inner.route]
      exact needed x (List.mem_cons_of_mem z hx)
    have carrier' : (occupantClaim z s).isCarrier = true := by
      rw [inner.isCarrier]
      exact carrier
    have stop' := occupantClaim_stopped (z := z) stop
    by_cases here : e₀.zone = z
    · obtain ⟨e, found, held, committed, follows⟩ := occupantClaim_takes fits before
      rw [here] at found
      refine ⟨e, ?_, held, committed, follows⟩
      rw [here]
      exact occupantClaims_committed (t := occupantClaim z s) held committed stop' needed' carrier' fits' found
    · exact occupantClaims_takes (s := occupantClaim z s) stop' needed' carrier' fits'
        ((List.mem_cons.mp member).resolve_left here) (first.followed (by decide) fits before)

/-! ### A delivery outside ACTIVE -/

theorem updateNeeds_unneeded {e : ClaimEntry} {cells : List StoredCell} (unneeded : isNeeded e.zone cells = false) :
    e.updateNeeds cells = { e with first := none, last := none } := by
  have none : ∀ c ∈ cells, StoredCell.needs e.zone c = false := fun c member =>
    Bool.eq_false_iff.mpr fun is => by
      rw [show isNeeded e.zone cells = true from List.any_eq_true.mpr ⟨c, member, is⟩] at unneeded
      exact nomatch unneeded
  have first : firstNeeding e.zone cells = .none := by
    unfold firstNeeding
    rw [List.findIdx?_eq_none_iff.mpr none]
    rfl
  have last : lastNeeding e.zone cells = .none := by
    unfold lastNeeding
    rw [List.findIdx?_eq_none_iff.mpr fun c member => none c (List.mem_reverse.mp member)]
    rfl
  have urgency : needUrgency e.zone cells = .none := by
    unfold needUrgency
    rw [List.filter_eq_nil_iff.mpr fun c member => by rw [none c member]; exact Bool.false_ne_true]
    rfl
  unfold ClaimEntry.updateNeeds
  rw [first, last, urgency]
  rfl

section
variable {s : State} {e : ClaimEntry}

theorem needsTaken_idle (idle : computesNone s) (fits : windowFits s.window) (member : e ∈ s.window.entries)
    (stays : isNeeded e.zone s.route.cells = true ∨ e.unheld = false) :
    (if e.state = .held ∧ isNeeded e.zone s.route.cells = false then (e.updateNeeds s.route.cells).release
      else e.updateNeeds s.route.cells) ∈ (needsTaken s).window.entries := by
  have lost : e.zone ∈ lostZones s ↔ e.state = .held ∧ isNeeded e.zone s.route.cells = false := by
    refine (mem_zones_iff fits member).trans ?_
    simp
  have unwithdrawn : e.zone ∉ withdrawnZones s := fun gone => by
    have is := (mem_zones_iff fits member).mp gone
    obtain needed | unheld := stays
    · rw [needed] at is
      simp at is
    · rw [unheld] at is
      exact nomatch is
  have released := (releaseEntries_releasedIdle (lostZones s) (s := updateAll s) idle).window
  have here : (if (lostZones s).contains e.zone then (e.updateNeeds s.route.cells).release else e.updateNeeds s.route.cells) ∈
      ((lostZones s).foldl (fun s z => releaseEntry z s) (updateAll s)).window.entries := by
    rw [released]
    exact List.mem_map.mpr ⟨_, mem_updateAll member, rfl⟩
  simp only [List.contains_iff_mem, lost] at here
  refine removeZones_stays ?_ here
  split <;> exact unwithdrawn

theorem deliverNeeds_withdraws (member : e ∈ s.window.entries) (unheld : e.unheld = true)
    (unneeded : isNeeded e.zone s.route.cells = false) : e.zone ∉ windowZones (deliverNeeds s) := by
  have gone : e.zone ∈ withdrawnZones s :=
    List.mem_map.mpr ⟨e, List.mem_filter.mpr ⟨member, by rw [unheld, unneeded]; rfl⟩, rfl⟩
  obtain ⟨sel, eq⟩ := deliverNeeds_eq s
  rw [eq, reevaluateZones_zones]
  intro stays
  obtain ⟨x, here, zone⟩ := List.mem_map.mp stays
  obtain ⟨-, apart⟩ := List.mem_filter.mp here
  rw [zone] at apart
  simp [gone] at apart

/-- Outside ACTIVE a delivery releases a HELD entry without need and leaves a RELEASING one. -/
theorem deliverNeeds_idle (idle : computesNone s) (fits : windowFits s.window) (member : e ∈ s.window.entries)
    (unneeded : isNeeded e.zone s.route.cells = false) (held : e.state = .held ∨ e.state = .releasing) :
    (if e.state = .held then { e with state := .releasing, first := none, last := none, committed := false, released := 0 }
      else { e with first := none, last := none }) ∈ (deliverNeeds s).window.entries := by
  have here := needsTaken_idle idle fits member
    (.inr (held.elim unheld_of_held unheld_of_releasing))
  rw [updateNeeds_unneeded unneeded] at here
  simp only [unneeded, and_true] at here
  obtain ⟨sel, eq⟩ := deliverNeeds_eq s
  rw [eq]
  refine reevaluateZones_rests (needsTaken_windowFits fits) here ?_
  obtain state | state := held
  · rw [if_pos state]
    rfl
  · rw [if_neg (by rw [state]; decide)]
    exact not_requested (st := .releasing) state (by decide)

theorem deliverNeeds_followed (idle : computesNone s) (fits : windowFits s.window) (member : e ∈ s.window.entries)
    (needed : isNeeded e.zone s.route.cells = true) : Followed e (deliverNeeds s) := by
  have here := needsTaken_idle idle fits member (.inl needed)
  rw [if_neg (by rw [needed]; simp)] at here
  obtain ⟨sel, eq⟩ := deliverNeeds_eq s
  rw [eq]
  exact (reevaluateZones_moves sel _).followed (by decide) (needsTaken_windowFits fits) ⟨_, here, rfl, rfl, .inl⟩

end

end Sys2Proof.Machine
end

section
/-! O11: an accepted START_POSITION, from its delivery to the entry into ACTIVE. -/

namespace Sys2Proof.Machine

-- One proof after another: many at a time want more threads than the memory limit of a build leaves.
set_option Elab.async false


theorem isNeeded_layCells {z : Nat} : ∀ {x : Int} {cells : List RouteCell},
    isNeeded z (layCells x cells) = true ↔ ∃ c ∈ cells, z ∈ c.zones
  | _, [] => by simp [layCells, isNeeded]
  | x, c :: cs => by
    have rest := isNeeded_layCells (z := z) (x := x + c.length) (cells := cs)
    unfold isNeeded at rest ⊢
    rw [layCells, List.any_cons, Bool.or_eq_true, rest]
    simp [StoredCell.needs]

/-! ### The stages of the command -/

section
variable {x : Int} {cells : List RouteCell} {s : State}

/-- The new store delivered, before its occupant claims. -/
def startDelivered (x : Int) (cells : List RouteCell) (s : State) : State := deliverNeeds (layStart x (layCells 0 cells) s)

theorem startDelivered_inner (x : Int) (cells : List RouteCell) (s : State) :
    Inner (layStart x (layCells 0 cells) s) (startDelivered x cells s) := deliverNeeds_inner _

theorem startDelivered_fits (fits : windowFits s.window) : windowFits (startDelivered x cells s).window :=
  (deliverNeeds_moves (layStart x (layCells 0 cells) s)).windowFits fits

theorem layStart_idle (listening : s.station.state = .listen) : computesNone (layStart x (layCells 0 cells) s) := fun _ => by
  show s.station.state ≠ .active
  rw [listening]
  decide

/-- The command up to the entry into ACTIVE. -/
def startLaidMarked (x : Int) (cells : List RouteCell) (s : State) : State := markStarted (startLaid x (layCells 0 cells) s)

/-- The mark FRESH goes off. -/
def stale (s : State) : State := setRadio { s.radio with fresh := false } s

theorem startLaidMarked_eq (x : Int) (cells : List RouteCell) (s : State) :
    markStarted (startLaid x (layCells 0 cells) s) = startLaidMarked x cells s := rfl

theorem startLaidMarked_station (x : Int) (cells : List RouteCell) (s : State) :
    (startLaidMarked x cells s).station = { s.station with startMark := true } := by
  have same := startLaid_station x (layCells 0 cells) s
  unfold startLaidMarked markStarted
  rw [same]

theorem applyStart_waits (waits : s.station.listen ≠ .expired) : applyStart x (layCells 0 cells) s = startLaidMarked x cells s := by
  rw [applyStart_eq, startLaidMarked_eq, startLaidMarked_station, if_neg waits]

theorem applyStart_enters (expired : s.station.listen = .expired) :
    applyStart x (layCells 0 cells) s = enterActive (stale (startLaidMarked x cells s)) := by
  rw [applyStart_eq, startLaidMarked_eq, startLaidMarked_station, if_pos expired]
  rfl

theorem enterActive_stale_rests {m : State} (running : m.running = true) (fits : windowFits m.window) {z : Nat}
    (rests : RestsAt m z) : findEntry z (enterActive (stale m)) = findEntry z m :=
  ((enterActive_moves (s := stale m) running).rests (fun _ h => h) (show windowFits (stale m).window from fits)
    (show RestsAt (stale m) z from rests)).1

theorem enterActive_stale_length {m : State} (running : m.running = true) :
    m.window.entries.length ≤ (enterActive (stale m)).window.entries.length := by
  have longer := (enterActive_moves (s := stale m) running).length_rests fun _ h => h
  exact longer

theorem startLaidMarked_moves (x : Int) (cells : List RouteCell) (s : State) :
    Moves activeF (startOccupants (startDelivered x cells s)) (startLaidMarked x cells s) :=
  ((listingTest_moves _).mono (by decide)).trans ((Moves.one (.horizon _)).trans (.one (.mark _)))

theorem startLaidMarked_running (listening : s.station.state = .listen) : (startLaidMarked x cells s).running = true :=
  markStarted_running listening

/-- From the occupant claims on, nothing that rests is touched. -/
theorem applyStart_rests (listening : s.station.state = .listen)
    (fits : windowFits (startOccupants (startDelivered x cells s)).window) {z : Nat}
    (rests : RestsAt (startOccupants (startDelivered x cells s)) z) :
    findEntry z (applyStart x (layCells 0 cells) s) = findEntry z (startOccupants (startDelivered x cells s)) := by
  have laid := startLaidMarked_moves x cells s
  obtain ⟨same, rests'⟩ := laid.rests (fun _ h => h) fits rests
  by_cases expired : s.station.listen = .expired
  · rw [applyStart_enters expired]
    exact (enterActive_stale_rests (startLaidMarked_running listening) (laid.windowFits fits) rests').trans same
  · rw [applyStart_waits expired]
    exact same

theorem applyStart_length (listening : s.station.state = .listen) :
    (startOccupants (startDelivered x cells s)).window.entries.length ≤
      (applyStart x (layCells 0 cells) s).window.entries.length := by
  have laid := (startLaidMarked_moves x cells s).length_rests fun _ h => h
  by_cases expired : s.station.listen = .expired
  · rw [applyStart_enters expired]
    exact Nat.le_trans laid (enterActive_stale_length (startLaidMarked_running listening))
  · rw [applyStart_waits expired]
    exact laid

/-! ### The entries -/

theorem mem_startZones {z : Nat} : z ∈ firstOccurrences ((startDelivered x cells s).route.cells.flatMap
    (fun c => c.cell.zones)) ↔ ∃ c ∈ cells, z ∈ c.zones := by
  rw [mem_firstOccurrences, (startDelivered_inner x cells s).route, ← isNeeded_layCells (x := 0)]
  show z ∈ (layCells 0 cells).flatMap _ ↔ _
  unfold isNeeded
  simp [StoredCell.needs]

theorem startDelivered_stopped (listening : s.station.state = .listen) : stopped (startDelivered x cells s) := by
  refine .inr (.inr ?_)
  rw [(startDelivered_inner x cells s).station]
  show s.station.state ≠ .active
  rw [listening]
  decide

theorem startDelivered_carrier (carrier : s.isCarrier = true) : (startDelivered x cells s).isCarrier = true := by
  rw [(startDelivered_inner x cells s).isCarrier]
  exact carrier

theorem startOccupants_fits (carrier : s.isCarrier = true) (listening : s.station.state = .listen)
    (fits : windowFits s.window) : windowFits (startOccupants (startDelivered x cells s)).window :=
  (startOccupants_moves x cells carrier listening).windowFits (startDelivered_fits fits)

theorem applyStart_claims (carrier : s.isCarrier = true) (listening : s.station.state = .listen) (fits : windowFits s.window)
    {z : Nat} (named : ∃ c ∈ cells, z ∈ c.zones) :
    (∃ e ∈ (applyStart x (layCells 0 cells) s).window.entries, e.zone = z ∧ e.state = .held ∧ e.committed = true) ∨
      8 ≤ (applyStart x (layCells 0 cells) s).window.entries.length := by
  have fits' := startOccupants_fits (x := x) (cells := cells) carrier listening fits
  have claimed : Claimed z (startOccupants (startDelivered x cells s)) :=
    occupantClaims_claimed (startDelivered_stopped listening) (fun z => isNeeded_startOccupants)
      (startDelivered_carrier carrier) (startDelivered_fits fits) z (.inl (mem_startZones.mpr named))
  obtain ⟨e, found, held, committed⟩ | ⟨full, -⟩ := claimed
  · have stays := applyStart_rests listening fits' ((restsAt_some found).mpr (.inl ⟨held, committed⟩))
    exact .inl ⟨e, findEntry_mem (stays.trans found), findEntry_zone found, held, committed⟩
  · exact .inr (Nat.le_trans full (applyStart_length listening))

theorem applyStart_named (carrier : s.isCarrier = true) (listening : s.station.state = .listen) (fits : windowFits s.window)
    {e : ClaimEntry} (member : e ∈ s.window.entries) (named : ∃ c ∈ cells, e.zone ∈ c.zones) :
    ∃ e' ∈ (applyStart x (layCells 0 cells) s).window.entries, e'.zone = e.zone ∧ e'.state = .held ∧ e'.committed = true ∧
      e'.wait = e.wait ∧ (e.state = .releasing → e'.released = 0) := by
  have followed : Followed e (startDelivered x cells s) :=
    deliverNeeds_followed (s := layStart x (layCells 0 cells) s) (layStart_idle listening) fits member
      (isNeeded_layCells.mpr named)
  obtain ⟨e', found, held, committed, follows⟩ := occupantClaims_takes (startDelivered_stopped listening)
    (fun z => isNeeded_startOccupants) (startDelivered_carrier carrier) (startDelivered_fits fits)
    (mem_startZones.mpr named) followed
  have stays := applyStart_rests listening (startOccupants_fits carrier listening fits)
    ((restsAt_some (s := startOccupants (startDelivered x cells s)) found).mpr (.inl ⟨held, committed⟩))
  refine ⟨e', findEntry_mem (stays.trans found), follows.zone, held, committed, follows.wait, fun releasing => ?_⟩
  obtain state | clear := follows.mark releasing
  · rw [held] at state
    exact nomatch state
  · exact clear

/-- What rests from the delivery on. -/
theorem applyStart_unnamed (carrier : s.isCarrier = true) (listening : s.station.state = .listen) (fits : windowFits s.window)
    {z : Nat} (rests : RestsAt (startDelivered x cells s) z) :
    findEntry z (applyStart x (layCells 0 cells) s) = findEntry z (startDelivered x cells s) := by
  obtain ⟨same, rests'⟩ := (startOccupants_moves x cells carrier listening).rests (by decide) (startDelivered_fits fits) rests
  exact (applyStart_rests listening (startOccupants_fits carrier listening fits) rests').trans same

theorem startDelivered_unneeded {z : Nat} (unnamed : ¬∃ c ∈ cells, z ∈ c.zones) :
    isNeeded z (startDelivered x cells s).route.cells = false := by
  rw [(startDelivered_inner x cells s).route]
  exact Bool.eq_false_iff.mpr fun is => unnamed (isNeeded_layCells.mp is)

theorem applyStart_releases (carrier : s.isCarrier = true) (listening : s.station.state = .listen) (fits : windowFits s.window)
    {e : ClaimEntry} (member : e ∈ s.window.entries) (unnamed : ¬∃ c ∈ cells, e.zone ∈ c.zones)
    (rests : e.state = .held ∨ e.state = .releasing) :
    (if e.state = .held then { e with state := .releasing, first := none, last := none, committed := false, released := 0 }
      else { e with first := none, last := none }) ∈ (applyStart x (layCells 0 cells) s).window.entries := by
  have unneeded : isNeeded e.zone (layCells 0 cells) = false :=
    Bool.eq_false_iff.mpr fun is => unnamed (isNeeded_layCells.mp is)
  have here := deliverNeeds_idle (s := layStart x (layCells 0 cells) s) (layStart_idle listening) fits member unneeded rests
  generalize kept : (if e.state = .held then
    { e with state := .releasing, first := none, last := none, committed := false, released := 0 }
    else { e with first := none, last := none } : ClaimEntry) = e' at here ⊢
  have zone : e'.zone = e.zone := by
    rw [← kept]
    split <;> rfl
  have releasing : e'.state = .releasing := by
    rw [← kept]
    obtain state | state := rests
    · rw [if_pos state]
    · rw [if_neg (by rw [state]; decide)]
      exact state
  have found : findEntry e.zone (startDelivered x cells s) = some e' := by
    rw [← zone]
    exact findEntry_of_mem (startDelivered_fits fits).2.1 here
  have stays := applyStart_unnamed carrier listening fits
    ((restsAt_some found).mpr (.inr ⟨releasing, startDelivered_unneeded unnamed⟩))
  exact findEntry_mem (stays.trans found)

theorem applyStart_withdraws (carrier : s.isCarrier = true) (listening : s.station.state = .listen) (fits : windowFits s.window)
    {e : ClaimEntry} (member : e ∈ s.window.entries) (unnamed : ¬∃ c ∈ cells, e.zone ∈ c.zones) (unheld : e.unheld = true) :
    e.zone ∉ windowZones (applyStart x (layCells 0 cells) s) := by
  have unneeded : isNeeded e.zone (layCells 0 cells) = false :=
    Bool.eq_false_iff.mpr fun is => unnamed (isNeeded_layCells.mp is)
  have gone : e.zone ∉ windowZones (startDelivered x cells s) :=
    deliverNeeds_withdraws (s := layStart x (layCells 0 cells) s) member unheld unneeded
  have absent := Walked.absent_of gone
  have stays := applyStart_unnamed carrier listening fits ((restsAt_none absent).mpr (startDelivered_unneeded unnamed))
  intro here
  obtain ⟨e', found⟩ := mem_windowZones.mp here
  rw [stays, absent] at found
  exact nomatch found

end

end Sys2Proof.Machine
end

section
/-! O11 settled: what an accepted START_POSITION leaves of the other blocks. -/

namespace Sys2Proof.Machine

-- One proof after another: many at a time want more threads than the memory limit of a build leaves.
set_option Elab.async false

/-- What START_POSITION does beside the entries. -/
structure Started (x : Int) (cells : List RouteCell) (r v : State) : Prop where
  now : v.now = r.now
  route : v.route.cells = layCells 0 cells
  odo : v.odo = takePosition x r.odo
  station : v.station = { r.station with
    startMark := true
    state := if r.station.listen = .expired then .active else .listen
    listen := if r.station.listen = .expired then .stopped else r.station.listen }
  standing : v.window.standing = r.window.standing
  table : v.table = r.table
  radio : v.radio = { r.radio with
    gen := v.radio.gen, slot := v.radio.slot
    fresh := if r.station.listen = .expired then false else r.radio.fresh }
  horizon : v.auth.horizon = grantedHorizon v
  profiles : v.auth.profiles = r.auth.profiles
  out : v.port.out = r.port.out
  replies : v.port.replies = r.port.replies
  kept : r.station.listen ≠ .expired → profilesKept r v ∧
    ∀ kind a, portKept r (finish (queueReply kind a v))

section
variable {x : Int} {cells : List RouteCell} {r l : State}

theorem markStarted_started (inner : Inner (layStart x (layCells 0 cells) r) l) (horizon : l.auth.horizon = grantedHorizon l)
    (listening : r.station.state = .listen) (waits : r.station.listen ≠ .expired) : Started x cells r (markStarted l) := by
  refine ⟨inner.now, ?_, inner.odo, ?_, inner.standing, inner.table, ?_, horizon, ?_, ?_, ?_, fun _ => ⟨?_, fun kind a => ?_⟩⟩
  · show l.route.cells = _
    rw [inner.route]
    rfl
  · unfold markStarted
    rw [inner.station, if_neg waits, if_neg waits, ← listening]
    rfl
  · rw [if_neg waits]
    exact inner.radio
  · show l.auth.profiles = _
    rw [inner.auth]
    rfl
  · show l.port.out = _
    rw [inner.port]
    rfl
  · show l.port.replies = _
    rw [inner.port]
    rfl
  · exact inner.profilesKept
  · have kept := finish_queueReply_portKept (kind := kind) (a := a) inner
    have port : ∀ w : State, w.port = l.port → portKept r (finish (queueReply kind a w)) := fun w same => by
      refine finish_portKept ?_ ?_ ?_ ?_ ?_ <;>
      · rw [queueReply_port, same, inner.port]
        rfl
    exact port _ rfl

theorem enterActive_started (inner : Inner (layStart x (layCells 0 cells) r) l) (carrier : r.isCarrier = true)
    (expired : r.station.listen = .expired) : Started x cells r (enterActive (stale (markStarted l))) := by
  have carrier' : (stale (markStarted l)).isCarrier = true := inner.isCarrier.trans carrier
  have entered := enterActive_entered (stale (markStarted l))
  have horizon := enterActive_horizon carrier'
  have active := enterActive_inner carrier'
  generalize enterActive (stale (markStarted l)) = v at entered horizon active
  refine ⟨entered.now.trans inner.now, ?_, entered.odo.trans inner.odo, ?_, ?_, entered.table.trans inner.table, ?_, horizon, ?_,
    ?_, ?_, fun waits => absurd expired waits⟩
  · rw [entered.route]
    show l.route.cells = _
    rw [inner.route]
    rfl
  · rw [entered.station, if_pos expired, if_pos expired]
    show { l.station with startMark := true, state := .active, listen := .stopped } = _
    rw [inner.station]
    rfl
  · refine active.standing.trans ?_
    exact inner.standing
  · rw [entered.radio, if_pos expired]
    show { l.radio with fresh := false, gen := v.radio.gen, slot := v.radio.slot } = _
    rw [inner.radio]
    rfl
  · rw [active.auth]
    show l.auth.profiles = _
    rw [inner.auth]
    rfl
  · rw [entered.port]
    show l.port.out = _
    rw [inner.port]
    rfl
  · rw [entered.port]
    show l.port.replies = _
    rw [inner.port]
    rfl

end

theorem applyStart_started {x : Int} {cells : List RouteCell} {r : State} (carrier : r.isCarrier = true)
    (listening : r.station.state = .listen) : Started x cells r (applyStart x (layCells 0 cells) r) := by
  have inner : Inner (layStart x (layCells 0 cells) r) (startLaid x (layCells 0 cells) r) := startLaid_inner x (layCells 0 cells) r
  have recompute : ∀ l : State, (startRecompute l).auth.horizon = grantedHorizon (startRecompute l) := fun _ => rfl
  have horizon : (startLaid x (layCells 0 cells) r).auth.horizon = grantedHorizon (startLaid x (layCells 0 cells) r) :=
    recompute _
  by_cases expired : r.station.listen = .expired
  · rw [applyStart_enters expired]
    exact enterActive_started inner carrier expired
  · rw [applyStart_waits expired]
    exact markStarted_started inner horizon listening expired

theorem startPositionHandler_accepts {payload : List Byte} {x : Int} {cells : List RouteCell} {s : State}
    (listening : s.station.state = .listen) (carrier : s.isCarrier = true) (parsed : parseStart payload = some (x, cells))
    (good : ∀ c ∈ cells, c.inRange = true) (inside : outsideLast x (layCells 0 cells) = false) :
    startPositionHandler payload s = (applyStart x (layCells 0 cells) s, .accept
      [byteOf (applyStart x (layCells 0 cells) s).route.cells.length,
        byteOf (applyStart x (layCells 0 cells) s).station.state.code]) := by
  have own : startPositionHandler payload s = _ :=
    classHandler_own (running_of_state (.inl listening)) (cls_of_carrier carrier)
  rw [own, parsed]
  dsimp only
  rw [if_neg (by simp [listening]), firstBadCell_allGood good]
  dsimp only
  rw [inside]
  rfl

/-- Settles O11: the named zones are taken from the delivery on, and what the new cells do not name rests after it. -/
theorem startPositionAccepted : Obligations.StartPositionAccepted := by
  intro t payload s x cells ready listening carrier fits parsed good low high
  have eq : ∀ s, exec (.startPosition t payload) s =
      .next (outsideEvent t (takeCommand 1#8 none payload (startPositionHandler payload)) s) := fun _ => rfl
  have length : ∀ n, Option.none = some n → payload.length = n := nofun
  have inside : outsideLast x (layCells 0 cells) = false := Bool.eq_false_iff.mpr fun outside => by
    have far := (outsideLast_layCells (parseStart_length parsed).1).mp outside
    omega
  have handled := startPositionHandler_accepts (s := received t s) listening carrier parsed good inside
  have started := applyStart_started (x := x) (cells := cells) (r := received t s) carrier listening
  have claims := fun z => applyStart_claims (x := x) (cells := cells) (s := received t s) carrier listening fits (z := z)
  have named := fun e => applyStart_named (x := x) (cells := cells) (s := received t s) carrier listening fits (e := e)
  have releases := fun e => applyStart_releases (x := x) (cells := cells) (s := received t s) carrier listening fits (e := e)
  have withdraws := fun e => applyStart_withdraws (x := x) (cells := cells) (s := received t s) carrier listening fits (e := e)
  generalize applyStart x (layCells 0 cells) (received t s) = v at handled started claims named releases withdraws
  have count : v.route.cells.length = cells.length := by
    rw [started.route, layCells_length]
  have run : exec (.startPosition t payload) s = .next (finish
      (queueReply 1#8 (.accept [byteOf cells.length, byteOf v.station.state.code]) v)) := by
    rw [exec_ready eq ready length, handled, count]
  refine ⟨_, run, ?_, ?_, ?_, ?_, fun c cell z zone => ?_, fun e member => ⟨fun is => ?_, fun apart held => ?_,
    fun apart unheld => ?_, fun apart releasing => ?_⟩, ?_, ?_, fun waits => ?_, ?_, finish_tableKept started.table, ?_, ?_⟩
  · rw [finish_now]
    exact started.now
  · rw [finish_route]
    exact started.route
  · rw [finish_odo]
    exact started.odo
  · rw [finish_station]
    exact started.station
  · rw [finish_window]
    exact claims z ⟨c, cell, zone⟩
  · rw [finish_window]
    exact named e member is
  · rw [finish_window]
    have here := releases e member apart (.inl held)
    rw [if_pos held] at here
    exact here
  · unfold windowZones
    rw [finish_window]
    exact withdraws e member apart unheld
  · rw [finish_window]
    have here := releases e member apart (.inr releasing)
    rw [if_neg (by rw [releasing]; decide)] at here
    exact here
  · rw [finish_window]
    exact started.standing
  · rw [finish_auth, grantedHorizon_finish]
    exact started.horizon
  · obtain ⟨profiles, port⟩ := started.kept waits
    exact ⟨finish_profilesKept (s := s) (w := queueReply 1#8 _ v) profiles, port _ _⟩
  · rw [finish_auth]
    exact started.profiles
  · rw [finish_radio]
    exact started.radio
  · rw [finish_station]
    exact finish_answers started.out started.replies

end Sys2Proof.Machine
end

section
/-! The sample inside the Odometry Unit: what it does to the odometry, and what it leaves of everything else. -/

namespace Sys2Proof.Machine

-- One proof after another: many at a time want more threads than the memory limit of a build leaves.
set_option Elab.async false

/-! ### Odometry work with notices (R83 to R90) -/

/-- The odometry changes, the ceiling may fall with its word, and at most `n` notices are given; nothing else. -/
structure OdoWork (n : Nat) (s t : State) : Prop where
  frame : t = { s with
    odo := t.odo
    auth := { s.auth with
      ceiling := t.auth.ceiling, previous := t.auth.previous, wordOut := t.auth.wordOut, pendingWord := t.auth.pendingWord }
    port := { s.port with notices := t.port.notices, dropped := t.port.dropped } }
  notices : s.port.notices <+: t.port.notices
  few : t.port.notices.length ≤ s.port.notices.length + n

namespace OdoWork

theorem of_odo (o : Odometry) (s : State) : OdoWork 0 s (setOdo o s) := ⟨rfl, List.prefix_refl _, Nat.le_refl _⟩

theorem refl (s : State) : OdoWork 0 s s := ⟨rfl, List.prefix_refl _, Nat.le_refl _⟩

theorem trans {n m : Nat} {s t u : State} (h : OdoWork n s t) (k : OdoWork m t u) : OdoWork (n + m) s u := by
  refine ⟨?_, h.notices.trans k.notices, ?_⟩
  · have before := h.frame
    have after := k.frame
    rw [before] at after
    exact after
  · have few := h.few
    have more := k.few
    omega

theorem mono {n m : Nat} {s t : State} (h : OdoWork n s t) (le : n ≤ m) : OdoWork m s t :=
  ⟨h.frame, h.notices, Nat.le_trans h.few (Nat.add_le_add_left le _)⟩

theorem notice (n : Notice) (s : State) : OdoWork 1 s (raiseNotice n s) := by
  refine ⟨?_, (raiseNotice_inner n s).notices, ?_⟩
  · unfold raiseNotice
    split <;> rfl
  · unfold raiseNotice
    split
    · simp
    · exact Nat.le_succ _

theorem word (v : Nat) (s : State) : OdoWork 0 s (sendWord v s) := by
  have port := sendWord_port v s
  refine ⟨?_, ⟨[], by rw [port, List.append_nil]⟩, by rw [port]; exact Nat.le_refl _⟩
  unfold sendWord
  split
  · split <;> rfl
  · rfl

theorem ceiling (v : Nat) (s : State) : OdoWork 0 s (setCeiling v s) := ⟨rfl, List.prefix_refl _, Nat.le_refl _⟩

section
variable {n : Nat} {s t : State} (work : OdoWork n s t)
include work

theorem now : t.now = s.now := by rw [work.frame]
theorem station : t.station = s.station := by rw [work.frame]
theorem route : t.route = s.route := by rw [work.frame]
theorem window : t.window = s.window := by rw [work.frame]
theorem table : t.table = s.table := by rw [work.frame]
theorem radio : t.radio = s.radio := by rw [work.frame]

end

end OdoWork

theorem limitLost_odoWork (s : State) : OdoWork 0 s (limitLost s) := by
  unfold limitLost
  split
  · exact (OdoWork.ceiling _ s).trans (.word _ _)
  · exact .refl s

theorem fallToDoubt_odoWork (cause : DoubtCause) (s : State) : OdoWork 1 s (fallToDoubt cause s) := by
  unfold fallToDoubt
  split
  · exact (OdoWork.of_odo _ s).trans (.notice _ _)
  · exact (OdoWork.refl s).mono (Nat.zero_le _)

theorem fallToLost_odoWork (s : State) : OdoWork 1 s (fallToLost s) := by
  unfold fallToLost
  split
  · exact (OdoWork.refl s).mono (Nat.zero_le _)
  · exact ((OdoWork.of_odo _ s).trans (.notice _ _)).trans (limitLost_odoWork _)

theorem gradeSample_odoWork (s : State) : OdoWork 1 s (gradeSample s) := by
  unfold gradeSample
  split
  · exact fallToLost_odoWork s
  · split
    · exact fallToDoubt_odoWork _ s
    · exact (OdoWork.refl s).mono (Nat.zero_le _)

theorem declareFailed_odoWork (ch : Channel) (s : State) : OdoWork 2 s (declareFailed ch s) :=
  ((OdoWork.of_odo _ s).trans (.notice _ _)).trans (fallToDoubt_odoWork _ _)

theorem judgeSlip_odoWork (dA dB : Nat) (s : State) : OdoWork 1 s (judgeSlip dA dB s) := by
  unfold judgeSlip
  dsimp only
  split
  · split
    · exact (OdoWork.of_odo _ s).mono (Nat.zero_le _)
    · exact (OdoWork.of_odo _ s).trans (.notice _ _)
  · exact (OdoWork.of_odo _ s).mono (Nat.zero_le _)

theorem judgeFailure_odoWork (pA pB dA dB : Nat) (s : State) : OdoWork 2 s (judgeFailure pA pB dA dB s) := by
  unfold judgeFailure
  dsimp only
  split
  · exact (OdoWork.of_odo _ s).trans (declareFailed_odoWork _ _)
  · split
    · exact (OdoWork.of_odo _ s).trans (declareFailed_odoWork _ _)
    · exact (OdoWork.of_odo _ s).mono (Nat.zero_le _)

/-! ### The judgements as functions of the odometry -/

/-- The grade after the distance tests (R99). -/
def gradeAfter (since : Nat) (q : Quality) : Quality :=
  if 80000000 < since then .lost else if 40000000 < since ∧ q = .good then .doubt else q

/-- GOOD falls to DOUBT. -/
def Quality.doubted (q : Quality) : Quality := if q = .good then .doubt else q

/-- The odometry after the slip judgement (R85). -/
def slipJudged (dA dB : Nat) (o : Odometry) : Odometry :=
  if isSlip dA dB then { o with slip := true, slipSeen := true } else { o with slip := false }

/-- The odometry after the declaration of a failed channel (R88). -/
def failedOdo (ch : Channel) (o : Odometry) : Odometry :=
  match ch with
  | .a => { o with
      chA := { o.chA with failed := true }, mode := .bOnly, slip := false, slipSeen := true, quality := o.quality.doubted }
  | .b => { o with
      chB := { o.chB with failed := true }, mode := .aOnly, slip := false, slipSeen := true, quality := o.quality.doubted }

/-- The odometry with the silent runs of a sample (R87). -/
def heardOdo (pA pB dA dB : Nat) (o : Odometry) : Odometry :=
  { o with chA := o.chA.heard pA dB, chB := o.chB.heard pB dA }

/-- The odometry after the failure judgement (R88). -/
def failureJudged (pA pB dA dB : Nat) (o : Odometry) : Odometry :=
  if (o.chA.heard pA dB).dead then failedOdo .a (heardOdo pA pB dA dB o)
  else if (o.chB.heard pB dA).dead then failedOdo .b (heardOdo pA pB dA dB o)
  else heardOdo pA pB dA dB o

theorem raiseNotice_odo (n : Notice) (s : State) : (raiseNotice n s).odo = s.odo := (raiseNotice_inner n s).odo

theorem fallToDoubt_odo (cause : DoubtCause) (s : State) :
    (fallToDoubt cause s).odo = { s.odo with quality := s.odo.quality.doubted } := by
  unfold fallToDoubt Quality.doubted
  split
  · rw [raiseNotice_odo]
    rfl
  · rfl

theorem fallToLost_odo (s : State) : (fallToLost s).odo = { s.odo with quality := .lost } := by
  unfold fallToLost
  split
  · rename_i lost
    rw [← lost]
  · rw [(limitLost_inner _).odo, raiseNotice_odo]
    rfl

theorem gradeSample_odo (s : State) : (gradeSample s).odo = { s.odo with quality := gradeAfter s.odo.since s.odo.quality } := by
  unfold gradeSample gradeAfter
  split
  · rw [fallToLost_odo]
  · split
    · rename_i far
      rw [fallToDoubt_odo]
      unfold Quality.doubted
      simp only [far, true_and]
    · rename_i near
      rw [if_neg fun both => near both.1]

theorem judgeSlip_odo (dA dB : Nat) (s : State) : (judgeSlip dA dB s).odo = slipJudged dA dB s.odo := by
  unfold judgeSlip slipJudged
  dsimp only
  split
  · split
    · rfl
    · rw [raiseNotice_odo]
      rfl
  · rfl

theorem declareFailed_odo (ch : Channel) (s : State) : (declareFailed ch s).odo = failedOdo ch s.odo := by
  unfold declareFailed
  dsimp only
  rw [fallToDoubt_odo, raiseNotice_odo]
  cases ch <;> rfl

theorem judgeFailure_eq (pA pB dA dB : Nat) (s : State) : judgeFailure pA pB dA dB s =
    if (s.odo.chA.heard pA dB).dead then declareFailed .a (setOdo (heardOdo pA pB dA dB s.odo) s)
    else if (s.odo.chB.heard pB dA).dead then declareFailed .b (setOdo (heardOdo pA pB dA dB s.odo) s)
    else setOdo (heardOdo pA pB dA dB s.odo) s := rfl

theorem judgeFailure_odo (pA pB dA dB : Nat) (s : State) :
    (judgeFailure pA pB dA dB s).odo = failureJudged pA pB dA dB s.odo := by
  rw [judgeFailure_eq]
  unfold failureJudged
  split
  · rw [declareFailed_odo]
    rfl
  · split
    · rw [declareFailed_odo]
      rfl
    · rfl

/-! ### The sample -/

/-- The two increments of a sample; that of a channel not in use is 0 (R84). -/
def incrementA (pA : Nat) (s : State) : Nat :=
  if s.odo.mode = .bOnly then 0 else (scalePulses s pA s.odo.chA.remainder).1
def incrementB (pB : Nat) (s : State) : Nat :=
  if s.odo.mode = .aOnly then 0 else (scalePulses s pB s.odo.chB.remainder).1

/-- The odometry with the remainders of a sample (R84). -/
def scaledOdo (pA pB : Nat) (s : State) : Odometry :=
  { s.odo with
    chA := { s.odo.chA with
      remainder := if s.odo.mode = .bOnly then s.odo.chA.remainder else (scalePulses s pA s.odo.chA.remainder).2 }
    chB := { s.odo.chB with
      remainder := if s.odo.mode = .aOnly then s.odo.chB.remainder else (scalePulses s pB s.odo.chB.remainder).2 } }

theorem takeChannels_eq (pA pB : Nat) (s : State) :
    takeChannels pA pB s = (incrementA pA s, incrementB pB s, setOdo (scaledOdo pA pB s) s) := by
  unfold takeChannels incrementA incrementB scaledOdo
  cases mode : s.odo.mode <;> simp

/-- The combined increment of a sample (R85, R86). -/
def sampleIncrement (pA pB : Nat) (s : State) : Nat := combine s.odo.mode (incrementA pA s) (incrementB pB s)

/-- The sample judged, in DUAL (R85, R87, R88). -/
def judgeSample (pA pB : Nat) (s : State) : State :=
  match s.odo.mode with
  | .dual => judgeFailure (limitPulses pA) (limitPulses pB) (incrementA pA s) (incrementB pB s)
      (judgeSlip (incrementA pA s) (incrementB pB s) (setOdo (scaledOdo pA pB s) s))
  | .aOnly | .bOnly => setOdo (scaledOdo pA pB s) s

/-- The odometry of a judged sample. -/
def judgedOdo (pA pB : Nat) (s : State) : Odometry :=
  match s.odo.mode with
  | .dual => failureJudged (limitPulses pA) (limitPulses pB) (incrementA pA s) (incrementB pB s)
      (slipJudged (incrementA pA s) (incrementB pB s) (scaledOdo pA pB s))
  | .aOnly | .bOnly => scaledOdo pA pB s

/-- The increment applied and the speed taken (R89, R90). -/
def moveOdo (d : Nat) (o : Odometry) : Odometry :=
  { applyIncrement d o with vmeas := measuredSpeed (applyIncrement d o).history }

/-- The state whose grade a sample takes. -/
def movedSample (pA pB : Nat) (s : State) : State :=
  setOdo (moveOdo (sampleIncrement pA pB s) (judgeSample pA pB s).odo) (judgeSample pA pB s)

theorem sampleUnit_eq (pA pB : Nat) (s : State) : sampleUnit pA pB s = countStandstill (gradeSample (movedSample pA pB s)) := by
  unfold sampleUnit
  dsimp only
  rw [takeChannels_eq]
  unfold movedSample moveOdo judgeSample sampleIncrement
  cases s.odo.mode <;> rfl

theorem judgeSample_odo (pA pB : Nat) (s : State) : (judgeSample pA pB s).odo = judgedOdo pA pB s := by
  unfold judgeSample judgedOdo
  cases s.odo.mode with
  | dual => exact (judgeFailure_odo _ _ _ _ _).trans (by rw [judgeSlip_odo]; rfl)
  | aOnly | bOnly => rfl

theorem judgeSample_odoWork (pA pB : Nat) (s : State) : OdoWork 3 s (judgeSample pA pB s) := by
  unfold judgeSample
  cases s.odo.mode with
  | dual => exact ((OdoWork.of_odo _ s).trans (judgeSlip_odoWork _ _ _)).trans (judgeFailure_odoWork _ _ _ _ _)
  | aOnly | bOnly => exact (OdoWork.of_odo _ s).mono (Nat.zero_le _)

theorem gradedSample_odoWork (pA pB : Nat) (s : State) : OdoWork 4 s (gradeSample (movedSample pA pB s)) :=
  ((judgeSample_odoWork pA pB s).trans (.of_odo _ _)).trans (gradeSample_odoWork _)

/-- The odometry after a sample. -/
theorem sampleUnit_odo (pA pB : Nat) (s : State) : (sampleUnit pA pB s).odo =
    { moveOdo (sampleIncrement pA pB s) (judgedOdo pA pB s) with
      quality := gradeAfter (min ((judgedOdo pA pB s).since + sampleIncrement pA pB s) 1000000000) (judgedOdo pA pB s).quality } := by
  rw [sampleUnit_eq]
  show (gradeSample (movedSample pA pB s)).odo = _
  rw [gradeSample_odo]
  unfold movedSample
  rw [judgeSample_odo]
  rfl

theorem heard_eq (pulses other : Nat) (c : ChannelState) : c.heard pulses other = { c with
    silent := if pulses = 0 then min (c.silent + 1) 65535 else 0
    partner := if pulses = 0 then min (c.partner + other) 4294967295 else 0 } := by
  unfold ChannelState.heard
  split <;> rfl

/-- The judgement of a sample leaves the readings and the remainders alone. -/
theorem judgedOdo_rest (pA pB : Nat) (s : State) : judgedOdo pA pB s = { scaledOdo pA pB s with
    mode := (judgedOdo pA pB s).mode, slip := (judgedOdo pA pB s).slip, slipSeen := (judgedOdo pA pB s).slipSeen
    quality := (judgedOdo pA pB s).quality
    chA := { (judgedOdo pA pB s).chA with remainder := (scaledOdo pA pB s).chA.remainder }
    chB := { (judgedOdo pA pB s).chB with remainder := (scaledOdo pA pB s).chB.remainder } } := by
  have slip (a b : Nat) (o : Odometry) : slipJudged a b o =
      { o with slip := (slipJudged a b o).slip, slipSeen := (slipJudged a b o).slipSeen } := by
    unfold slipJudged
    split <;> rfl
  unfold judgedOdo
  cases s.odo.mode with
  | aOnly | bOnly => rfl
  | dual =>
    dsimp only
    generalize scaledOdo pA pB s = o
    have slipped := slip (incrementA pA s) (incrementB pB s) o
    generalize slipJudged (incrementA pA s) (incrementB pB s) o = o' at slipped ⊢
    rw [slipped]
    unfold failureJudged
    split
    · simp [failedOdo, heardOdo, heard_eq]
    · split
      · simp [failedOdo, heardOdo, heard_eq]
      · simp [heardOdo, heard_eq]

end Sys2Proof.Machine
end

section
/-! Rear removals: the horizon that a delivery draws in, and the datum shifted cell by cell. -/

namespace Sys2Proof.Machine

-- One proof after another: many at a time want more threads than the memory limit of a build leaves.
set_option Elab.async false

/-! ### Work that does not move the horizon on (R111, R113) -/

/-- OVERRUN stands once raised, and without one raised on the way the horizon does not pass a bound. -/
structure Draws (bound : Int) (s t : State) : Prop where
  stands : s.auth.overrun = true → t.auth.overrun = true
  horizon : t.auth.overrun = s.auth.overrun → t.auth.horizon ≤ bound

namespace Draws

theorem of_auth {s t : State} (same : t.auth = s.auth) : Draws s.auth.horizon s t :=
  ⟨fun h => by rw [same]; exact h, fun _ => Int.le_of_eq (by rw [same])⟩

theorem trans {s t u : State} {b c d : Int} (h : Draws b s t) (k : Draws c t u) (within : t.auth.horizon ≤ b → c ≤ d) :
    Draws d s u := by
  refine ⟨fun was => k.stands (h.stands was), fun same => ?_⟩
  have middle : t.auth.overrun = s.auth.overrun := by
    cases was : s.auth.overrun with
    | true => exact h.stands was
    | false =>
      rw [was] at same
      exact Bool.eq_false_iff.mpr fun raised => by
        rw [k.stands raised] at same
        exact nomatch same
  exact Int.le_trans (k.horizon (same.trans middle.symm)) (within (h.horizon middle))

/-- Two steps, neither of which moves the horizon on. -/
theorem both {s t u : State} (h : Draws s.auth.horizon s t) (k : Draws t.auth.horizon t u) : Draws s.auth.horizon s u :=
  h.trans k id

end Draws

theorem overrunTest_standing {s : State} (stands : s.auth.overrun = true) : overrunTest s = s := by
  rw [overrunTest_eq]
  refine if_neg fun guard => ?_
  obtain ⟨-, -, absent, -⟩ := guard
  rw [stands] at absent
  exact nomatch absent

theorem giveWay_overrun (s : State) : (giveWay s).auth.overrun = s.auth.overrun := by rw [giveWay_auth]

theorem immediateRecompute_draws (s : State) : Draws s.auth.horizon s (immediateRecompute s) := by
  refine ⟨fun stands => ?_, fun same => ?_⟩
  · have before : (giveWay s).auth.overrun = true := (giveWay_overrun s).trans stands
    rw [immediateRecompute_eq]
    split
    · obtain eq | ⟨c, -, eq⟩ := recomputeCeiling_cases (giveWay s)
      · rw [eq, overrunTest_standing before]
        exact before
      · rw [eq, sendWord_overrun, overrunTest_standing before]
        exact before
    · exact before
  · cases carrier : s.isCarrier with
    | true =>
      rw [immediateRecompute_horizon carrier same]
      exact Int.min_le_left _ _
    | false =>
      rw [immediateRecompute_eq, if_neg (by simp [carrier])]
      exact giveWay_horizon_le s

theorem releaseEntry_draws (z : Nat) (s : State) : Draws s.auth.horizon s (releaseEntry z s) := by
  have same : (urgentRequest (modifyEntry z ClaimEntry.release s)).auth = s.auth := by
    rw [urgentRequest_auth]
    rfl
  exact (Draws.of_auth same).both (immediateRecompute_draws _)

theorem releaseEntries_draws : ∀ (zs : List Nat) (s : State),
    Draws s.auth.horizon s (zs.foldl (fun s z => releaseEntry z s) s)
  | [], _ => .of_auth rfl
  | z :: zs, s => (releaseEntry_draws z s).both (releaseEntries_draws zs (releaseEntry z s))

theorem deliverNeeds_draws (s : State) : Draws s.auth.horizon s (deliverNeeds s) := by
  obtain ⟨sel, eq⟩ := deliverNeeds_eq s
  rw [eq]
  have updated : Draws s.auth.horizon s (updateAll s) := .of_auth rfl
  have work : EntryWork ((lostZones s).foldl (fun s z => releaseEntry z s) (updateAll s)) (reevaluateZones sel (needsTaken s)) :=
    (EntryWork.of_entries _ _).trans (.pass sel _ _ _)
  exact (updated.both (releaseEntries_draws _ _)).both (.of_auth work.auth)

theorem Moves.horizon_le {F : List Flag} (kind : ∀ f ∈ F, f ∉ [Flag.horizon, .release, .yield, .reset]) {s t : State}
    (m : Moves F s t) : t.auth.horizon ≤ s.auth.horizon :=
  m.keeps (I := fun t => t.auth.horizon ≤ s.auth.horizon) (fun f _ _ member move before => Int.le_trans (move.horizon_le (by
    obtain rfl | member := member
    · decide
    · exact kind f member)) before) (Int.le_refl _)

theorem listingTest_draws (s : State) : Draws s.auth.horizon s (listingTest s) := by
  have moves := listingTest_moves s
  have overrun : (listingTest s).auth.overrun = s.auth.overrun := by
    have rest := (moves.authRest fun _ h => h).rest
    have same := congrArg Authority.overrun rest
    exact same
  exact ⟨fun h => overrun.trans h, fun _ => moves.horizon_le (by decide)⟩

theorem deliver_draws (s : State) : Draws s.auth.horizon s (deliver s) := (deliverNeeds_draws s).both (listingTest_draws _)

/-! ### The removals of one sample (R11, R12) -/

/-- The length of the first `k` cells. -/
def goneLength (k : Nat) (cells : List StoredCell) : Nat := ((cells.take k).map (fun c => c.cell.length)).sum

/-- The cells with their boundaries reduced. -/
def shiftCells (L : Int) (cells : List StoredCell) : List StoredCell := cells.map (fun c => { c with entry := c.entry - L })

theorem shiftCells_shiftCells (L M : Int) (cells : List StoredCell) :
    shiftCells M (shiftCells L cells) = shiftCells (L + M) cells := by
  unfold shiftCells
  rw [List.map_map]
  refine List.map_congr_left fun c _ => ?_
  show ({ c with entry := c.entry - L - M } : StoredCell) = _
  rw [Int.sub_sub]

theorem shiftCells_zero (cells : List StoredCell) : shiftCells 0 cells = cells := by
  unfold shiftCells
  simp

theorem shiftCells_drop (L : Int) (k : Nat) (cells : List StoredCell) :
    (shiftCells L cells).drop k = shiftCells L (cells.drop k) := List.map_drop.symm

theorem goneLength_shiftCells (L : Int) (k : Nat) (cells : List StoredCell) :
    goneLength k (shiftCells L cells) = goneLength k cells := by
  unfold goneLength shiftCells
  rw [← List.map_take, List.map_map]
  rfl

theorem goneLength_succ (k : Nat) (c : StoredCell) (cells : List StoredCell) :
    goneLength (k + 1) (c :: cells) = c.cell.length + goneLength k cells := by
  unfold goneLength
  simp

/-- What `k` rear removals leave. -/
structure RearGone (k : Nat) (s t : State) : Prop where
  now : t.now = s.now
  station : t.station = s.station
  table : t.table = s.table
  radio : t.radio = { s.radio with gen := t.radio.gen, slot := t.radio.slot }
  profiles : profilesKept s t
  port : t.port = { s.port with notices := t.port.notices, dropped := t.port.dropped }
  odo : t.odo = { s.odo with
    pos := s.odo.pos - (goneLength k s.route.cells : Int) * 1000
    lastMarker := s.odo.lastMarker.map (fun m => { m with surveyed := m.surveyed - (goneLength k s.route.cells : Int) }) }
  cells : t.route.cells = shiftCells (goneLength k s.route.cells) (s.route.cells.drop k)
  draws : Draws (s.auth.horizon - goneLength k s.route.cells) s t
  unmoved : k = 0 → t = s
  first : k = 1 → s.station.state ≠ .listen →
    (∀ e ∈ s.window.entries, e.state = .held → isNeeded e.zone t.route.cells = true) →
    t.auth.horizon = s.auth.horizon - goneLength k s.route.cells
  leaves : k ≠ 0 → k < s.route.cells.length
  passed : ∀ j < k, (goneLength (j + 1) s.route.cells : Int) < s.s - s.carrierLength
  ends : 2 ≤ t.route.cells.length → ∀ c, t.route.cells.head? = some c → t.s - t.carrierLength ≤ c.cell.length

theorem carrierLength_congr {s t : State} (station : t.station = s.station) : t.carrierLength = s.carrierLength := by
  unfold State.carrierLength
  rw [station]

theorem goneLength_zero (cells : List StoredCell) : goneLength 0 cells = 0 := rfl

theorem RearGone.still {s : State} (ends : 2 ≤ s.route.cells.length → ∀ c, s.route.cells.head? = some c →
    s.s - s.carrierLength ≤ c.cell.length) : RearGone 0 s s := by
  refine ⟨rfl, rfl, rfl, rfl, ⟨rfl, rfl, rfl, rfl⟩, rfl, ?_, ?_, ?_, fun _ => rfl, nofun, fun h => absurd rfl h,
    fun j low => absurd low (Nat.not_lt_zero j), ends⟩
  · rw [goneLength_zero]
    simp
  · rw [goneLength_zero]
    exact (shiftCells_zero _).symm
  · rw [goneLength_zero]
    exact ⟨id, fun _ => by simp⟩

/-- One more cell leaves ahead of the others. -/
theorem RearGone.step {k : Nat} {s m t : State} {c d : StoredCell} {rest : List StoredCell}
    (cells : s.route.cells = c :: d :: rest) (passed : (c.cell.length : Int) < s.s - (s.carrierLength : Int))
    (delivered : m = deliver (shiftDatum c.cell.length (d :: rest) s)) (gone : RearGone k m t) : RearGone (k + 1) s t := by
  have inner : Inner (shiftDatum c.cell.length (d :: rest) s) m := delivered ▸ deliver_inner _
  have draws : Draws (s.auth.horizon - (c.cell.length : Int)) (shiftDatum c.cell.length (d :: rest) s) m :=
    delivered ▸ deliver_draws (shiftDatum c.cell.length (d :: rest) s)
  have left : m.route.cells = shiftCells c.cell.length (d :: rest) := by
    rw [inner.route]
    rfl
  have length : goneLength (k + 1) s.route.cells = c.cell.length + goneLength k m.route.cells := by
    rw [cells, goneLength_succ, left, goneLength_shiftCells]
  have position : m.odo = { s.odo with
      pos := s.odo.pos - (c.cell.length : Int) * 1000
      lastMarker := s.odo.lastMarker.map (fun m => { m with surveyed := m.surveyed - (c.cell.length : Int) }) } := inner.odo
  have place : m.s = s.s - c.cell.length := by
    unfold State.s
    rw [position]
    show (s.odo.pos - (c.cell.length : Int) * 1000) / 1000 = _
    omega
  refine ⟨gone.now.trans inner.now, gone.station.trans inner.station, gone.table.trans inner.table, ?_, ?_, ?_, ?_, ?_, ?_,
    nofun, fun one => ?_, fun _ => ?_, fun j low => ?_, gone.ends⟩
  · rw [gone.radio, inner.radio]
    rfl
  · obtain ⟨h1, h2, h3, h4⟩ := gone.profiles
    have k : profilesKept s m := inner.profilesKept
    obtain ⟨k1, k2, k3, k4⟩ := k
    exact ⟨h1.trans k1, h2.trans k2, h3.trans k3, h4.trans k4⟩
  · rw [gone.port, inner.port]
    rfl
  · rw [gone.odo, position, length, Option.map_map]
    have apart : s.odo.pos - (c.cell.length : Int) * 1000 - (goneLength k m.route.cells : Int) * 1000 =
        s.odo.pos - ((c.cell.length + goneLength k m.route.cells : Nat) : Int) * 1000 := by omega
    have record : ∀ r : MarkerRecord, ({ r with
        surveyed := r.surveyed - (c.cell.length : Int) - (goneLength k m.route.cells : Int) } : MarkerRecord) =
        { r with surveyed := r.surveyed - ((c.cell.length + goneLength k m.route.cells : Nat) : Int) } := fun r => by
      rw [show r.surveyed - (c.cell.length : Int) - (goneLength k m.route.cells : Int) =
        r.surveyed - ((c.cell.length + goneLength k m.route.cells : Nat) : Int) by omega]
    rw [apart, ← funext record]
    rfl
  · rw [gone.cells, length, cells, left, shiftCells_drop, shiftCells_shiftCells, ← left, Int.natCast_add]
    rfl
  · have before : Draws (s.auth.horizon - (c.cell.length : Int)) s m := ⟨draws.stands, draws.horizon⟩
    refine before.trans gone.draws fun low => ?_
    rw [length]
    omega
  · intro other needed
    obtain rfl : k = 0 := by omega
    have same := gone.unmoved rfl
    subst same
    rw [length, goneLength_zero, Nat.add_zero, delivered]
    rw [left] at needed
    rw [deliver_auth (s := shiftDatum c.cell.length (d :: rest) s) needed other]
    rfl
  · rw [cells]
    have few := gone.leaves
    rw [left] at few
    have same : (shiftCells (c.cell.length : Int) (d :: rest)).length = rest.length + 1 := by simp [shiftCells]
    rw [same] at few
    simp only [List.length_cons]
    omega
  · cases j with
    | zero =>
      rw [cells, goneLength_succ, goneLength_zero]
      simpa using passed
    | succ j =>
      have further := gone.passed j (Nat.lt_of_succ_lt_succ low)
      rw [place, carrierLength_congr inner.station, left, goneLength_shiftCells] at further
      rw [cells, goneLength_succ, Int.natCast_add]
      have same : (shiftDatum c.cell.length (d :: rest) s).carrierLength = s.carrierLength := rfl
      omega

/-- The removals end when the rear cell is not passed or one cell is left. -/
theorem rearRemovals_gone : ∀ (n : Nat) {s : State} (_ : s.route.cells.length ≤ n), ∃ k, RearGone k s (rearRemovals n s)
  | 0, s, few => ⟨0, .still fun two => absurd (Nat.le_trans two few) (by decide)⟩
  | n + 1, s, few => by
    cases cells : s.route.cells with
    | nil =>
      have eq : rearRemovals (n + 1) s = s := by
        unfold rearRemovals
        rw [cells]
      rw [eq]
      exact ⟨0, .still fun two => absurd two (by rw [cells]; decide)⟩
    | cons c more =>
      cases more with
      | nil =>
        have eq : rearRemovals (n + 1) s = s := by
          unfold rearRemovals
          rw [cells]
        rw [eq]
        exact ⟨0, .still fun two => absurd two (by rw [cells]; simp)⟩
      | cons d rest =>
        have eq : rearRemovals (n + 1) s = if (c.cell.length : Int) < s.s - (s.carrierLength : Int) then
            rearRemovals n (deliver (shiftDatum c.cell.length (d :: rest) s)) else s := by
          rw [rearRemovals, cells]
        rw [eq]
        by_cases passed : (c.cell.length : Int) < s.s - (s.carrierLength : Int)
        · rw [if_pos passed]
          have fewer : (deliver (shiftDatum c.cell.length (d :: rest) s)).route.cells.length ≤ n := by
            rw [(deliver_inner _).route]
            rw [cells] at few
            show (List.map _ (d :: rest)).length ≤ n
            rw [List.length_map]
            exact Nat.le_of_succ_le_succ few
          obtain ⟨k, gone⟩ := rearRemovals_gone n fewer
          exact ⟨k + 1, .step cells passed rfl gone⟩
        · rw [if_neg passed]
          refine ⟨0, .still fun _ x head => ?_⟩
          rw [cells] at head
          obtain rfl := Option.some.inj head
          exact Int.not_lt.mp passed

end Sys2Proof.Machine
end

section
/-! O28: the odometry sample, with its rear removals. -/

namespace Sys2Proof.Machine

-- One proof after another: many at a time want more threads than the memory limit of a build leaves.
set_option Elab.async false

/-! ### The increments by the locked ratio (R84 to R86) -/

/-- The scaled count of a channel, before the division (R84). -/
def pulseProduct (w : ConfigWord) (s : State) (p : Nat) (c : ChannelState) : Nat :=
  min p 65535 * 1000 * w.num * s.odo.trim + c.remainder

section
variable {s : State} {w : ConfigWord} (cfg : s.station.cfg = some w)
include cfg

theorem scalePulses_locked (p : Nat) (c : ChannelState) : scalePulses s p c.remainder =
    (pulseProduct w s p c / (w.den * 65536), pulseProduct w s p c % (w.den * 65536)) := by
  unfold scalePulses State.ratio
  rw [cfg]
  rfl

/-- The combined increment of a sample, in terms of both channels' scaled counts. -/
theorem sampleIncrement_locked (pA pB : Nat) : sampleIncrement pA pB s =
    combine s.odo.mode (pulseProduct w s pA s.odo.chA / (w.den * 65536)) (pulseProduct w s pB s.odo.chB / (w.den * 65536)) := by
  unfold sampleIncrement incrementA incrementB
  rw [scalePulses_locked cfg, scalePulses_locked cfg]
  cases s.odo.mode <;> rfl

end

theorem combine_eq (mode : OdoMode) (a b : Nat) : combine mode a b = match mode with
    | .dual => if max 10000 (max a b / 8) < max a b - min a b then min a b else (a + b) / 2
    | .aOnly => a
    | .bOnly => b := by
  cases mode with
  | dual =>
    show (if isSlip a b = true then _ else _) = _
    unfold isSlip differ
    simp only [decide_eq_true_eq]
  | aOnly | bOnly => rfl

/-! ### The unit's work, seen from outside -/

/-- The sample scheduled anew (R83). -/
def scheduled (s : State) : State := setOdo { s.odo with nextSample := s.odo.nextSample.map (· + samplePeriod) } s

theorem sampleWork_eq (pA pB : Nat) (s : State) : sampleWork pA pB s = listingTest
    (rearRemovals (sampleUnit pA pB (scheduled s)).route.cells.length (sampleUnit pA pB (scheduled s))) := rfl

/-- The readings of the odometry after the unit's work. -/
structure SampleRead (inc pA pB : Nat) (s u : State) : Prop where
  pos : u.odo.pos = s.odo.pos + (inc : Int)
  travel : u.odo.travel = (s.odo.travel + inc) % 2 ^ 48
  since : u.odo.since = min (s.odo.since + inc) 1000000000
  history : u.odo.history = s.odo.history.drop 1 ++ [inc]
  vmeas : u.odo.vmeas = min ((s.odo.history.drop 1 ++ [inc]).sum / 1000 * 5) 10000
  trim : u.odo.trim = s.odo.trim
  rejects : u.odo.rejects = s.odo.rejects
  lastMarker : u.odo.lastMarker = s.odo.lastMarker
  nextSample : u.odo.nextSample = s.odo.nextSample
  remainderA : u.odo.chA.remainder = (scaledOdo pA pB s).chA.remainder
  remainderB : u.odo.chB.remainder = (scaledOdo pA pB s).chB.remainder

theorem sampleUnit_read (pA pB : Nat) (s : State) : SampleRead (sampleIncrement pA pB s) pA pB s (sampleUnit pA pB s) := by
  have rest := judgedOdo_rest pA pB s
  have pos := congrArg Odometry.pos rest
  have travel := congrArg Odometry.travel rest
  have since := congrArg Odometry.since rest
  have history := congrArg Odometry.history rest
  have trim := congrArg Odometry.trim rest
  have rejects := congrArg Odometry.rejects rest
  have lastMarker := congrArg Odometry.lastMarker rest
  have nextSample := congrArg Odometry.nextSample rest
  have remainderA := congrArg (fun o => o.chA.remainder) rest
  have remainderB := congrArg (fun o => o.chB.remainder) rest
  have odo := sampleUnit_odo pA pB s
  generalize sampleUnit pA pB s = u at odo
  generalize judgedOdo pA pB s = j at *
  have moved : (moveOdo (sampleIncrement pA pB s) j).history = s.odo.history.drop 1 ++ [sampleIncrement pA pB s] := by
    show j.history.drop 1 ++ _ = _
    rw [history]
    rfl
  refine ⟨?_, ?_, ?_, ?_, ?_, ?_, ?_, ?_, ?_, ?_, ?_⟩ <;> rw [odo]
  · show j.pos + _ = _
    rw [pos]
    rfl
  · show (j.travel + _) % _ = _
    rw [travel]
    rfl
  · show min (j.since + _) _ = _
    rw [since]
    rfl
  · exact moved
  · show measuredSpeed (moveOdo (sampleIncrement pA pB s) j).history = _
    rw [moved]
    rfl
  · exact trim
  · exact rejects
  · exact lastMarker
  · exact nextSample
  · exact remainderA
  · exact remainderB

theorem sampleUnit_station (pA pB : Nat) (s : State) : (sampleUnit pA pB s).station = { s.station with
    standstill := if (sampleUnit pA pB s).odo.vmeas = 0 then min (s.station.standstill + 1) 50 else 0 } := by
  rw [sampleUnit_eq]
  have same := (gradedSample_odoWork pA pB s).station
  unfold countStandstill
  rw [same]

/-- What the unit's work leaves of the other blocks. -/
structure SampleFrame (s u : State) : Prop where
  now : u.now = s.now
  route : u.route = s.route
  window : u.window = s.window
  table : u.table = s.table
  radio : u.radio = s.radio
  auth : u.auth = { s.auth with
    ceiling := u.auth.ceiling, previous := u.auth.previous, wordOut := u.auth.wordOut, pendingWord := u.auth.pendingWord }
  port : u.port = { s.port with notices := u.port.notices, dropped := u.port.dropped }
  notices : s.port.notices <+: u.port.notices
  few : u.port.notices.length ≤ s.port.notices.length + 4

theorem sampleUnit_frame (pA pB : Nat) (s : State) : SampleFrame s (sampleUnit pA pB s) := by
  have work := gradedSample_odoWork pA pB s
  rw [sampleUnit_eq]
  exact ⟨work.now, work.route, work.window, work.table, work.radio, congrArg State.auth work.frame,
    congrArg State.port work.frame, work.notices, work.few⟩

theorem exec_odometrySample {pA pB : Nat} {s : State} {d : Time} (held : s.station.held = false) (carrier : s.isCarrier = true)
    (running : s.running = true) (due : s.odo.nextSample = some d) :
    exec (.odometrySample pA pB) s = .next (finish (sampleWork pA pB (s.reach d))) := by
  have isDue : sampleDue s = some d := by
    unfold sampleDue
    rw [carrier, running]
    exact due
  show Host.Outcome.next (timedEvent (sampleDue s) (sampleWork pA pB) s) = _
  rw [isDue, timedEvent_some held]

/-- A sample, from the readings to the rear removals. -/
theorem sampleWork_parts (pA pB : Nat) (s : State) : ∃ k u v,
    SampleRead (sampleIncrement pA pB (scheduled s)) pA pB (scheduled s) u ∧ SampleFrame s u ∧
    u.station = { s.station with standstill := if u.odo.vmeas = 0 then min (s.station.standstill + 1) 50 else 0 } ∧
    RearGone k u v ∧ sampleWork pA pB s = listingTest v := by
  have frame := sampleUnit_frame pA pB (scheduled s)
  obtain ⟨k, gone⟩ := rearRemovals_gone (sampleUnit pA pB (scheduled s)).route.cells.length
    (s := sampleUnit pA pB (scheduled s)) (Nat.le_refl _)
  exact ⟨k, _, _, sampleUnit_read pA pB (scheduled s), ⟨frame.now, frame.route, frame.window, frame.table, frame.radio, frame.auth,
    frame.port, frame.notices, frame.few⟩, sampleUnit_station pA pB (scheduled s), gone, sampleWork_eq pA pB s⟩

theorem goneLength_cast (n : Nat) (cells : List StoredCell) :
    (goneLength n cells : Int) = ((cells.take n).map (fun c => (c.cell.length : Int))).sum := by
  unfold goneLength
  induction cells.take n with
  | nil => rfl
  | cons c cs ih =>
    simp only [List.map_cons, List.sum_cons]
    rw [Int.natCast_add, ih]

/-- Settles O28. -/
theorem odometrySample : Obligations.OdometrySample := by
  intro pulsesA pulsesB s d w held carrier running cfg due product a b d'
  obtain ⟨k, m, v, read, frame, station, gone, work⟩ := sampleWork_parts pulsesA pulsesB (s.reach d)
  have increment : sampleIncrement pulsesA pulsesB (scheduled (s.reach d)) = d' := by
    rw [sampleIncrement_locked (s := scheduled (s.reach d)) cfg, combine_eq]
    rfl
  have inner := listingTest_inner v
  have draws := gone.draws.trans (listingTest_draws v) id
  have listed : v.station.state ≠ .listen → (listingTest v).auth = v.auth := listingTest_auth
  have run := exec_odometrySample (pA := pulsesA) (pB := pulsesB) held carrier running due
  rw [work] at run
  generalize listingTest v = x at run inner draws listed
  have far (n : Nat) : (goneLength n m.route.cells : Int) = ((s.route.cells.take n).map (fun c => (c.cell.length : Int))).sum := by
    rw [frame.route]
    exact (goneLength_cast n s.route.cells)
  rw [increment] at read
  have speed := read.vmeas
  have odo : x.odo = _ := inner.odo.trans gone.odo
  have cells : x.route.cells = _ := (congrArg Route.cells inner.route).trans gone.cells
  rw [far] at odo cells draws
  have place : m.s = (s.odo.pos + (d' : Int)) / 1000 := by
    unfold State.s
    rw [read.pos]
    rfl
  have length : m.carrierLength = s.carrierLength := by
    unfold State.carrierLength
    rw [station]
    rfl
  have same := congrArg Authority.overrun frame.auth
  have horizon := congrArg Authority.horizon frame.auth
  refine ⟨_, k, run, ?_, ?_, ?_, ?_, ?_, ?_, ?_, ?_, ?_, ?_, ?_, ?_, ?_, ?_, fun raised => ?_, fun few other needed => ?_, fun some => ?_,
    fun j low => ?_, fun two c head => ?_, finish_tableKept ?_, finish_radioKept ?_, finish_profilesKept ?_, ?_⟩
  · rw [finish_now, inner.now, gone.now, frame.now]
    rfl
  · rw [finish_odo, odo]
    exact read.travel
  · rw [finish_odo, odo]
    exact read.since
  · rw [finish_odo, odo]
    exact read.history
  · rw [finish_odo, odo]
    exact speed
  · rw [finish_odo, odo]
    exact read.trim
  · rw [finish_odo, odo]
    exact read.rejects
  · rw [finish_odo, odo]
    refine read.remainderA.trans ?_
    unfold scaledOdo
    rw [scalePulses_locked (s := scheduled (s.reach d)) cfg]
    rfl
  · rw [finish_odo, odo]
    refine read.remainderB.trans ?_
    unfold scaledOdo
    rw [scalePulses_locked (s := scheduled (s.reach d)) cfg, scalePulses_locked (s := scheduled (s.reach d)) cfg]
    rfl
  · rw [finish_odo, odo]
    refine read.nextSample.trans ?_
    show s.odo.nextSample.map (· + samplePeriod) = _
    rw [due]
    rfl
  · rw [finish_station, inner.station, gone.station, station, speed]
    rfl
  · rw [finish_odo, odo]
    show m.odo.pos - _ = _
    rw [read.pos]
    rfl
  · rw [finish_odo, odo]
    show m.odo.lastMarker.map _ = _
    rw [read.lastMarker]
    rfl
  · rw [finish_route, cells, frame.route]
    rfl
  · rw [finish_auth] at raised ⊢
    have low := draws.horizon (raised.trans same.symm)
    rw [horizon] at low
    exact low
  · have away : v.station.state ≠ .listen := by
      rw [gone.station, station]
      exact other
    rw [finish_auth, listed away]
    have from_ : m.auth.horizon = s.auth.horizon := horizon
    rw [← far, ← from_]
    obtain rfl | rfl : k = 0 ∨ k = 1 := by omega
    · rw [gone.unmoved rfl, goneLength_zero]
      simp
    · refine gone.first rfl ?_ fun e member held => ?_
      · rw [station]
        exact other
      · rw [frame.window] at member
        have is := needed e member held
        rw [finish_route, inner.route] at is
        exact is
  · have fewer := gone.leaves some
    rw [frame.route] at fewer
    exact fewer
  · rw [← far, ← place, ← length]
    exact gone.passed j low
  · rw [finish_route] at two head
    rw [inner.route] at two head
    have at_ := gone.ends two c head
    have s' : (finish x).s = v.s := by
      unfold State.s
      rw [finish_odo, inner.odo]
    rw [s', ← length, ← carrierLength_congr gone.station]
    exact at_
  · exact inner.table.trans (gone.table.trans frame.table)
  · unfold radioKept
    rw [inner.radio, gone.radio, frame.radio]
    rfl
  · obtain ⟨h1, h2, h3, h4⟩ := gone.profiles
    have kept : profilesKept v x := inner.profilesKept
    obtain ⟨k1, k2, k3, k4⟩ := kept
    have auth := frame.auth
    refine ⟨k1.trans (h1.trans ?_), k2.trans (h2.trans ?_), k3.trans (h3.trans ?_), k4.trans (h4.trans ?_)⟩ <;>
    · rw [auth]
      rfl
  · have port : x.port = { s.port with notices := x.port.notices, dropped := x.port.dropped } := by
      rw [inner.port, gone.port, frame.port]
      rfl
    refine finish_portKept ?_ ?_ ?_ ?_ ?_ <;>
    · rw [port]

end Sys2Proof.Machine
end

section
/-! O29: the judgements of a sample. -/

namespace Sys2Proof.Machine

-- One proof after another: many at a time want more threads than the memory limit of a build leaves.
set_option Elab.async false

/-! ### The judgements as one update of the odometry -/

theorem slipJudged_eq (dA dB : Nat) (o : Odometry) :
    slipJudged dA dB o = { o with slip := isSlip dA dB, slipSeen := o.slipSeen || isSlip dA dB } := by
  unfold slipJudged
  cases isSlip dA dB <;> simp

/-- A channel is declared failed for the first that is dead (R88). -/
theorem failureJudged_eq (pA pB dA dB : Nat) (o : Odometry) :
    let deadA := (o.chA.heard pA dB).dead
    let deadB := (o.chB.heard pB dA).dead && !deadA
    failureJudged pA pB dA dB o = { o with
      chA := { o.chA.heard pA dB with failed := o.chA.failed || deadA }
      chB := { o.chB.heard pB dA with failed := o.chB.failed || deadB }
      mode := if deadA then .bOnly else if deadB then .aOnly else o.mode
      slip := o.slip && !deadA && !deadB
      slipSeen := o.slipSeen || deadA || deadB
      quality := if deadA || deadB then o.quality.doubted else o.quality } := by
  intro deadA deadB
  have isA : deadA = (o.chA.heard pA dB).dead := rfl
  have isB : deadB = ((o.chB.heard pB dA).dead && !deadA) := rfl
  unfold failureJudged heardOdo failedOdo
  clear_value deadA deadB
  rw [← isA]
  cases deadA with
  | true =>
    obtain rfl : deadB = false := by rw [isB]; simp
    clear isA isB
    simp [heard_eq]
  | false =>
    rw [Bool.not_false, Bool.and_true] at isB
    rw [← isB]
    clear isA isB
    cases deadB <;> simp [heard_eq]

/-- The silent run of a channel after a sample (R87). -/
def silentAfter (p : Nat) (c : ChannelState) : Nat := if p = 0 then min (c.silent + 1) 65535 else 0

/-- The partner distance of a channel after a sample (R87). -/
def partnerAfter (p other : Nat) (c : ChannelState) : Nat := if p = 0 then min (c.partner + other) 4294967295 else 0

theorem limitPulses_zero (p : Nat) : limitPulses p = 0 ↔ p = 0 := by
  unfold limitPulses
  omega

theorem heard_limited (p other : Nat) (c : ChannelState) :
    c.heard (limitPulses p) other = { c with silent := silentAfter p c, partner := partnerAfter p other c } := by
  rw [heard_eq]
  unfold silentAfter partnerAfter
  simp only [limitPulses_zero]

/-- A channel is dead after a sample (R88). -/
def deadAfter (p other : Nat) (c : ChannelState) : Bool :=
  decide (100 ≤ silentAfter p c) && decide (500000 < partnerAfter p other c)

theorem dead_limited (p other : Nat) (c : ChannelState) : (c.heard (limitPulses p) other).dead = deadAfter p other c := by
  rw [heard_limited]
  rfl

/-- The judgements of a sample with the increments `a` and `b`: what they leave in `j` of the odometry `o`. -/
structure Judgement (pA pB a b : Nat) (slips deadA deadB : Bool) (o j : Odometry) : Prop where
  dual : o.mode = .dual → j.chA.silent = silentAfter pA o.chA ∧ j.chA.partner = partnerAfter pA b o.chA ∧
    j.chB.silent = silentAfter pB o.chB ∧ j.chB.partner = partnerAfter pB a o.chB ∧ j.slip = (slips && !deadA && !deadB)
  single : o.mode ≠ .dual → j.chA = { o.chA with remainder := j.chA.remainder } ∧
    j.chB = { o.chB with remainder := j.chB.remainder } ∧ j.slip = o.slip
  failedA : j.chA.failed = (o.chA.failed || deadA)
  failedB : j.chB.failed = (o.chB.failed || deadB)
  mode : j.mode = if deadA then .bOnly else if deadB then .aOnly else o.mode
  slipSeen : j.slipSeen = (o.slipSeen || slips || deadA || deadB)
  quality : j.quality = if deadA || deadB then o.quality.doubted else o.quality

section
variable {s : State} {a b : Nat}

theorem judgedOdo_dual (pA pB : Nat) (mode : s.odo.mode = .dual) (isA : incrementA pA s = a) (isB : incrementB pB s = b) :
    let deadA := deadAfter pA b s.odo.chA
    Judgement pA pB a b (isSlip a b) deadA (deadAfter pB a s.odo.chB && !deadA) s.odo (judgedOdo pA pB s) := by
  have eq : judgedOdo pA pB s = failureJudged (limitPulses pA) (limitPulses pB) a b (slipJudged a b (scaledOdo pA pB s)) := by
    unfold judgedOdo
    rw [mode, isA, isB]
  have judged := failureJudged_eq (limitPulses pA) (limitPulses pB) a b (slipJudged a b (scaledOdo pA pB s))
  rw [slipJudged_eq] at judged
  dsimp only at judged
  rw [dead_limited, dead_limited, heard_limited, heard_limited] at judged
  intro deadA
  rw [eq, slipJudged_eq, judged]
  exact ⟨fun _ => ⟨rfl, rfl, rfl, rfl, rfl⟩, fun other => absurd mode other, rfl, rfl, rfl, rfl, rfl⟩

theorem judgedOdo_single (pA pB : Nat) (mode : s.odo.mode ≠ .dual) :
    Judgement pA pB a b false false false s.odo (judgedOdo pA pB s) := by
  have eq : judgedOdo pA pB s = scaledOdo pA pB s := by
    unfold judgedOdo
    cases is : s.odo.mode with
    | dual => exact absurd is mode
    | aOnly | bOnly => rfl
  rw [eq]
  exact ⟨fun dual => absurd dual mode, fun _ => ⟨rfl, rfl, rfl⟩, by simp [scaledOdo], by simp [scaledOdo], rfl,
    by simp [scaledOdo], rfl⟩

end

/-! ### The notices of a sample -/

theorem fallToDoubt_gives {cause : DoubtCause} {s : State} (good : s.odo.quality = .good) (room : s.port.notices.length < 16) :
    .positionDoubt cause s.s ∈ (fallToDoubt cause s).port.notices := by
  unfold fallToDoubt
  rw [if_pos good]
  exact raiseNotice_mem (s := setOdo { s.odo with quality := .doubt } s) room

theorem limitLost_port (s : State) : (limitLost s).port = s.port := by
  unfold limitLost
  split
  · rw [sendWord_port]
    rfl
  · rfl

theorem limitLost_ceiling (s : State) : (limitLost s).auth.ceiling ≤ 300 := by
  unfold limitLost
  split
  · rw [(sendWord_ceiling _ _).1]
    exact Nat.le_refl _
  · rename_i low
    exact Nat.le_of_not_lt low

theorem fallToLost_gives {s : State} (found : s.odo.quality ≠ .lost) (room : s.port.notices.length < 16) :
    .positionLost s.s ∈ (fallToLost s).port.notices ∧ (fallToLost s).auth.ceiling ≤ 300 := by
  unfold fallToLost
  rw [if_neg found]
  refine ⟨?_, limitLost_ceiling _⟩
  rw [limitLost_port]
  exact raiseNotice_mem (s := setOdo { s.odo with quality := .lost } s) room

theorem judgeSlip_gives {a b : Nat} {s : State} (slips : isSlip a b = true) (first : s.odo.slip = false)
    (room : s.port.notices.length < 16) :
    .slip (if b < a then .a else .b) (differ a b / 1000) ∈ (judgeSlip a b s).port.notices := by
  unfold judgeSlip
  rw [if_pos slips]
  dsimp only
  rw [if_neg (by rw [first]; exact Bool.false_ne_true)]
  exact raiseNotice_mem (s := setOdo { s.odo with slip := true, slipSeen := true } s) room

theorem declareFailed_gives {ch : Channel} {s : State} (room : s.port.notices.length < 16) :
    .channelFail ch ∈ (declareFailed ch s).port.notices := by
  unfold declareFailed
  dsimp only
  refine (fallToDoubt_odoWork .channel _).notices.subset (raiseNotice_mem ?_)
  exact room

theorem judgeFailure_gives {pA pB a b : Nat} {s : State} (room : s.port.notices.length < 16) :
    ((s.odo.chA.heard pA b).dead = true → .channelFail .a ∈ (judgeFailure pA pB a b s).port.notices) ∧
      ((s.odo.chA.heard pA b).dead = false → (s.odo.chB.heard pB a).dead = true →
        .channelFail .b ∈ (judgeFailure pA pB a b s).port.notices) := by
  rw [judgeFailure_eq]
  refine ⟨fun dead => ?_, fun alive dead => ?_⟩
  · rw [if_pos dead]
    exact declareFailed_gives (s := setOdo _ s) room
  · rw [if_neg (by rw [alive]; exact Bool.false_ne_true), if_pos dead]
    exact declareFailed_gives (s := setOdo _ s) room

/-- The notices that the judgement of a sample in DUAL gives. -/
theorem judgeSample_gives {pA pB a b : Nat} {s : State} (mode : s.odo.mode = .dual) (isA : incrementA pA s = a)
    (isB : incrementB pB s = b) (room : s.port.notices.length ≤ 12) :
    (isSlip a b = true → s.odo.slip = false →
      .slip (if b < a then .a else .b) (differ a b / 1000) ∈ (judgeSample pA pB s).port.notices) ∧
      (deadAfter pA b s.odo.chA = true → .channelFail .a ∈ (judgeSample pA pB s).port.notices) ∧
      (deadAfter pA b s.odo.chA = false → deadAfter pB a s.odo.chB = true →
        .channelFail .b ∈ (judgeSample pA pB s).port.notices) := by
  have eq : judgeSample pA pB s =
      judgeFailure (limitPulses pA) (limitPulses pB) a b (judgeSlip a b (setOdo (scaledOdo pA pB s) s)) := by
    unfold judgeSample
    rw [mode, isA, isB]
  have odo : (judgeSlip a b (setOdo (scaledOdo pA pB s) s)).odo = _ := judgeSlip_odo a b (setOdo (scaledOdo pA pB s) s)
  rw [slipJudged_eq] at odo
  have few := (judgeSlip_odoWork a b (setOdo (scaledOdo pA pB s) s)).few
  have few' : (judgeSlip a b (setOdo (scaledOdo pA pB s) s)).port.notices.length ≤ s.port.notices.length + 1 := few
  obtain ⟨first, second⟩ := judgeFailure_gives (pA := limitPulses pA) (pB := limitPulses pB) (a := a) (b := b)
    (s := judgeSlip a b (setOdo (scaledOdo pA pB s) s)) (by omega)
  rw [odo, dead_limited] at first second
  rw [dead_limited] at second
  rw [eq]
  refine ⟨fun slips clear => ?_, first, second⟩
  exact (judgeFailure_odoWork _ _ _ _ _).notices.subset
    (judgeSlip_gives (s := setOdo (scaledOdo pA pB s) s) slips clear (by show s.port.notices.length < 16; omega))

theorem rearRemovals_ceiling_le : ∀ (n : Nat) (s : State), (rearRemovals n s).auth.ceiling ≤ s.auth.ceiling
  | 0, _ => Nat.le_refl _
  | n + 1, s => by
    unfold rearRemovals
    split
    · split
      · exact Nat.le_trans (rearRemovals_ceiling_le n _) (deliver_ceiling_le (shiftDatum _ _ s))
      · exact Nat.le_refl _
    · exact Nat.le_refl _

theorem listingTest_ceiling (s : State) : (listingTest s).auth.ceiling = s.auth.ceiling :=
  (listingTest_moves s).ceiling_same (by decide) (by decide)

/-- What the rear removals and the listing test keep of a sample's judgements. -/
theorem sampleWork_judged (pA pB : Nat) (s : State) :
    (sampleUnit pA pB (scheduled s)).port.notices <+: (sampleWork pA pB s).port.notices ∧
      (sampleWork pA pB s).auth.ceiling ≤ (sampleUnit pA pB (scheduled s)).auth.ceiling ∧
      ∃ pos last, (sampleWork pA pB s).odo = { (sampleUnit pA pB (scheduled s)).odo with pos := pos, lastMarker := last } := by
  rw [sampleWork_eq]
  obtain ⟨k, gone⟩ := rearRemovals_gone (sampleUnit pA pB (scheduled s)).route.cells.length
    (s := sampleUnit pA pB (scheduled s)) (Nat.le_refl _)
  refine ⟨?_, ?_, _, _, (listingTest_inner _).odo.trans gone.odo⟩
  · exact (rearRemovals_within _ _).notices.trans (listingTest_inner _).notices
  · rw [listingTest_ceiling]
    exact rearRemovals_ceiling_le _ _

end Sys2Proof.Machine
end

section
/-! O29 settled: the judgements of a sample from its increments to its notices. -/

namespace Sys2Proof.Machine

-- One proof after another: many at a time want more threads than the memory limit of a build leaves.
set_option Elab.async false

theorem gradeSample_gives {s : State} (room : s.port.notices.length < 16) :
    (80000000 < s.odo.since → s.odo.quality ≠ .lost →
      .positionLost s.s ∈ (gradeSample s).port.notices ∧ (gradeSample s).auth.ceiling ≤ 300) ∧
      (40000000 < s.odo.since → s.odo.since ≤ 80000000 → s.odo.quality = .good →
        .positionDoubt .distance s.s ∈ (gradeSample s).port.notices) := by
  unfold gradeSample
  refine ⟨fun far found => ?_, fun far near good => ?_⟩
  · rw [if_pos far]
    exact fallToLost_gives found room
  · rw [if_neg (Nat.not_lt.mpr near), if_pos far]
    exact fallToDoubt_gives good room

/-- The parts of a sample that its judgements are read from. -/
structure SampleJudged (inc pA pB : Nat) (s x : State) : Prop where
  odo : ∃ pos last, x.odo = { moveOdo inc (judgedOdo pA pB s) with
    pos := pos, lastMarker := last
    quality := gradeAfter (min (s.odo.since + inc) 1000000000) (judgedOdo pA pB s).quality }
  notices : (judgeSample pA pB s).port.notices <+: x.port.notices
  lost : 80000000 < min (s.odo.since + inc) 1000000000 → (judgedOdo pA pB s).quality ≠ .lost →
    .positionLost ((s.odo.pos + inc) / 1000) ∈ x.port.notices ∧ x.auth.ceiling ≤ 300
  doubt : 40000000 < min (s.odo.since + inc) 1000000000 → min (s.odo.since + inc) 1000000000 ≤ 80000000 →
    (judgedOdo pA pB s).quality = .good → .positionDoubt .distance ((s.odo.pos + inc) / 1000) ∈ x.port.notices

theorem sampleWork_sampleJudged (pA pB : Nat) {s : State} (room : s.port.notices.length ≤ 12) :
    SampleJudged (sampleIncrement pA pB (scheduled s)) pA pB (scheduled s) (sampleWork pA pB s) := by
  obtain ⟨prefix_, ceiling, pos, last, odo⟩ := sampleWork_judged pA pB s
  generalize sampleWork pA pB s = x at prefix_ ceiling odo
  have rest := judgedOdo_rest pA pB (scheduled s)
  have since : (judgedOdo pA pB (scheduled s)).since = (scheduled s).odo.since := by
    have same := congrArg Odometry.since rest
    exact same
  have position : (judgedOdo pA pB (scheduled s)).pos = (scheduled s).odo.pos := by
    have same := congrArg Odometry.pos rest
    exact same
  have unit := sampleUnit_odo pA pB (scheduled s)
  rw [since] at unit
  rw [unit] at odo
  have judged := judgeSample_odo pA pB (scheduled s)
  have few := (judgeSample_odoWork pA pB (scheduled s)).few
  have few' : (movedSample pA pB (scheduled s)).port.notices.length < 16 := by
    show (judgeSample pA pB (scheduled s)).port.notices.length < 16
    have from_ : (scheduled s).port.notices.length = s.port.notices.length := rfl
    omega
  obtain ⟨lost, doubt⟩ := gradeSample_gives few'
  have grade := (gradeSample_odoWork (movedSample pA pB (scheduled s))).notices
  have moved : (movedSample pA pB (scheduled s)).odo =
      moveOdo (sampleIncrement pA pB (scheduled s)) (judgedOdo pA pB (scheduled s)) := by
    show moveOdo _ (judgeSample pA pB (scheduled s)).odo = _
    rw [judged]
  have far : (movedSample pA pB (scheduled s)).odo.since =
      min ((scheduled s).odo.since + sampleIncrement pA pB (scheduled s)) 1000000000 := by
    rw [moved, ← since]
    rfl
  have place : (movedSample pA pB (scheduled s)).s = ((scheduled s).odo.pos + sampleIncrement pA pB (scheduled s)) / 1000 := by
    unfold State.s
    rw [moved, ← position]
    rfl
  have quality : (movedSample pA pB (scheduled s)).odo.quality = (judgedOdo pA pB (scheduled s)).quality := by
    rw [moved]
    rfl
  rw [far, place, quality] at lost doubt
  rw [sampleUnit_eq] at prefix_ ceiling
  refine ⟨⟨pos, last, odo⟩, ?_, fun high found => ?_, fun low high good => ?_⟩
  · exact grade.trans prefix_
  · obtain ⟨given, slow⟩ := lost high found
    exact ⟨prefix_.subset given, Nat.le_trans ceiling slow⟩
  · exact prefix_.subset (doubt low high good)

theorem gradeAfter_judged (far : Nat) (deadA deadB : Bool) (q : Quality) :
    gradeAfter far (if (deadA || deadB) = true then q.doubted else q) =
      if 80000000 < far then .lost
      else if q = .good ∧ (40000000 < far ∨ deadA = true ∨ deadB = true) then .doubt else q := by
  unfold gradeAfter Quality.doubted
  by_cases high : 80000000 < far
  · rw [if_pos high, if_pos high]
  · rw [if_neg high, if_neg high]
    cases q <;> cases deadA <;> cases deadB <;> simp

/-- Settles O29. -/
theorem sampleJudgements : Obligations.SampleJudgements := by
  intro pulsesA pulsesB s d w held carrier running cfg due room ceilings dual inc a b slips d' silent partner dead deadA deadB far
  have slipsIs : slips = (dual && isSlip a b) := rfl
  have deadAIs : deadA = (dual && deadAfter pulsesA b s.odo.chA) := Bool.and_assoc _ _ _
  have deadBIs : deadB = (dual && deadAfter pulsesB a s.odo.chB && !deadA) := by
    show ((dual && _) && _ && !deadA) = _
    rw [Bool.and_assoc dual]
    rfl
  have incA : s.odo.mode ≠ .bOnly → incrementA pulsesA (scheduled (s.reach d)) = a := fun other => by
    unfold incrementA
    rw [if_neg (show (scheduled (s.reach d)).odo.mode ≠ .bOnly from other), scalePulses_locked (s := scheduled (s.reach d)) cfg]
    rfl
  have incB : s.odo.mode ≠ .aOnly → incrementB pulsesB (scheduled (s.reach d)) = b := fun other => by
    unfold incrementB
    rw [if_neg (show (scheduled (s.reach d)).odo.mode ≠ .aOnly from other), scalePulses_locked (s := scheduled (s.reach d)) cfg]
    rfl
  have increment : sampleIncrement pulsesA pulsesB (scheduled (s.reach d)) = d' := by
    rw [sampleIncrement_locked (s := scheduled (s.reach d)) cfg]
    show combine s.odo.mode a b = match s.odo.mode with
      | .dual => if slips then min a b else (a + b) / 2
      | .aOnly => a
      | .bOnly => b
    cases mode : s.odo.mode with
    | dual =>
      have isDual : dual = true := decide_eq_true mode
      rw [slipsIs, isDual]
      rfl
    | aOnly | bOnly => rfl
  have judged : Judgement pulsesA pulsesB a b slips deadA deadB (scheduled (s.reach d)).odo
      (judgedOdo pulsesA pulsesB (scheduled (s.reach d))) := by
    by_cases mode : s.odo.mode = .dual
    · have isDual : dual = true := decide_eq_true mode
      have judged := judgedOdo_dual (s := scheduled (s.reach d)) pulsesA pulsesB mode (incA (by rw [mode]; decide))
        (incB (by rw [mode]; decide))
      rw [slipsIs, deadBIs, deadAIs, isDual]
      exact judged
    · have isSingle : dual = false := decide_eq_false mode
      rw [slipsIs, deadBIs, deadAIs, isSingle]
      exact judgedOdo_single (s := scheduled (s.reach d)) pulsesA pulsesB mode
  have work := sampleWork_sampleJudged pulsesA pulsesB (s := s.reach d) room
  have gives := fun mode : s.odo.mode = .dual => judgeSample_gives (s := scheduled (s.reach d)) mode
    (incA (by rw [mode]; decide)) (incB (by rw [mode]; decide)) room
  have run := exec_odometrySample (pA := pulsesA) (pB := pulsesB) held carrier running due
  rw [increment] at work
  generalize sampleWork pulsesA pulsesB (s.reach d) = x at run work
  obtain ⟨⟨pos, last, odo⟩, notices, lost, doubt⟩ := work
  generalize judgedOdo pulsesA pulsesB (scheduled (s.reach d)) = j at judged odo lost doubt
  have isFar : min ((scheduled (s.reach d)).odo.since + d') 1000000000 = far := rfl
  rw [isFar] at odo lost doubt
  have given {n : Notice} (member : n ∈ x.port.notices) : noticeGiven s (finish x) n := fun _ => finish_noticed member
  refine ⟨_, run, fun is => ?_, fun is => ?_, ?_, ?_, ?_, ?_, fun slip first => ?_, fun dead => ?_, fun dead => ?_, ?_,
    fun high found => ?_, fun low high good aliveA aliveB => ?_⟩
  · rw [finish_odo, odo]
    exact judged.dual (of_decide_eq_true is)
  · rw [finish_odo, odo]
    exact judged.single (of_decide_eq_false is)
  · rw [finish_odo, odo]
    exact judged.failedA
  · rw [finish_odo, odo]
    exact judged.failedB
  · rw [finish_odo, odo]
    exact judged.mode
  · rw [finish_odo, odo]
    exact judged.slipSeen
  · rw [slipsIs, Bool.and_eq_true] at slip
    exact given (notices.subset ((gives (of_decide_eq_true slip.1)).1 slip.2 first))
  · rw [deadAIs, Bool.and_eq_true] at dead
    exact given (notices.subset ((gives (of_decide_eq_true dead.1)).2.1 dead.2))
  · rw [deadBIs, Bool.and_eq_true, Bool.and_eq_true] at dead
    obtain ⟨⟨is, dead⟩, alive⟩ := dead
    rw [deadAIs, is, Bool.true_and, Bool.not_eq_true'] at alive
    exact given (notices.subset ((gives (of_decide_eq_true is)).2.2 alive dead))
  · rw [finish_odo, odo]
    show gradeAfter far j.quality = _
    rw [judged.quality]
    exact gradeAfter_judged far deadA deadB s.odo.quality
  · obtain ⟨notice, slow⟩ := lost high (by
      rw [judged.quality]
      unfold Quality.doubted
      show (if _ then (if s.odo.quality = Quality.good then Quality.doubt else s.odo.quality) else s.odo.quality) ≠ _
      split
      · split
        · decide
        · exact found
      · exact found)
    refine ⟨given notice, ?_⟩
    rw [finish_auth]
    exact slow
  · refine given (doubt low high ?_)
    rw [judged.quality, aliveA, aliveB]
    exact good

end Sys2Proof.Machine
end

section
/-! O30: marker arrivals. -/

namespace Sys2Proof.Machine

-- One proof after another: many at a time want more threads than the memory limit of a build leaves.
set_option Elab.async false

/-! ### The ranges of R1 -/

theorem offsetsIncrease_iff : ∀ {ms : List Marker}, offsetsIncrease ms = true ↔ (ms.map Marker.offset).Pairwise (· < ·)
  | [] => by simp [offsetsIncrease]
  | [m] => by simp [offsetsIncrease]
  | m :: n :: ms => by
    rw [offsetsIncrease, Bool.and_eq_true, offsetsIncrease_iff, decide_eq_true_eq]
    simp only [List.map_cons, List.pairwise_cons, List.mem_cons, List.mem_map, forall_eq_or_imp]
    refine ⟨fun ⟨first, later, rest⟩ => ⟨⟨first, fun o member => Nat.lt_trans first (later o member)⟩, later, rest⟩,
      fun ⟨⟨first, _⟩, later, rest⟩ => ⟨first, later, rest⟩⟩

theorem inRange_iff (c : RouteCell) : c.inRange = true ↔
    1 ≤ c.ident ∧ c.ident ≤ 65535 ∧ 1000 ≤ c.length ∧ c.length ≤ 60000 ∧ 1 ≤ c.zones.length ∧ c.zones.length ≤ 3 ∧
      (∀ z ∈ c.zones, 1 ≤ z ∧ z ≤ 4095) ∧ c.zones.Nodup ∧ 300 ≤ c.limit ∧ c.limit ≤ 8000 ∧ c.urgency ≤ 3 ∧
      (∀ o, c.stop = some o → o ≤ c.length) ∧ c.markers.length ≤ 4 ∧
      (∀ m ∈ c.markers, 1 ≤ m.ident ∧ m.ident ≤ 65535 ∧ m.offset ≤ c.length) ∧
      (c.markers.map Marker.offset).Pairwise (· < ·) := by
  unfold RouteCell.inRange
  cases c.stop with
  | none =>
    simp only [Bool.and_eq_true, decide_eq_true_eq, List.all_eq_true, noRepeat_iff, offsetsIncrease_iff, and_assoc,
      reduceCtorEq, false_implies, implies_true, true_and]
  | some o =>
    simp only [Bool.and_eq_true, decide_eq_true_eq, List.all_eq_true, noRepeat_iff, offsetsIncrease_iff, and_assoc,
      Option.some.injEq, forall_eq']

/-! ### The expected positions in route order (R92) -/

/-- The surveyed positions of a marker in some cells. -/
def markerPlaces (ident : Nat) (cells : List StoredCell) : List Int :=
  cells.flatMap (fun c => (c.cell.markers.filter (fun m => m.ident == ident)).map (fun m => c.entry + (m.offset : Int)))

theorem expectedAt_eq (ident : Nat) (s : State) : expectedAt ident s = markerPlaces ident (s.route.cells.take (s.front + 2)) := rfl

theorem laidFrom_take : ∀ {x : Int} {cells : List StoredCell} (n : Nat), laidFrom x cells → laidFrom x (cells.take n)
  | _, [], n, _ => by simp [laidFrom]
  | _, c :: cs, 0, _ => trivial
  | _, c :: cs, n + 1, laid => ⟨laid.1, laidFrom_take n laid.2⟩

/-- The places stand in route order, from the first boundary on. -/
theorem markerPlaces_sorted (ident : Nat) : ∀ {x : Int} {cells : List StoredCell} (_ : laidFrom x cells)
    (_ : ∀ c ∈ cells, c.cell.inRange = true),
    (markerPlaces ident cells).Pairwise (· ≤ ·) ∧ ∀ p ∈ markerPlaces ident cells, x ≤ p
  | _, [], _, _ => ⟨.nil, nofun⟩
  | x, c :: cs, laid, inRange => by
    obtain ⟨entry, laid⟩ := laid
    obtain ⟨sorted, far⟩ := markerPlaces_sorted ident laid fun d member => inRange d (List.mem_cons_of_mem c member)
    have range := (inRange_iff c.cell).mp (inRange c List.mem_cons_self)
    obtain ⟨-, -, -, -, -, -, -, -, -, -, -, -, -, within, rising⟩ := range
    have here : ∀ p ∈ (c.cell.markers.filter (fun m => m.ident == ident)).map (fun m => c.entry + (m.offset : Int)),
        x ≤ p ∧ p ≤ c.exit := fun p member => by
      obtain ⟨m, kept, rfl⟩ := List.mem_map.mp member
      have inside := (within m (List.mem_filter.mp kept).1).2.2
      unfold StoredCell.exit
      show x ≤ c.entry + (m.offset : Int) ∧ c.entry + (m.offset : Int) ≤ c.entry + (c.cell.length : Int)
      omega
    unfold markerPlaces at sorted far ⊢
    rw [List.flatMap_cons]
    refine ⟨List.pairwise_append.mpr ⟨?_, sorted, fun p first q later => ?_⟩, fun p member => ?_⟩
    · rw [List.pairwise_map] at rising ⊢
      exact (rising.filter _).imp fun less => by omega
    · exact Int.le_trans (here p first).2 (far q later)
    · obtain first | later := List.mem_append.mp member
      · exact (here p first).1
      · have beyond := far p later
        unfold StoredCell.exit at beyond
        have length : (0 : Int) ≤ (c.cell.length : Int) := Int.natCast_nonneg _
        omega

theorem expectedAt_sorted {s : State} (laid : routeLaid s) (ident : Nat) : (expectedAt ident s).Pairwise (· ≤ ·) := by
  obtain ⟨-, inRange, from_⟩ := laid
  rw [expectedAt_eq]
  exact (markerPlaces_sorted ident (laidFrom_take _ from_) fun c member => inRange c (List.mem_of_mem_take member)).1

/-! ### The nearest (R92) -/

theorem nearest_none {x : Int} : ∀ {ps : List Int}, nearest x ps = none → ps = []
  | [], _ => rfl
  | p :: ps, eq => by
    rw [nearest] at eq
    cases rest : nearest x ps with
    | none =>
      rw [rest] at eq
      exact nomatch eq
    | some q =>
      rw [rest] at eq
      dsimp only at eq
      split at eq <;> exact nomatch eq

/-- The first of those that lie nearest. -/
theorem nearest_some {x q : Int} : ∀ {ps : List Int}, nearest x ps = some q → ∃ before after, ps = before ++ q :: after ∧
    (∀ b ∈ before, (q - x).natAbs < (b - x).natAbs) ∧ ∀ a ∈ after, (q - x).natAbs ≤ (a - x).natAbs
  | [], eq => nomatch eq
  | p :: ps, eq => by
    rw [nearest] at eq
    cases rest : nearest x ps with
    | none =>
      rw [rest] at eq
      obtain rfl := Option.some.inj eq
      obtain rfl := nearest_none rest
      exact ⟨[], [], rfl, nofun, nofun⟩
    | some r =>
      rw [rest] at eq
      obtain ⟨before, after, rfl, far, near⟩ := nearest_some rest
      dsimp only at eq
      split at eq
      · rename_i closer
        obtain rfl := Option.some.inj eq
        exact ⟨p :: before, after, rfl, List.forall_mem_cons.mpr ⟨closer, far⟩, near⟩
      · rename_i closest
        obtain rfl := Option.some.inj eq
        have first := Nat.le_of_not_lt closest
        refine ⟨[], _, rfl, nofun, fun a member => ?_⟩
        rw [List.mem_append, List.mem_cons] at member
        obtain early | rfl | late := member
        · exact Nat.le_trans first (Nat.le_of_lt (far a early))
        · exact first
        · exact Nat.le_trans first (near a late)

theorem nearest_eq {x p : Int} {ps : List Int} (sorted : ps.Pairwise (· ≤ ·)) (member : p ∈ ps)
    (best : ∀ q ∈ ps, (p - x).natAbs < (q - x).natAbs ∨ ((p - x).natAbs = (q - x).natAbs ∧ p ≤ q)) : nearest x ps = some p := by
  cases is : nearest x ps with
  | none =>
    rw [nearest_none is] at member
    exact nomatch member
  | some q =>
    obtain ⟨before, after, rfl, far, near⟩ := nearest_some is
    have least := best q (List.mem_append_right _ List.mem_cons_self)
    rw [List.mem_append, List.mem_cons] at member
    obtain early | rfl | late := member
    · have further := far p early
      omega
    · rfl
    · have further := near p late
      have order := (List.pairwise_cons.mp (List.pairwise_append.mp sorted).2.1).1 p late
      have same : p = q := by omega
      rw [same]

/-! ### An arrival (R91 to R95) -/

theorem exec_markerArrival {t : Time} {ident pA pB : Nat} {s : State} (held : s.station.held = false)
    (carrier : s.isCarrier = true) (running : s.running = true) :
    exec (.markerArrival t ident pA pB) s = .next (finish (markerWork ident pA pB (s.reach t))) := by
  show Host.Outcome.next (outsideEvent t _ s) = _
  rw [outsideEvent_free held]
  have guard : ((s.reach t).isCarrier && (s.reach t).running) = true := by
    rw [show (s.reach t).isCarrier = true from carrier, show (s.reach t).running = true from running]
    rfl
  rw [if_pos guard]

theorem finish_countStray {s : State} (settled : eventEndInv s) : finish (countStray s) = countStray s :=
  finish_settled settled

/-- What an arrival leaves of the other blocks: from a state whose odometry alone it has changed. -/
structure Arrived (s : State) (o : Odometry) (v : State) : Prop where
  now : v.now = s.now
  route : v.route = s.route
  station : v.station = s.station
  table : v.table = s.table
  radio : v.radio = { s.radio with gen := v.radio.gen, slot := v.radio.slot }
  auth : s.station.state ≠ .listen → v.auth = s.auth
  profiles : profilesKept s v
  port : v.port = { s.port with notices := v.port.notices, dropped := v.port.dropped }
  odo : v.odo = o

end Sys2Proof.Machine
end

section
/-! O30 settled: the stray, the accepted and the rejected arrival. -/

namespace Sys2Proof.Machine

-- One proof after another: many at a time want more threads than the memory limit of a build leaves.
set_option Elab.async false

section
variable {s v : State} {o : Odometry}

theorem OdoWork.arrived {n : Nat} (work : OdoWork n s v) (same : v.auth = s.auth) (odo : v.odo = o) : Arrived s o v := by
  have auth : profilesKept s v := by
    unfold Machine.profilesKept
    rw [same]
    exact ⟨rfl, rfl, rfl, rfl⟩
  exact ⟨work.now, work.route, work.station, work.table, by rw [work.radio], fun _ => same, auth, congrArg State.port work.frame, odo⟩

theorem Arrived.listed (arrived : Arrived s o v) : Arrived s o (listingTest v) := by
  have inner := listingTest_inner v
  have kept : profilesKept v (listingTest v) := inner.profilesKept
  obtain ⟨h1, h2, h3, h4⟩ := arrived.profiles
  obtain ⟨k1, k2, k3, k4⟩ := kept
  refine ⟨inner.now.trans arrived.now, inner.route.trans arrived.route, inner.station.trans arrived.station,
    inner.table.trans arrived.table, ?_, fun other => ?_, ⟨k1.trans h1, k2.trans h2, k3.trans h3, k4.trans h4⟩, ?_,
    inner.odo.trans arrived.odo⟩
  · rw [inner.radio, arrived.radio]
  · exact (listingTest_auth (by rw [arrived.station]; exact other)).trans (arrived.auth other)
  · rw [inner.port, arrived.port]

end

theorem markerAccepted_arrived (ident : Nat) (surveyed e : Int) (travel : Nat) (s : State) :
    Arrived s (acceptMarker ident surveyed e travel s.odo) (markerAccepted ident surveyed e travel s) := by
  have taken : Arrived s (acceptMarker ident surveyed e travel s.odo) (setOdo (acceptMarker ident surveyed e travel s.odo) s) :=
    (OdoWork.of_odo _ s).arrived rfl rfl
  unfold markerAccepted
  dsimp only
  split
  · exact taken.listed
  · exact taken


/-- The odometry after a rejected arrival (R95). -/
def rejectMarker (o : Odometry) : Odometry := { o with
  lastMarker := none, rejects := min (o.rejects + 1) 2
  quality := if min (o.rejects + 1) 2 = 2 ∧ o.quality = .good then .doubt else o.quality }

theorem doubted_good {q : Quality} (good : q = .good) : q.doubted = .doubt := if_pos good

theorem fallToDoubt_auth (cause : DoubtCause) (s : State) : (fallToDoubt cause s).auth = s.auth := by
  unfold fallToDoubt
  split
  · rw [raiseNotice_auth]
    rfl
  · rfl

/-- The state of a rejected arrival with its notice. -/
def rejectNoted (ident : Nat) (e : Int) (s : State) : State :=
  raiseNotice (.markerReject ident (clampInt e (-32767) 32767) (rejectMarker s.odo).quality)
    (setOdo { s.odo with lastMarker := none, rejects := min (s.odo.rejects + 1) 2 } s)

theorem markerRejected_eq (ident : Nat) (e : Int) (s : State) : markerRejected ident e s =
    if min (s.odo.rejects + 1) 2 = 2 ∧ s.odo.quality = .good then listingTest (fallToDoubt .rejects (rejectNoted ident e s))
    else rejectNoted ident e s := rfl

theorem rejectNoted_odoWork (ident : Nat) (e : Int) (s : State) : OdoWork 1 s (rejectNoted ident e s) :=
  (OdoWork.of_odo _ s).trans (.notice _ _)

theorem rejectNoted_odo (ident : Nat) (e : Int) (s : State) :
    (rejectNoted ident e s).odo = { s.odo with lastMarker := none, rejects := min (s.odo.rejects + 1) 2 } := raiseNotice_odo _ _

theorem rejectNoted_auth (ident : Nat) (e : Int) (s : State) : (rejectNoted ident e s).auth = s.auth := raiseNotice_auth _ _

theorem markerRejected_arrived (ident : Nat) (e : Int) (s : State) :
    Arrived s (rejectMarker s.odo) (markerRejected ident e s) := by
  have noted := rejectNoted_odoWork ident e s
  have odo := rejectNoted_odo ident e s
  rw [markerRejected_eq]
  unfold rejectMarker
  split
  · rename_i falls
    refine ((noted.trans (fallToDoubt_odoWork _ _)).arrived ?_ ?_).listed
    · exact (fallToDoubt_auth _ _).trans (rejectNoted_auth ident e s)
    · rw [fallToDoubt_odo, odo]
      show ({ s.odo with lastMarker := none, rejects := min (s.odo.rejects + 1) 2, quality := s.odo.quality.doubted } : Odometry) = _
      rw [doubted_good falls.2]
  · exact noted.arrived (rejectNoted_auth ident e s) odo

theorem markerRejected_gives (ident : Nat) (e : Int) (s : State) :
    (s.port.notices.length < 16 → .markerReject ident (clampInt e (-32767) 32767) (rejectMarker s.odo).quality ∈
      (markerRejected ident e s).port.notices) ∧
      (min (s.odo.rejects + 1) 2 = 2 → s.odo.quality = .good → s.port.notices.length < 15 →
        .positionDoubt .rejects s.s ∈ (markerRejected ident e s).port.notices) := by
  have odo := rejectNoted_odo ident e s
  have first (room : s.port.notices.length < 16) : .markerReject ident (clampInt e (-32767) 32767) (rejectMarker s.odo).quality ∈
      (rejectNoted ident e s).port.notices := raiseNotice_mem (s := setOdo _ s) room
  rw [markerRejected_eq]
  refine ⟨fun room => ?_, fun twice good room => ?_⟩
  · split
    · exact (listingTest_inner _).notices.subset ((fallToDoubt_odoWork _ _).notices.subset (first room))
    · exact first room
  · rw [if_pos ⟨twice, good⟩]
    have few := (rejectNoted_odoWork ident e s).few
    have given := fallToDoubt_gives (cause := .rejects) (s := rejectNoted ident e s) (by rw [odo]; exact good) (by omega)
    have place : (rejectNoted ident e s).s = s.s := by
      unfold State.s
      rw [odo]
    rw [place] at given
    exact (listingTest_inner _).notices.subset given

/-! ### The estimate by the locked configuration -/

section
variable {s : State} {w : ConfigWord} (cfg : s.station.cfg = some w)
include cfg

theorem partialIncrement_locked (pA pB : Nat) : partialIncrement pA pB s =
    combine s.odo.mode (pulseProduct w s pA s.odo.chA / (w.den * 65536)) (pulseProduct w s pB s.odo.chB / (w.den * 65536)) := by
  unfold partialIncrement
  rw [scalePulses_locked cfg, scalePulses_locked cfg]

theorem readerEstimate_locked (d : Nat) : readerEstimate d s = (s.odo.pos + (d : Int)) / 1000 - 100 * (w.readerOffset : Int) := by
  unfold readerEstimate State.readerOffset
  rw [cfg]
  simp

end

/-- What the obligation says an arrival keeps. -/
theorem Arrived.kept {r v : State} {o : Odometry} (arrived : Arrived r o v) : (finish v).now = r.now ∧
    (finish v).route = r.route ∧ (finish v).station = r.station ∧ (r.station.state ≠ .listen → (finish v).auth = r.auth) ∧
    profilesKept r (finish v) ∧ tableKept r (finish v) ∧ radioKept r (finish v) ∧ portKept r (finish v) := by
  refine ⟨by rw [finish_now]; exact arrived.now, by rw [finish_route]; exact arrived.route,
    by rw [finish_station]; exact arrived.station, fun other => by rw [finish_auth]; exact arrived.auth other,
    finish_profilesKept arrived.profiles, finish_tableKept arrived.table, finish_radioKept arrived.radio, ?_⟩
  refine finish_portKept ?_ ?_ ?_ ?_ ?_ <;>
  · rw [arrived.port]

theorem acceptWindow_eq (q : Quality) : acceptWindow q = ((if q = .lost then 1200 else 600 : Nat) : Int) := by
  cases q <;> rfl

/-- The learning test and the learned trim, written out (R97, R98). -/
theorem learn_eq (surveyed : Int) (travel : Nat) (o : Odometry) : learn surveyed travel o = match o.lastMarker with
    | none => o.trim
    | some m =>
      let far := surveyed - m.surveyed
      let counted : Int := (((travel : Int) - m.travel) % 2 ^ 48) / 1000
      let delta := max (-256) (min (((o.trim : Int) * (far - counted)).tdiv (4 * counted)) 256)
      if 5000 ≤ far ∧ o.slipSeen = false ∧ o.quality ≠ .lost then (max 61440 (min (o.trim + delta) 69632)).toNat
      else o.trim := by
  have power : (2 : Int) ^ 48 = 281474976710656 := by decide
  unfold learn
  cases o.lastMarker with
  | none => rfl
  | some m =>
    rw [power]
    rfl

/-- Settles O30. -/
theorem markerArrivals : Obligations.MarkerArrivals := by
  intro t ident pulsesA pulsesB s w held carrier running cfg settled laid inc a b part estimate travel outcome kept
  have increment : partialIncrement pulsesA pulsesB (s.reach t) = part := by
    rw [partialIncrement_locked (s := s.reach t) cfg, combine_eq]
    rfl
  have run : outcome = .next (finish (markerWork ident pulsesA pulsesB (s.reach t))) := exec_markerArrival held carrier running
  have isEstimate : readerEstimate part (s.reach t) = estimate := readerEstimate_locked (s := s.reach t) cfg part
  have work : markerWork ident pulsesA pulsesB (s.reach t) = match nearest estimate (expectedAt ident s) with
      | none => countStray (s.reach t)
      | some surveyed =>
        if ((surveyed - estimate).natAbs : Int) ≤ acceptWindow s.odo.quality then
          markerAccepted ident surveyed (surveyed - estimate) travel (s.reach t)
        else markerRejected ident (surveyed - estimate) (s.reach t) := by
    unfold markerWork
    rw [increment]
    dsimp only
    rw [isEstimate]
    rfl
  refine ⟨fun none => ?_, fun p member best => ?_⟩
  · rw [run, work, none]
    exact congrArg _ (finish_countStray (s := s.reach t) settled)
  intro e width
  rw [nearest_eq (expectedAt_sorted laid ident) member best] at work
  dsimp only at work
  have window : acceptWindow s.odo.quality = (width : Int) := acceptWindow_eq s.odo.quality
  refine ⟨fun inside => ?_, fun outside => ?_⟩
  · rw [window, if_pos (Int.ofNat_le.mpr inside)] at work
    have arrived := markerAccepted_arrived ident p (p - estimate) travel (s.reach t)
    rw [work] at run
    generalize markerAccepted ident p (p - estimate) travel (s.reach t) = v at run arrived
    intro trim
    refine ⟨_, run, arrived.kept, ?_⟩
    rw [finish_odo, arrived.odo]
    unfold acceptMarker
    rw [learn_eq]
    rfl
  · rw [window, if_neg (fun inside => absurd (Int.ofNat_le.mp inside) (Nat.not_le.mpr outside))] at work
    have arrived := markerRejected_arrived ident (p - estimate) (s.reach t)
    obtain ⟨rejects, doubts⟩ := markerRejected_gives ident (p - estimate) (s.reach t)
    rw [work] at run
    generalize markerRejected ident (p - estimate) (s.reach t) = v at run arrived rejects doubts
    intro falls grade
    have twice : falls = true ↔ min (s.odo.rejects + 1) 2 = 2 ∧ s.odo.quality = .good := by
      show (decide (1 ≤ s.odo.rejects) && decide (s.odo.quality = .good)) = true ↔ _
      rw [Bool.and_eq_true, decide_eq_true_eq, decide_eq_true_eq]
      refine and_congr_left fun _ => ?_
      omega
    have isGrade : (rejectMarker s.odo).quality = grade := by
      show (if min (s.odo.rejects + 1) 2 = 2 ∧ s.odo.quality = .good then Quality.doubt else s.odo.quality) =
        if falls = true then .doubt else s.odo.quality
      simp only [twice]
    refine ⟨_, run, arrived.kept, ?_, fun room => finish_noticed ?_, fun fall room _ => finish_noticed ?_⟩
    · rw [finish_odo, arrived.odo, ← isGrade]
      rfl
    · rw [← isGrade]
      exact rejects room
    · obtain ⟨again, good⟩ := twice.mp fall
      exact doubts again good room

end Sys2Proof.Machine
end

section
/-! What re-evaluations and the listing test leave of an entry's counts. -/

namespace Sys2Proof.Machine

-- One proof after another: many at a time want more threads than the memory limit of a build leaves.
set_option Elab.async false

/-- Two stages of an entry with the same counts. -/
structure Carried (e e' : ClaimEntry) : Prop where
  zone : e'.zone = e.zone
  carried : e'.carried = e.carried
  announce : e'.announce = e.announce
  wait : e'.wait = e.wait
  released : e'.released = e.released
  held : e.state = .held → e'.state = .held

theorem Carried.refl (e : ClaimEntry) : Carried e e := ⟨rfl, rfl, rfl, rfl, rfl, id⟩

theorem Carried.trans {a b c : ClaimEntry} (h : Carried a b) (k : Carried b c) : Carried a c :=
  ⟨k.zone.trans h.zone, k.carried.trans h.carried, k.announce.trans h.announce, k.wait.trans h.wait,
    k.released.trans h.released, fun held => k.held (h.held held)⟩

/-- An entry that only a grant or a blocker moves on. -/
def Steady (s : State) (e : ClaimEntry) : Prop :=
  e.state = .announced ∨ e.state = .held ∨ (e.state = .waiting ∧ isBlocked s e = true)

/-- A steady entry stands at the zone with the counts of `e₀`. -/
def StandsSteady (e₀ : ClaimEntry) (s : State) : Prop := ∃ e, findEntry e₀.zone s = some e ∧ Carried e₀ e ∧ Steady s e

theorem occupy_counts {e : ClaimEntry} (claims : e.state ≠ .releasing) : Carried e e.occupy := by
  unfold ClaimEntry.occupy
  cases state : e.state with
  | releasing => exact absurd state claims
  | queued | announced | waiting => exact ⟨rfl, rfl, rfl, rfl, rfl, fun held => nomatch state.symm.trans held⟩
  | held => exact ⟨rfl, rfl, rfl, rfl, rfl, fun _ => state⟩

section
variable {s t : State} {e₀ : ClaimEntry}

theorem Steady.claims {e : ClaimEntry} (steady : Steady s e) : e.state ≠ .releasing ∧ e.state ≠ .queued := by
  obtain state | state | ⟨state, -⟩ := steady <;> rw [state] <;> decide

theorem Steady.congr {e : ClaimEntry} (steady : Steady s e) (inner : Inner s t) : Steady t e :=
  steady.imp_right fun rest => rest.imp_right fun ⟨waiting, blocked⟩ => ⟨waiting, (inner.isBlocked e).trans blocked⟩

theorem StandsSteady.same (stands : StandsSteady e₀ s) (inner : Inner s t)
    (found : findEntry e₀.zone t = findEntry e₀.zone s) : StandsSteady e₀ t := by
  obtain ⟨e, here, carried, steady⟩ := stands
  exact ⟨e, found.trans here, carried, steady.congr inner⟩

/-- A change of the entry itself, or of another. -/
theorem StandsSteady.modify (stands : StandsSteady e₀ s) {y : Nat} {g : ClaimEntry → ClaimEntry} {x : ClaimEntry}
    (zone : KeepsZone g) (found : findEntry y s = some x)
    (change : Steady s x → Carried x (g x) ∧ Steady (modifyEntry y g s) (g x)) : StandsSteady e₀ (modifyEntry y g s) := by
  by_cases here : e₀.zone = y
  · obtain ⟨e, at_, carried, steady⟩ := stands
    rw [here, found] at at_
    obtain rfl := Option.some.inj at_
    obtain ⟨next, steady'⟩ := change steady
    refine ⟨g x, ?_, carried.trans next, steady'⟩
    rw [here, findEntry_modifyEntry zone, found]
    rfl
  · exact stands.same (modifyEntry_inner _ _ _) (findEntry_modifyEntry_ne zone here s)

theorem Move.standsSteady {f : Flag} (m : Move f s t) (kind : f = .free ∨ f ∈ listingF) (fits : Machine.windowFits s.window)
    (stands : StandsSteady e₀ s) : StandsSteady e₀ t := by
  have inner : Inner s t := m.inner (by
    revert kind
    cases f <;> decide)
  by_cases entries : f ∉ entryF
  · exact stands.same inner (findEntry_congr (m.entries_same entries).1)
  have away {y : Nat} (absent : findEntry y s = none) : e₀.zone ≠ y := fun same => by
    obtain ⟨e, here, -⟩ := stands
    rw [same, absent] at here
    exact nomatch here
  have blocked (y : Nat) (g : ClaimEntry → ClaimEntry) {x x' : ClaimEntry} (zone : x'.zone = x.zone)
      (urgency : x'.urgency = x.urgency) (carried : x'.carried = x.carried) : isBlocked (modifyEntry y g s) x' = isBlocked s x :=
    isBlocked_congr rfl rfl rfl zone urgency carried
  cases m with
  | commit y _ x found held =>
    exact stands.modify commit_zone found fun _ => ⟨⟨rfl, rfl, rfl, rfl, rfl, id⟩, .inr (.inl held)⟩
  | block y _ x found state stops =>
    refine stands.modify (block_zone _ _) found fun _ => ⟨⟨rfl, rfl, rfl, rfl, rfl, fun held => ?_⟩, .inr (.inr ⟨rfl, ?_⟩)⟩
    · rw [state] at held
      exact nomatch held
    · exact (blocked y _ rfl rfl rfl).trans stops
  | track y _ x found state stops =>
    exact stands.modify (trackBlock_zone _ _) found fun _ =>
      ⟨⟨rfl, rfl, rfl, rfl, rfl, id⟩, .inr (.inr ⟨state, (blocked y _ rfl rfl rfl).trans stops⟩)⟩
  | unblock y _ x found state free =>
    refine stands.modify (unblock_zone _ _) found fun steady => absurd steady ?_
    rintro (announced | held | ⟨-, stops⟩)
    · exact nomatch state.symm.trans announced
    · exact nomatch state.symm.trans held
    · exact nomatch free.symm.trans stops
  | grant y _ x found => exact stands.modify grant_zone found fun _ => ⟨⟨rfl, rfl, rfl, rfl, rfl, fun _ => rfl⟩, .inr (.inl rfl)⟩
  | announce y _ queued =>
    obtain ⟨x, found, state⟩ := queued fits
    exact stands.modify (announceFirst_zone _ _) found fun steady => absurd state steady.claims.2
  | occupy y _ x found =>
    exact stands.modify occupy_zone found fun steady => ⟨occupy_counts steady.claims.1, .inr (.inl (occupy_state x))⟩
  | occupyNew y _ absent =>
    have apart : findEntry (entryFor y s.route.cells).occupy.zone s = none := by
      rw [occupy_entryFor_zone]
      exact absent
    exact stands.same inner (findEntry_addEntry_ne fits.2.1 apart (away apart))
  | list y _ absent =>
    have apart : findEntry (entryFor y s.route.cells).zone s = none := absent
    exact stands.same inner (findEntry_addEntry_ne fits.2.1 apart (away apart))
  | revive y _ x found releasing =>
    exact stands.modify (revive_zone _) found fun steady => absurd releasing steady.claims.1
  | reorder => exact stands.same inner (findEntry_reorder fits.2.1 _)
  | _ =>
    first
      | exact absurd kind (by decide)
      | exact absurd (by decide) entries

theorem Moves.standsSteady {F : List Flag} (kind : ∀ f ∈ F, f ∈ listingF) (m : Moves F s t) (fits : Machine.windowFits s.window)
    (stands : StandsSteady e₀ s) : StandsSteady e₀ t :=
  (m.keeps (I := fun t => Machine.windowFits t.window ∧ StandsSteady e₀ t)
    (fun f _ _ member move ⟨fits, before⟩ =>
      ⟨move.windowFits fits, move.standsSteady (member.imp_right (kind f)) fits before⟩) ⟨fits, stands⟩).2

/-- A steady entry keeps its counts. -/
theorem Moves.carries {F : List Flag} (kind : ∀ f ∈ F, f ∈ listingF) (m : Moves F s t) (fits : Machine.windowFits s.window)
    (member : e₀ ∈ s.window.entries) (steady : Steady s e₀) : ∃ e ∈ t.window.entries, Carried e₀ e ∧ e.state ≠ .releasing := by
  obtain ⟨e, found, carried, steady'⟩ := m.standsSteady kind fits ⟨e₀, findEntry_of_mem fits.2.1 member, .refl e₀, steady⟩
  exact ⟨e, findEntry_mem found, carried, steady'.claims.1⟩

/-! ### The re-evaluations of an event -/

/-- What a re-evaluation keeps of the counts: an entry sent back from WAITING starts its announcements anew. -/
structure Recounted (e e' : ClaimEntry) : Prop where
  zone : e'.zone = e.zone
  carried : e'.carried = e.carried
  wait : e'.wait = e.wait
  released : e'.released = e.released
  held : e.state = .held → e'.state = .held
  announce : e.state ≠ .waiting → e'.announce = e.announce
  releasing : e.state = .releasing → e' = e

theorem Recounted.refl (e : ClaimEntry) : Recounted e e := ⟨rfl, rfl, rfl, rfl, id, fun _ => rfl, fun _ => rfl⟩

theorem Recounted.of_steady {e e' : ClaimEntry} (carried : Carried e e') (claims : e.state ≠ .releasing) : Recounted e e' :=
  ⟨carried.zone, carried.carried, carried.wait, carried.released, carried.held, fun _ => carried.announce,
    fun releasing => absurd releasing claims⟩

theorem reevaluateZones_recounts {sel : Nat → Bool} (fits : Machine.windowFits s.window) (member : e₀ ∈ s.window.entries) :
    ∃ e ∈ (reevaluateZones sel s).window.entries, Recounted e₀ e := by
  have moves := reevaluateZones_moves sel s
  have steadily (steady : Steady s e₀) : ∃ e ∈ (reevaluateZones sel s).window.entries, Recounted e₀ e := by
    obtain ⟨e, here, carried, -⟩ := moves.carries (by decide) fits member steady
    exact ⟨e, here, .of_steady carried steady.claims.1⟩
  have still (st : ClaimState) (state : e₀.state = st) (rests : st ≠ .announced ∧ st ≠ .waiting) :
      ∃ e ∈ (reevaluateZones sel s).window.entries, Recounted e₀ e :=
    ⟨e₀, reevaluateZones_rests fits member (not_requested state rests), .refl e₀⟩
  cases state : e₀.state with
  | queued | releasing => exact still _ state (by decide)
  | announced => exact steadily (.inl state)
  | held => exact steadily (.inr (.inl state))
  | waiting =>
    obtain ⟨e, here, judged⟩ := (reevaluatePass_evolves sel (windowZones s) false s).of_mem fits member
    have rest := judged.rest
    refine ⟨e, here, ?_, ?_, ?_, ?_, fun held => absurd (state.symm.trans held) nofun,
      fun other => absurd state other, fun releasing => absurd (state.symm.trans releasing) nofun⟩ <;> rw [rest]

/-! ### The listing test -/

/-- A RELEASING entry stays as it is, or its zone is HELD anew with the same counts. -/
theorem Walked.releasing_either {visited rest : List Nat} {u : State} (w : Walked s visited rest u)
    (fits : Machine.windowFits s.window) (member : e₀ ∈ s.window.entries) (releasing : e₀.state = .releasing) :
    ∃ e ∈ u.window.entries, Carried e₀ e ∧ (e = e₀ ∨ (e.state = .held ∧ e₀.released = 0)) := by
  have found := findEntry_of_mem fits.2.1 member
  by_cases member : e₀.zone ∈ visited
  · obtain ⟨before, after, split⟩ := List.append_of_mem member
    obtain ⟨inner, fits', first, last, -⟩ := w.takes fits split
    have here := first.stays found (.inl (by rw [releasing]; decide))
    by_cases can : canRevive e₀.zone e₀ (walkOver before s) = true
    · have carrier : (walkOver before s).isCarrier = true := by
        rw [inner.isCarrier]
        exact (listingRuns_iff.mp w.runs).1
      have revived := reviveEntry_self fits'.2.1 carrier here
      rw [← listStep_revives here releasing can] at revived
      have stays := last.stays revived (.inl nofun)
      refine ⟨_, w.mem_of_found stays, ⟨rfl, rfl, rfl, rfl, rfl, fun _ => rfl⟩, .inr ⟨rfl, ?_⟩⟩
      exact (canRevive_iff.mp can).1.1
    · have rests := listStep_rest here fun back => can back.2
      rw [rests] at last
      exact ⟨e₀, w.mem_of_found (last.stays here (.inl (by rw [releasing]; decide))), .refl e₀, .inl rfl⟩
  · have stays := (w.passes fits member).stays found (.inl (by rw [releasing]; decide))
    exact ⟨e₀, w.mem_of_found stays, .refl e₀, .inl rfl⟩

/-- The listing test leaves the counts of every entry. -/
theorem listingTest_carries (fits : Machine.windowFits s.window) (member : e₀ ∈ s.window.entries) :
    ∃ e ∈ (listingTest s).window.entries, Carried e₀ e ∧ (e₀.state = .releasing → 0 < e₀.released → e.state = .releasing) := by
  cases state : e₀.state with
  | announced =>
    obtain ⟨e, here, carried, -⟩ := (listingTest_moves s).carries (fun _ h => h) fits member (.inl state)
    exact ⟨e, here, carried, nofun⟩
  | queued | waiting | held =>
    exact ⟨e₀, listingTest_stays fits member (by rw [state]; decide) (by rw [state]; decide), .refl e₀, nofun⟩
  | releasing =>
    cases runs : listingRuns s with
    | false =>
      rw [listingTest_still runs]
      exact ⟨e₀, member, .refl e₀, fun _ _ => state⟩
    | true =>
      obtain ⟨visited, rest, walked⟩ := listingTest_walked runs
      obtain ⟨e, here, carried, same | ⟨-, clear⟩⟩ := walked.releasing_either fits member state
      · exact ⟨e, here, carried, fun _ _ => by rw [same]; exact state⟩
      · exact ⟨e, here, carried, fun _ more => absurd clear (Nat.ne_of_gt more)⟩

/-! ### A zone without a RELEASING entry -/

/-- No entry of the zone is RELEASING. -/
def Unreleased (z : Nat) (s : State) : Prop := ∀ e ∈ s.window.entries, e.zone = z → e.state ≠ .releasing

theorem Unreleased.modify {z y : Nat} {g : ClaimEntry → ClaimEntry} (before : Unreleased z s) (zone : KeepsZone g)
    (state : ∀ e, e.state ≠ .releasing → (g e).state ≠ .releasing) : Unreleased z (modifyEntry y g s) := by
  intro e member is
  obtain ⟨x, here, rfl⟩ := List.mem_map.mp member
  by_cases same : (x.zone == y) = true
  · rw [if_pos same] at is ⊢
    rw [zone] at is
    exact state x (before x here is)
  · rw [if_neg same] at is ⊢
    exact before x here is

theorem Unreleased.add {z : Nat} (before : Unreleased z s) {x : ClaimEntry} (claims : x.state ≠ .releasing) :
    Unreleased z (addEntry x s) := by
  intro e member is
  obtain rfl | old := mem_addEntry member
  · exact claims
  · exact before e old is

theorem Move.unreleased {f : Flag} (m : Move f s t) (kind : f = .free ∨ f ∈ listingF) {z : Nat} (before : Unreleased z s) :
    Unreleased z t := by
  by_cases entries : f ∉ entryF
  · unfold Unreleased
    rw [(m.entries_same entries).1]
    exact before
  cases m with
  | commit => exact before.modify commit_zone fun _ => id
  | block => exact before.modify (block_zone _ _) fun _ _ => nofun
  | track => exact before.modify (trackBlock_zone _ _) fun _ => id
  | unblock => exact before.modify (unblock_zone _ _) fun _ _ => nofun
  | grant => exact before.modify grant_zone fun _ _ => nofun
  | announce => exact before.modify (announceFirst_zone _ _) fun _ _ => nofun
  | occupy => exact before.modify occupy_zone fun e _ => by rw [occupy_state]; decide
  | occupyNew => exact before.add (by rw [occupy_state]; decide)
  | list => exact before.add nofun
  | revive => exact before.modify (revive_zone _) fun _ _ => nofun
  | reorder => exact fun e member is => before e ((reorder_perm s).mem_iff.mp member) is
  | _ =>
    first
      | exact absurd kind (by decide)
      | exact absurd (by decide) entries

theorem Moves.unreleased {F : List Flag} (kind : ∀ f ∈ F, f ∈ listingF) (m : Moves F s t) {z : Nat} (before : Unreleased z s) :
    Unreleased z t :=
  m.keeps (I := Unreleased z) (fun f _ _ member move before => move.unreleased (member.imp_right (kind f)) before) before

end

end Sys2Proof.Machine
end

section
/-! O49: the completion of a frame. -/

namespace Sys2Proof.Machine

-- One proof after another: many at a time want more threads than the memory limit of a build leaves.
set_option Elab.async false

/-! ### One entry at the completion (R27, R31, R38) -/

section
variable {e : ClaimEntry}

theorem completed_none (air : e.air = .none) : e.completed = e := by
  unfold ClaimEntry.completed
  rw [air]

theorem completed_announced {w : Nat} (air : e.air = .announced w) :
    e.completed = { e with carried := w, announce := min (e.announce + 1) 2, air := .none } := by
  unfold ClaimEntry.completed
  rw [air]

theorem completed_carried {w : Nat} (air : e.air = .carried w) : e.completed = { e with carried := w, air := .none } := by
  unfold ClaimEntry.completed
  rw [air]

theorem completed_omitted (air : e.air = .omitted) (releasing : e.state = .releasing) :
    e.completed = { e with released := min (e.released + 1) 2, air := .none } := by
  unfold ClaimEntry.completed
  rw [air]
  dsimp only
  rw [if_pos releasing]

theorem departs_iff : e.departs = true ↔ e.state = .releasing ∧ e.released = 2 := by
  unfold ClaimEntry.departs
  rw [Bool.and_eq_true, decide_eq_true_eq, beq_iff_eq]

end

/-! ### The window at the completion -/

/-- The entries after a completed frame, without those that leave. -/
def completedGone (s : State) : State :=
  removeZones (((s.window.entries.map ClaimEntry.completed).filter ClaimEntry.departs).map ClaimEntry.zone)
    (setEntries (s.window.entries.map ClaimEntry.completed) s)

theorem windowCompletes_eq (s : State) : ∃ sel, windowCompletes s = reevaluateZones sel (completedGone s) ∨
    windowCompletes s = listingTest (reevaluateZones sel (completedGone s)) := by
  unfold windowCompletes
  dsimp only
  split
  · exact ⟨_, .inl rfl⟩
  · exact ⟨_, .inr rfl⟩

section
variable {s : State} {e : ClaimEntry}

theorem completedSet_windowFits (fits : windowFits s.window) :
    windowFits (setEntries (s.window.entries.map ClaimEntry.completed) s).window :=
  windowFits_map completed_zone rfl rfl fits

theorem completedGone_windowFits (fits : windowFits s.window) : windowFits (completedGone s).window :=
  removeZones_windowFits (completedSet_windowFits fits)

theorem completedGone_stays (fits : windowFits s.window) (member : e ∈ s.window.entries) (stays : e.completed.departs = false) :
    e.completed ∈ (completedGone s).window.entries := by
  have here : e.completed ∈ (setEntries (s.window.entries.map ClaimEntry.completed) s).window.entries := List.mem_map_of_mem member
  refine removeZones_stays (fun gone => ?_) here
  rw [(mem_zones_iff (completedSet_windowFits fits) here).mp gone] at stays
  exact nomatch stays

theorem completedGone_leaves (member : e ∈ s.window.entries) (leaves : e.completed.departs = true) :
    e.zone ∉ windowZones (completedGone s) := by
  intro stays
  obtain ⟨x, here, zone⟩ := List.mem_map.mp stays
  obtain ⟨-, apart⟩ := List.mem_filter.mp here
  have gone : e.zone ∈ ((s.window.entries.map ClaimEntry.completed).filter ClaimEntry.departs).map ClaimEntry.zone :=
    List.mem_map.mpr ⟨e.completed, List.mem_filter.mpr ⟨List.mem_map_of_mem member, leaves⟩, completed_zone e⟩
  rw [zone] at apart
  simp [gone] at apart

end

/-- An entry after the whole completion: what it keeps of the entry that the frame left. -/
structure Outlasts (e e' : ClaimEntry) : Prop where
  zone : e'.zone = e.zone
  carried : e'.carried = e.carried
  wait : e'.wait = e.wait
  released : e'.released = e.released
  held : e.state = .held → e'.state = .held
  announce : e.state ≠ .waiting → e'.announce = e.announce
  releasing : e.state = .releasing → 0 < e.released → e'.state = .releasing

section
variable {s : State} {e : ClaimEntry}

theorem Recounted.outlasts {e' : ClaimEntry} (recounted : Recounted e e') : Outlasts e e' :=
  ⟨recounted.zone, recounted.carried, recounted.wait, recounted.released, recounted.held, recounted.announce,
    fun releasing _ => by rw [recounted.releasing releasing]; exact releasing⟩

/-- A stayer goes through the re-evaluations and the listing test. -/
theorem windowCompletes_stays (fits : windowFits s.window) (member : e ∈ s.window.entries)
    (stays : e.completed.departs = false) : ∃ x ∈ (windowCompletes s).window.entries, Outlasts e.completed x := by
  obtain ⟨sel, eq⟩ := windowCompletes_eq s
  have fits' := completedGone_windowFits fits
  obtain ⟨x, here, recounted⟩ := reevaluateZones_recounts (sel := sel) fits' (completedGone_stays fits member stays)
  obtain eq | eq := eq
  · rw [eq]
    exact ⟨x, here, recounted.outlasts⟩
  · obtain ⟨y, there, carried, releases⟩ := listingTest_carries ((reevaluateZones_moves sel _).windowFits fits') here
    rw [eq]
    refine ⟨y, there, carried.zone.trans recounted.zone, carried.carried.trans recounted.carried,
      carried.wait.trans recounted.wait, carried.released.trans recounted.released, fun held => carried.held (recounted.held held),
      fun other => carried.announce.trans (recounted.announce other), fun releasing more => ?_⟩
    have same := recounted.releasing releasing
    rw [same] at releases
    exact releases releasing more

/-- The zone of an entry that leaves has no RELEASING entry after the completion. -/
theorem windowCompletes_leaves (member : e ∈ s.window.entries) (leaves : e.completed.departs = true) :
    Unreleased e.zone (windowCompletes s) := by
  have gone : Unreleased e.zone (completedGone s) := fun x here zone =>
    absurd (List.mem_map.mpr ⟨x, here, zone⟩) (completedGone_leaves member leaves)
  obtain ⟨sel, eq | eq⟩ := windowCompletes_eq s
  · rw [eq]
    exact (reevaluateZones_moves sel _).unreleased (by decide) gone
  · rw [eq]
    exact (listingTest_moves _).unreleased (fun _ h => h) ((reevaluateZones_moves sel _).unreleased (by decide) gone)

end

/-! ### The completion (R135) -/

/-- The tail of a frame begins. -/
def tailBegun (x : Transmission) (s : State) : State :=
  { s with radio := { s.radio with tx := some { x with phase := .tail, endsAt := s.now + tailTime } } }

theorem exec_beaconComplete {s : State} {x : Transmission} (free : s.station.held = false) (sends : s.radio.tx = some x)
    (phase : x.phase = .sending) :
    exec .beaconComplete s = .next (finish (windowCompletes (tailBegun x (s.reach x.endsAt)))) := by
  show Host.Outcome.next (match s.radio.tx with
    | none => s
    | some x => timedEvent (if x.phase = TxPhase.sending then some x.endsAt else none) (frameCompletes x) s) = _
  rw [sends]
  dsimp only
  rw [if_pos phase, timedEvent_some free]
  rfl

/-- Settles O49: each entry takes what the frame carried, and the re-evaluations and the listing test keep its counts. -/
theorem beaconComplete : Obligations.BeaconComplete := by
  intro s x free sends phase fits
  have run := exec_beaconComplete free sends phase
  have inner := windowCompletes_inner (tailBegun x (s.reach x.endsAt))
  have stays {e : ClaimEntry} (member : e ∈ s.window.entries) (still : e.completed.departs = false) :=
    windowCompletes_stays (s := tailBegun x (s.reach x.endsAt)) fits member still
  have leaves {e : ClaimEntry} (member : e ∈ s.window.entries) (gone : e.completed.departs = true) :=
    windowCompletes_leaves (s := tailBegun x (s.reach x.endsAt)) member gone
  generalize windowCompletes (tailBegun x (s.reach x.endsAt)) = v at run inner stays leaves
  have kept : profilesKept s v := inner.profilesKept
  have still {e : ClaimEntry} (active : e.state ≠ .releasing ∨ e.released ≠ 2) : e.departs = false :=
    Bool.eq_false_iff.mpr fun departs => by
      obtain ⟨state, two⟩ := departs_iff.mp departs
      exact active.elim (fun h => h state) (fun h => h two)
  have claimed {e : ClaimEntry} (state : e.state = .announced ∨ e.state = .held ∨ (e.state = .releasing ∧ e.released < 2)) :
      e.state ≠ .releasing ∨ e.released ≠ 2 := by
    obtain state | state | ⟨-, few⟩ := state
    · exact .inl (by rw [state]; decide)
    · exact .inl (by rw [state]; decide)
    · exact .inr (Nat.ne_of_lt few)
  have unblocked {e : ClaimEntry} (state : e.state = .announced ∨ e.state = .held ∨ (e.state = .releasing ∧ e.released < 2)) :
      e.state ≠ .waiting := by
    obtain state | state | ⟨state, -⟩ := state <;> rw [state] <;> decide
  refine ⟨_, run, ?_, ?_, ?_, ?_, ?_, finish_profilesKept kept, finish_tableKept inner.table, inner.finish_portKept, ?_, ?_⟩
  · rw [finish_now]
    exact inner.now
  · rw [finish_radio]
    exact inner.radio
  · rw [finish_station]
    exact inner.station
  · rw [finish_route]
    exact inner.route
  · rw [finish_odo]
    exact inner.odo
  · rw [finish_window]
    exact inner.standing
  rw [finish_window]
  intro e member
  refine ⟨fun state w air => ?_, fun state w air => ?_, fun air few => ?_, fun state w air => ?_, fun releasing air =>
    ⟨fun none => ?_, fun some y here zone => ?_⟩, fun releasing air few => ?_⟩
  · have eq := completed_announced air
    obtain ⟨y, here, out⟩ := stays member (still (by rw [eq]; exact claimed state))
    rw [eq] at out
    exact ⟨y, here, out.zone, out.carried, out.announce (unblocked state), out.wait⟩
  · have eq := completed_carried air
    obtain ⟨y, here, out⟩ := stays member (still (by rw [eq]; exact claimed state))
    rw [eq] at out
    exact ⟨y, here, out.zone, out.carried, out.announce (unblocked state), out.wait⟩
  · have eq := completed_none air
    obtain ⟨y, here, out⟩ := stays member (still (by rw [eq]; exact .inr (Nat.ne_of_lt few)))
    rw [eq] at out
    exact ⟨y, here, out.zone, out.carried, out.released, out.wait, out.announce⟩
  · have claims : e.state ≠ .releasing := by
      obtain state | state := state <;> rw [state] <;> decide
    obtain air | air := air
    · have eq := completed_announced air
      obtain ⟨y, here, out⟩ := stays member (still (by rw [eq]; exact .inl claims))
      rw [eq] at out
      exact ⟨y, here, out.zone, out.carried, out.wait, out.held⟩
    · have eq := completed_carried air
      obtain ⟨y, here, out⟩ := stays member (still (by rw [eq]; exact .inl claims))
      rw [eq] at out
      exact ⟨y, here, out.zone, out.carried, out.wait, out.held⟩
  · have eq := completed_omitted air releasing
    rw [none] at eq
    obtain ⟨y, here, out⟩ := stays member (still (by rw [eq]; exact .inr (show min (0 + 1) 2 ≠ 2 by decide)))
    rw [eq] at out
    exact ⟨y, here, out.zone, out.releasing releasing Nat.one_pos, out.released⟩
  · have eq := completed_omitted air releasing
    have two : min (e.released + 1) 2 = 2 := by omega
    exact leaves member (departs_iff.mpr (by rw [eq]; exact ⟨releasing, two⟩)) y here zone
  · have same : e.completed.released = e.released ∧ e.completed.wait = e.wait := by
      unfold ClaimEntry.completed
      cases air' : e.air with
      | omitted => exact absurd air' air
      | none | announced w | carried w => exact ⟨rfl, rfl⟩
    obtain ⟨y, here, out⟩ := stays member (still (by rw [same.1]; exact .inr (Nat.ne_of_lt few)))
    exact ⟨y, here, out.zone.trans (completed_zone e), out.wait.trans same.2⟩

end Sys2Proof.Machine
end

section
/-! The double-hold tests of an accepted beacon, one zone after another. -/

namespace Sys2Proof.Machine

-- One proof after another: many at a time want more threads than the memory limit of a build leaves.
set_option Elab.async false

/-! ### What tests of other zones keep -/

/-- Each part of a double-hold test of a zone other than `z` keeps `K`. -/
structure TestKept (r : State) (z : Nat) (K : State → Prop) : Prop where
  commits : ∀ y t, z ≠ y → Inner r t → windowFits t.window → K t → K (commitTest y t)
  records : ∀ y n t, Inner r t → windowFits t.window → K t → K (recordConflict y n t)
  yields : ∀ y n t, z ≠ y → Inner r t → windowFits t.window → K t → K (yielded y n t)
  recomputes : ∀ t, Inner r t → windowFits t.window → K t → K (immediateRecompute t)

theorem yielded_windowFits {y n : Nat} {t : State} (fits : windowFits t.window) : windowFits (yielded y n t).window := by
  rw [yielded_window]
  exact modifyEntry_windowFits (yieldTo_zone _) fits

theorem commitTest_windowFits {y : Nat} {t : State} (fits : windowFits t.window) : windowFits (commitTest y t).window :=
  (commitTest_moves y t).windowFits fits

theorem testAgainst_moves (b : Beacon) (y : Nat) (t : State) : Moves doubleF t (testAgainst b y t) := by
  unfold testAgainst
  split
  · exact doubleHoldTest_moves _ _ _ _
  · exact .refl

theorem testAgainst_inner (b : Beacon) (y : Nat) (t : State) : Inner t (testAgainst b y t) :=
  (testAgainst_moves b y t).inner (by decide)

section
variable {r : State} {z : Nat} {K : State → Prop}

theorem TestKept.test (kept : TestKept r z K) {y n : Nat} {c : Claim} {t : State} (other : z ≠ y) (inner : Inner r t)
    (fits : windowFits t.window) (before : K t) : K (doubleHoldTest y n c t) := by
  have committed := kept.commits y t other inner fits before
  have inner' : Inner r (commitTest y t) := inner.trans (commitTest_inner y t)
  have fits' : windowFits (commitTest y t).window := commitTest_windowFits fits
  have yields : K (yieldEntry y n (commitTest y t)) := by
    rw [yieldEntry_eq]
    exact kept.recomputes _ (inner'.trans (yielded_inner y n _)) (yielded_windowFits fits')
      (kept.yields y n _ other inner' fits' committed)
  unfold doubleHoldTest
  dsimp only
  split
  · exact committed
  · split
    · exact committed
    · split
      · have recorded := kept.records y n _ inner' fits' committed
        obtain eq | eq := conflictOutcome_cases y n (commitTest y t)
        · rw [eq]
          exact recorded
        · rw [eq]
          exact kept.recomputes _ (inner'.trans (recordConflict_inner y n _)) (recordConflict_windowFits y n fits') recorded
      · exact committed
      · exact yields
      · split
        · exact yields
        · exact committed

/-- Tests of other zones, in whatever order, keep it. -/
theorem TestKept.tests (kept : TestKept r z K) {b : Beacon} : ∀ {zs : List Nat} {t : State} (_ : z ∉ zs) (_ : Inner r t)
    (_ : windowFits t.window) (_ : K t), K (zs.foldl (fun s y => testAgainst b y s) t)
  | [], _, _, _, _, before => before
  | y :: zs, t, away, inner, fits, before => by
    rw [List.mem_cons, not_or] at away
    refine TestKept.tests kept (t := testAgainst b y t) away.2 (inner.trans (testAgainst_inner b y t))
      ((testAgainst_moves b y t).windowFits fits) ?_
    unfold testAgainst
    split
    · exact kept.test away.1 inner fits before
    · exact before

end

theorem tests_moves (b : Beacon) (zs : List Nat) (t : State) :
    Moves doubleF t (zs.foldl (fun s y => testAgainst b y s) t) :=
  Moves.foldl (P := fun _ _ => True) (fun s y _ => testAgainst_moves b y s) (fun _ _ _ _ => trivial) zs t fun _ _ => trivial

theorem tests_inner (b : Beacon) (zs : List Nat) (t : State) : Inner t (zs.foldl (fun s y => testAgainst b y s) t) :=
  (tests_moves b zs t).inner (by decide)

/-! ### HELD zones (R41, R75) -/

theorem commitTest_other {z y : Nat} {t : State} (other : z ≠ y) : findEntry z (commitTest y t) = findEntry z t := by
  unfold commitTest
  split
  · rfl
  · split
    · rw [findEntry_congr (s := modifyEntry y ClaimEntry.commit t) (by rw [urgentRequest_window])]
      exact findEntry_modifyEntry_ne commit_zone other t
    · rfl

theorem recordConflict_found (z y n : Nat) (t : State) : findEntry z (recordConflict y n t) = findEntry z t :=
  findEntry_congr (recordConflict_entries y n t)

theorem yielded_other {z y n : Nat} {t : State} (other : z ≠ y) : findEntry z (yielded y n t) = findEntry z t := by
  rw [findEntry_congr (s := modifyEntry y (ClaimEntry.yieldTo t.now) t) (by rw [yielded_window])]
  exact findEntry_modifyEntry_ne (yieldTo_zone _) other t

theorem isHeld_found {z : Nat} {s t : State} (fits : windowFits s.window) (same : findEntry z t = findEntry z s)
    (held : isHeld s z = true) : isHeld t z = true := by
  obtain ⟨e, member, rfl, state⟩ := isHeld_iff.mp held
  exact isHeld_iff.mpr ⟨e, findEntry_mem (same.trans (findEntry_of_mem fits.2.1 member)), rfl, state⟩

theorem testKept_held (r : State) (z : Nat) : TestKept r z (fun t => isHeld t z = true) where
  commits _ _ other _ fits held := isHeld_found fits (commitTest_other other) held
  records y n t _ fits held := isHeld_found fits (recordConflict_found z y n t) held
  yields _ _ _ other _ fits held := isHeld_found fits (yielded_other other) held
  recomputes _ _ fits held := immediateRecompute_held fits held

/-! ### An entry that only an occupant claim of its zone could move (R70) -/

theorem immediateRecompute_stays {t : State} {z : Nat} {e : ClaimEntry} (fits : windowFits t.window)
    (away : t.isCarrier = true → z ∉ frontZones t) (found : findEntry z t = some e) (still : e.state ≠ .announced) :
    findEntry z (immediateRecompute t) = some e := by
  by_cases carrier : t.isCarrier = true
  · exact (immediateRecompute_passed fits (away carrier)).stays found (.inl still)
  · rw [immediateRecompute_eq, if_neg fun both => carrier both.1]
    exact (findEntry_congr (by rw [giveWay_window])).trans found

theorem testKept_still {r : State} {z : Nat} {e : ClaimEntry} (away : r.isCarrier = true → z ∉ frontZones r)
    (still : e.state ≠ .announced) : TestKept r z (fun t => findEntry z t = some e) where
  commits _ _ other _ _ found := (commitTest_other other).trans found
  records y n t _ _ found := (recordConflict_found z y n t).trans found
  yields _ _ _ other _ _ found := (yielded_other other).trans found
  recomputes t inner fits found := by
    refine immediateRecompute_stays fits (fun carrier => ?_) found still
    rw [frontZones_congr inner.route inner.odo]
    exact away (inner.isCarrier ▸ carrier)

/-! ### A HELD entry and its mark (R67, R70) -/

/-- The entry stands HELD at its zone, with the mark it had or a new one. -/
def HeldMarked (e : ClaimEntry) (t : State) : Prop := findEntry e.zone t = some e ∨ findEntry e.zone t = some e.commit

section
variable {s t : State} {e : ClaimEntry}

theorem HeldMarked.same (before : HeldMarked e s) (found : findEntry e.zone t = findEntry e.zone s) : HeldMarked e t := by
  unfold HeldMarked
  rw [found]
  exact before

theorem HeldMarked.entry (before : HeldMarked e s) (held : e.state = .held) :
    ∃ x, findEntry e.zone s = some x ∧ x.state = .held ∧ x.commit = e.commit := by
  obtain found | found := before
  · exact ⟨e, found, held, rfl⟩
  · exact ⟨e.commit, found, held, rfl⟩

theorem Move.heldMarked {f : Flag} (m : Move f s t) (kind : f = .free ∨ f ∈ recomputeF) (held : e.state = .held)
    (fits : Machine.windowFits s.window) (before : HeldMarked e s) : HeldMarked e t := by
  by_cases entries : f ∉ entryF
  · exact before.same (findEntry_congr (m.entries_same entries).1)
  obtain ⟨x, found, state, mark⟩ := before.entry held
  have away {y : Nat} {g : ClaimEntry → ClaimEntry} {w : ClaimEntry} (zone : KeepsZone g) (at_ : findEntry y s = some w)
      (unheld : w.state ≠ .held) : HeldMarked e (modifyEntry y g s) := by
    refine before.same (findEntry_modifyEntry_ne zone (fun same => unheld ?_) s)
    rw [← same, found] at at_
    obtain rfl := Option.some.inj at_
    exact state
  cases m with
  | commit y =>
    by_cases same : e.zone = y
    · subst same
      refine .inr ?_
      rw [findEntry_modifyEntry commit_zone, found]
      exact congrArg some mark
    · exact before.same (findEntry_modifyEntry_ne commit_zone same s)
  | block y _ w at_ is => exact away (block_zone _ _) at_ (by rw [is]; decide)
  | track y _ w at_ is => exact away (trackBlock_zone _ _) at_ (by rw [is]; decide)
  | unblock y _ w at_ is => exact away (unblock_zone _ _) at_ (by rw [is]; decide)
  | grant y _ w at_ is => exact away grant_zone at_ (by rw [is]; decide)
  | occupy y _ w at_ unheld => exact away occupy_zone at_ unheld
  | occupyNew y _ absent =>
    have apart : findEntry (entryFor y s.route.cells).occupy.zone s = none := by
      rw [occupy_entryFor_zone]
      exact absent
    refine before.same (findEntry_addEntry_ne fits.2.1 apart fun same => ?_)
    rw [← same, found] at apart
    exact nomatch apart
  | _ =>
    first
      | exact absurd kind (by decide)
      | exact absurd (by decide) entries

theorem Moves.heldMarked {F : List Flag} (kind : ∀ f ∈ F, f ∈ recomputeF) (m : Moves F s t) (held : e.state = .held)
    (fits : Machine.windowFits s.window) (before : HeldMarked e s) : HeldMarked e t :=
  (m.keeps (I := fun t => Machine.windowFits t.window ∧ HeldMarked e t)
    (fun f _ _ member move ⟨fits, before⟩ =>
      ⟨move.windowFits fits, move.heldMarked (member.imp_right (kind f)) held fits before⟩) ⟨fits, before⟩).2

theorem testKept_marked (r : State) (held : e.state = .held) : TestKept r e.zone (HeldMarked e) where
  commits _ _ other _ _ before := before.same (commitTest_other other)
  records y n t _ _ before := before.same (recordConflict_found e.zone y n t)
  yields _ _ _ other _ _ before := before.same (yielded_other other)
  recomputes t _ fits before := (immediateRecompute_moves t).heldMarked (fun _ h => h) held fits before

end

end Sys2Proof.Machine
end

section
/-! An ANNOUNCED entry on whose zone a peer shows HOLD, until the re-evaluations of the acceptance. -/

namespace Sys2Proof.Machine

-- One proof after another: many at a time want more threads than the memory limit of a build leaves.
set_option Elab.async false

/-- The entry stands as it was, or a run of grants has sent it to WAITING already. -/
def Stops (r : State) (e : ClaimEntry) (t : State) : Prop :=
  findEntry e.zone t = some e ∨ findEntry e.zone t = some (e.block r.now true)

/-- A peer HOLD stands on the zone of an ANNOUNCED entry. -/
structure HoldOn (r : State) (e : ClaimEntry) : Prop where
  announced : e.state = .announced
  blocked : isBlocked r e = true
  stands : holdStands r e.zone = true

theorem trackBlock_block (now : Time) (e : ClaimEntry) : (e.block now true).trackBlock now true = e.block now true := rfl

section
variable {r s t : State} {e : ClaimEntry}

theorem Stops.same (before : Stops r e s) (found : findEntry e.zone t = findEntry e.zone s) : Stops r e t := by
  unfold Stops
  rw [found]
  exact before

theorem HoldOn.waits (on : HoldOn r e) (inner : Inner r t) : isBlocked t (e.block r.now true) = true := by
  rw [inner.isBlocked]
  exact (isBlocked_congr (s := r) (t := r) (e := e) rfl rfl rfl rfl rfl rfl).trans on.blocked

abbrev awaitF : List Flag := [.commit, .reeval, .conflict, .full, .overrun, .horizon, .ceiling, .word]

theorem Move.stopsEntry {f : Flag} (m : Move f s t) (kind : f = .free ∨ f ∈ awaitF) (on : HoldOn r e) (inner : Inner r s)
    (before : Stops r e s) : Stops r e t := by
  by_cases entries : f ∉ entryF
  · exact before.same (findEntry_congr (m.entries_same entries).1)
  have other {y : Nat} {g : ClaimEntry → ClaimEntry} (zone : KeepsZone g) (apart : e.zone ≠ y) : Stops r e (modifyEntry y g s) :=
    before.same (findEntry_modifyEntry_ne zone apart s)
  have now := inner.now
  have holds := (inner.holdStands e.zone).trans on.stands
  cases m with
  | commit y _ x found held =>
    refine other commit_zone fun same => ?_
    rw [← same] at found
    obtain at_ | at_ := before <;> rw [at_] at found <;> obtain rfl := Option.some.inj found
    · exact nomatch held.symm.trans on.announced
    · exact nomatch held
  | block y _ x found state =>
    by_cases same : e.zone = y
    · subst same
      obtain at_ | at_ := before
      · refine .inr ?_
        rw [findEntry_modifyEntry (block_zone _ _), at_, now, holds]
        rfl
      · rw [at_] at found
        obtain rfl := Option.some.inj found
        exact nomatch state
    · exact other (block_zone _ _) same
  | track y _ x found state =>
    by_cases same : e.zone = y
    · subst same
      obtain at_ | at_ := before
      · rw [at_] at found
        obtain rfl := Option.some.inj found
        exact nomatch state.symm.trans on.announced
      · refine .inr ?_
        rw [findEntry_modifyEntry (trackBlock_zone _ _), at_, now, holds]
        exact congrArg some (trackBlock_block r.now e)
    · exact other (trackBlock_zone _ _) same
  | unblock y _ x found state free =>
    refine other (unblock_zone _ _) fun same => ?_
    rw [← same] at found
    obtain at_ | at_ := before <;> rw [at_] at found <;> obtain rfl := Option.some.inj found
    · exact nomatch state.symm.trans on.announced
    · exact nomatch free.symm.trans (on.waits inner)
  | grant y _ x found state free =>
    refine other grant_zone fun same => ?_
    rw [← same] at found
    obtain at_ | at_ := before <;> rw [at_] at found <;> obtain rfl := Option.some.inj found
    · exact nomatch free.symm.trans ((inner.isBlocked e).trans on.blocked)
    · exact nomatch state
  | _ =>
    first
      | exact absurd kind (by decide)
      | exact absurd (by decide) entries

theorem Moves.stopsEntry {F : List Flag} (kind : ∀ f ∈ F, f ∈ awaitF) (m : Moves F s t) (on : HoldOn r e) (inner : Inner r s)
    (before : Stops r e s) : Stops r e t :=
  (m.keeps (I := fun t => Inner r t ∧ Stops r e t) (fun f _ _ member move ⟨inner, before⟩ => by
    have kind' : f = .free ∨ f ∈ awaitF := member.imp_right (kind f)
    exact ⟨inner.trans (move.inner (by revert kind'; cases f <;> decide)), move.stopsEntry kind' on inner before⟩)
    ⟨inner, before⟩).2

theorem occupantHeld_stops {y : Nat} (on : HoldOn r e) (inner : Inner r s) (before : Stops r e s) :
    Stops r e (occupantHeld y s) := by
  unfold occupantHeld
  have asked : Stops r e (occupantTests y (urgentRequest s)) :=
    before.same (findEntry_congr (by rw [occupantTests_entries, urgentRequest_window]))
  have inner' : Inner r (occupantTests y (urgentRequest s)) :=
    (inner.trans (urgentRequest_inner s)).trans (occupantTests_inner y _)
  exact (grantRun_moves y _).stopsEntry (by decide) on inner' asked

theorem occupantClaim_stops {y : Nat} (on : HoldOn r e) (inner : Inner r s) (fits : Machine.windowFits s.window)
    (apart : e.zone ≠ y) (before : Stops r e s) : Stops r e (occupantClaim y s) := by
  cases found : findEntry y s with
  | none =>
    have absent : findEntry (entryFor y s.route.cells).occupy.zone s = none := by
      rw [occupy_entryFor_zone]
      exact found
    cases room : windowHasRoom s with
    | true =>
      rw [occupantClaim_new found room]
      exact occupantHeld_stops on (inner.trans (addEntry_inner _ _))
        (before.same (findEntry_addEntry_ne fits.2.1 absent (by rw [occupy_entryFor_zone]; exact apart)))
    | false =>
      rw [occupantClaim_full found room]
      exact before.same (findEntry_congr (holdBack_entries y s))
  | some x =>
    by_cases held : x.state = .held
    · rw [occupantClaim_held found held]
      exact before.same (findEntry_modifyEntry_ne commit_zone apart s)
    · rw [occupantClaim_found found held]
      exact occupantHeld_stops on (inner.trans (modifyEntry_inner _ _ _))
        (before.same (findEntry_modifyEntry_ne occupy_zone apart s))

end

theorem occupantClaims_stops {r : State} {e : ClaimEntry} (on : HoldOn r e) : ∀ {zs : List Nat} {s : State} (_ : stopped s)
    (_ : ∀ z ∈ zs, isNeeded z s.route.cells = true) (_ : s.isCarrier = true) (_ : windowFits s.window) (_ : Inner r s)
    (_ : e.zone ∉ zs) (_ : Stops r e s), Stops r e (zs.foldl (fun s z => occupantClaim z s) s)
  | [], _, _, _, _, _, _, _, before => before
  | z :: zs, s, stop, needed, carrier, fits, inner, away, before => by
    have first := occupantClaim_moves stop (needed z List.mem_cons_self) carrier
    have step := first.inner (by decide)
    rw [List.mem_cons, not_or] at away
    exact occupantClaims_stops on (s := occupantClaim z s) (occupantClaim_stopped stop)
      (fun x hx => by rw [step.route]; exact needed x (List.mem_cons_of_mem z hx))
      (by rw [step.isCarrier]; exact carrier) (first.windowFits fits) (inner.trans step) away.2
      (occupantClaim_stops on inner fits away.1 before)

/-! ### The recompute, with its OVERRUN (R120, R122) -/

/-- The entry is stopped, or an OVERRUN raised since has taken its zone. -/
structure StopsOrTaken (r : State) (e : ClaimEntry) (t : State) : Prop where
  stands : r.auth.overrun = true → t.auth.overrun = true
  outcome : Stops r e t ∨
    (r.auth.overrun = false ∧ t.auth.overrun = true ∧ e.zone ∈ frontZones r ∧ isHeld t e.zone = true)

section
variable {r t : State} {e : ClaimEntry}

theorem overrunTaken_takes (on : HoldOn r e) (carrier : t.isCarrier = true) (fits : windowFits t.window) (inner : Inner r t)
    (before : Stops r e t) : (e.zone ∈ frontZones r → isHeld (overrunTaken t) e.zone = true) ∧
      (e.zone ∉ frontZones r → Stops r e (overrunTaken t)) := by
  have noted := overrunNoted_inner t
  have fits' : windowFits (overrunNoted t).window := by
    rw [overrunNoted_window]
    exact fits
  have carrier' : (overrunNoted t).isCarrier = true := by
    rw [noted.isCarrier]
    exact carrier
  have needed : ∀ z ∈ frontZones t, isNeeded z (overrunNoted t).route.cells = true := fun z front => by
    rw [noted.route]
    exact frontZones_needed front
  have same : frontZones t = frontZones r := frontZones_congr inner.route inner.odo
  have before' : Stops r e (overrunNoted t) := before.same (findEntry_congr (by rw [overrunNoted_window]))
  unfold overrunTaken
  refine ⟨fun front => ?_, fun away => ?_⟩
  · have followed : Followed e (overrunNoted t) := by
      obtain found | found := before'
      · exact ⟨e, findEntry_mem found, .refl e⟩
      · exact ⟨_, findEntry_mem found, rfl, rfl, fun releasing => nomatch releasing.symm.trans on.announced⟩
    obtain ⟨x, found, held, -⟩ := occupantClaims_takes (overrunNoted_stopped t) needed carrier' fits'
      (by rw [same]; exact front) followed
    exact isHeld_iff.mpr ⟨x, findEntry_mem found, findEntry_zone found, held⟩
  · exact occupantClaims_stops on (overrunNoted_stopped t) needed carrier' fits' (inner.trans noted)
      (by rw [same]; exact away) before'

theorem overrunTest_stopsOrTaken (on : HoldOn r e) (fits : windowFits t.window) (inner : Inner r t)
    (still : r.auth.overrun = true → t.auth.overrun = true) (before : Stops r e t) : Stops r e (overrunTest t) ∨
      (r.auth.overrun = false ∧ (overrunTest t).auth.overrun = true ∧ e.zone ∈ frontZones r ∧
        isHeld (overrunTest t) e.zone = true) := by
  rw [overrunTest_eq]
  split
  · rename_i guard
    obtain ⟨carrier, -, absent, -⟩ := guard
    obtain ⟨takes, stops⟩ := overrunTaken_takes on carrier fits inner before
    by_cases front : e.zone ∈ frontZones r
    · refine .inr ⟨?_, raiseOverrun_overrun carrier, front, ?_⟩
      · exact Bool.eq_false_iff.mpr fun raised => nomatch absent.symm.trans (still raised)
      · have same : (raiseOverrun t).window = (overrunTaken t).window := by
          rw [raiseOverrun_eq]
          rfl
        exact (isHeld_congr (congrArg Window.entries same) e.zone).trans (takes front)
    · refine .inl ((stops front).same (findEntry_congr ?_))
      rw [raiseOverrun_eq]
      rfl
  · exact .inl before

theorem immediateRecompute_stopsOrTaken (on : HoldOn r e) (fits : windowFits t.window) (inner : Inner r t)
    (before : StopsOrTaken r e t) : StopsOrTaken r e (immediateRecompute t) := by
  have draws := immediateRecompute_draws t
  refine ⟨fun raised => draws.stands (before.stands raised), ?_⟩
  obtain stops | ⟨clear, raised, front, held⟩ := before.outcome
  · have gave : Stops r e (giveWay t) := stops.same (findEntry_congr (by rw [giveWay_window]))
    have inner' : Inner r (giveWay t) := inner.trans (giveWay_inner t)
    have tested := overrunTest_stopsOrTaken on (t := giveWay t) (by rw [giveWay_window]; exact fits) inner'
      (fun raised => (giveWay_overrun t).trans (before.stands raised)) gave
    rw [immediateRecompute_eq]
    split
    · have overrun : (recomputeCeiling (giveWay t)).auth.overrun = (overrunTest (giveWay t)).auth.overrun := by
        obtain eq | ⟨c, -, eq⟩ := recomputeCeiling_cases (giveWay t)
        · rw [eq]
        · rw [eq, sendWord_overrun]
          rfl
      obtain stops | ⟨clear, raised, front, held⟩ := tested
      · exact .inl (stops.same (findEntry_congr (by rw [recomputeCeiling_window])))
      · exact .inr ⟨clear, overrun.trans raised, front, (isHeld_congr (by rw [recomputeCeiling_window]) e.zone).trans held⟩
    · exact .inl gave
  · exact .inr ⟨clear, draws.stands raised, front, immediateRecompute_held fits held⟩

theorem StopsOrTaken.same {u : State} (before : StopsOrTaken r e t) (fits : windowFits t.window)
    (overrun : u.auth.overrun = t.auth.overrun) (found : findEntry e.zone u = findEntry e.zone t) : StopsOrTaken r e u := by
  refine ⟨fun raised => overrun.trans (before.stands raised), before.outcome.imp (fun stops => stops.same found) ?_⟩
  rintro ⟨clear, raised, front, held⟩
  exact ⟨clear, overrun.trans raised, front, isHeld_found fits found held⟩

theorem testKept_stops (on : HoldOn r e) : TestKept r e.zone (StopsOrTaken r e) where
  commits y t other _ fits before := before.same fits (by rw [(EntryWork.commitTest y t).auth]) (commitTest_other other)
  records y n t _ fits before := before.same fits (by
    have rest := (recordConflict_authRest y n t).rest
    have same := congrArg Authority.overrun rest
    exact same) (recordConflict_found e.zone y n t)
  yields y n t other _ fits before := before.same fits (by rw [yielded_auth]) (yielded_other other)
  recomputes t inner fits before := immediateRecompute_stopsOrTaken on fits inner before

end

end Sys2Proof.Machine
end

section
/-! What an accepted beacon makes of the own entries on its HOLD zones. -/

namespace Sys2Proof.Machine

-- One proof after another: many at a time want more threads than the memory limit of a build leaves.
set_option Elab.async false

theorem holdIn_of_mem {c : Claim} : ∀ {cs : List Claim} (_ : (cs.map Claim.zone).Nodup) (_ : c ∈ cs) (_ : c.kind = .hold),
    holdIn c.zone cs = some c
  | d :: cs, differ, member, hold => by
    rw [List.map_cons, List.nodup_cons] at differ
    unfold holdIn
    rw [List.find?_cons]
    obtain rfl | later := List.mem_cons.mp member
    · simp [hold]
    · have other : (d.zone == c.zone) = false :=
        beq_eq_false_iff_ne.mpr fun same => differ.1 (same ▸ List.mem_map_of_mem later)
      rw [other]
      exact holdIn_of_mem differ.2 later hold

theorem holdIn_none {z : Nat} {cs : List Claim} (none : ∀ c ∈ cs, c.kind = .hold → c.zone ≠ z) : holdIn z cs = .none := by
  unfold holdIn
  rw [List.find?_eq_none]
  intro c member both
  simp only [Bool.and_eq_true, beq_iff_eq, decide_eq_true_eq] at both
  exact none c member both.2 both.1

section
variable {b : Beacon} {c : Claim} {zones : List Nat} {p : State} {e : ClaimEntry}

theorem mem_doubleHeld {z : Nat} : z ∈ doubleHeld b p ↔ isHeld p z = true ∧ (holdIn z b.claims).isSome = true := by
  unfold doubleHeld
  rw [List.mem_filter, Bool.and_eq_true]
  refine ⟨And.right, fun both => ⟨?_, both⟩⟩
  obtain ⟨e, member, rfl, -⟩ := isHeld_iff.mp both.1
  exact List.mem_map_of_mem member

/-- The state once its double-hold tests are made. -/
def tested (b : Beacon) (p : State) : State := (doubleHeld b p).foldl (fun s z => testAgainst b z s) p

theorem windowTakes_eq (b : Beacon) (zones : List Nat) (p : State) : windowTakes b zones p =
    reevaluateZones (fun z => zones.contains z || (doubleHeld b p).contains z) (tested b p) := rfl

theorem tested_windowFits (b : Beacon) (fits : windowFits p.window) : windowFits (tested b p).window :=
  (tests_moves b _ p).windowFits fits

theorem tested_inner (b : Beacon) (p : State) : Inner p (tested b p) := tests_inner b _ p

/-! ### HELD zones that the beacon does not hold -/

theorem windowTakes_holds {z : Nat} (fits : windowFits p.window) (held : isHeld p z = true)
    (free : ∀ c ∈ b.claims, c.kind = .hold → c.zone ≠ z) : isHeld (windowTakes b zones p) z = true := by
  have away : z ∉ doubleHeld b p := fun member => by
    rw [mem_doubleHeld, holdIn_none free] at member
    exact nomatch member.2
  have stays : isHeld (tested b p) z = true := (testKept_held p z).tests away (.refl p) fits held
  exact (reevaluateZones_moves _ _).held_stays (by decide) (tested_windowFits b fits) stays

/-! ### ANNOUNCED entries -/

theorem windowTakes_stops (fits : windowFits p.window) (member : e ∈ p.window.entries) (on : HoldOn p e)
    (handed : e.zone ∈ zones) : e.block p.now true ∈ (windowTakes b zones p).window.entries ∨
      (p.auth.overrun = false ∧ (windowTakes b zones p).auth.overrun = true ∧ e.zone ∈ frontZones p ∧
        isHeld (windowTakes b zones p) e.zone = true) := by
  have found := findEntry_of_mem fits.2.1 member
  have away : e.zone ∉ doubleHeld b p := fun double => by
    obtain ⟨x, there, zone, held⟩ := isHeld_iff.mp (mem_doubleHeld.mp double).1
    rw [inj_of_nodup_map fits.2.1 there member zone] at held
    exact nomatch held.symm.trans on.announced
  have inner := tested_inner b p
  have fits' := tested_windowFits b fits
  have chosen : (zones.contains e.zone || (doubleHeld b p).contains e.zone) = true := by
    rw [List.contains_iff_mem.mpr handed, Bool.true_or]
  rw [windowTakes_eq]
  have outcome : StopsOrTaken p e (tested b p) :=
    (testKept_stops on).tests away (.refl p) fits ⟨id, .inl (.inl found)⟩
  have holds := (inner.holdStands e.zone).trans on.stands
  obtain stops | ⟨clear, raised, front, held⟩ := outcome.outcome
  · left
    obtain still | stopped := stops
    · have blocks := reevaluateZones_blocks (sel := fun z => zones.contains z || (doubleHeld b p).contains z) fits'
        (findEntry_mem still) chosen on.announced ((inner.isBlocked e).trans on.blocked)
      rw [inner.now, holds] at blocks
      exact blocks
    · have tracks := reevaluateZones_tracks (sel := fun z => zones.contains z || (doubleHeld b p).contains z) fits'
        (findEntry_mem stopped) chosen rfl (on.waits inner)
      rw [inner.now, show holdStands (tested b p) (e.block p.now true).zone = true from holds] at tracks
      exact tracks
  · refine .inr ⟨clear, ?_, front, ?_⟩
    · rw [reevaluateZones_auth]
      exact raised
    · exact (reevaluateZones_moves _ _).held_stays (by decide) fits' held

/-! ### HELD entries (R71 to R73) -/

theorem Inner.ownMark {s t : State} (inner : Inner s t) (e : ClaimEntry) : Machine.ownMark t e = Machine.ownMark s e := by
  unfold Machine.ownMark
  rw [inner.isCarrier, inner.commitPasses rfl]

/-- The cause CONFLICT stands through whatever tests follow. -/
theorem testKept_conflict (r : State) (z : Nat) : TestKept r z (fun t => t.auth.causes.conflict = true) where
  commits y t _ _ _ stands := by rw [(EntryWork.commitTest y t).auth]; exact stands
  records y n t _ _ _ := recordConflict_cause y n t
  yields y n t _ _ _ stands := by rw [yielded_auth]; exact stands
  recomputes t _ _ stands := (immediateRecompute_moves t).conflict_stays stands

/-- The tests of an event, split at one zone. -/
theorem tested_split (fits : windowFits p.window) (differ : (b.claims.map Claim.zone).Nodup) (member : e ∈ p.window.entries)
    (held : e.state = .held) (claim : c ∈ b.claims) (hold : c.kind = .hold) (zone : c.zone = e.zone) :
    ∃ before after : List Nat, e.zone ∉ before ∧ e.zone ∉ after ∧
      tested b p = after.foldl (fun s z => testAgainst b z s)
        (doubleHoldTest e.zone b.station c (before.foldl (fun s z => testAgainst b z s) p)) := by
  have holds : holdIn e.zone b.claims = some c := zone ▸ holdIn_of_mem differ claim hold
  have double : e.zone ∈ doubleHeld b p :=
    mem_doubleHeld.mpr ⟨isHeld_iff.mpr ⟨e, member, rfl, held⟩, by rw [holds]; rfl⟩
  have distinct : (doubleHeld b p).Nodup := fits.2.1.filter _
  obtain ⟨before, after, split⟩ := List.append_of_mem double
  rw [split, List.nodup_append, List.nodup_cons] at distinct
  obtain ⟨-, ⟨behind, -⟩, apart⟩ := distinct
  refine ⟨before, after, fun ahead => apart _ ahead _ List.mem_cons_self rfl, behind, ?_⟩
  unfold tested
  rw [split, List.foldl_append, List.foldl_cons]
  refine congrArg (fun t => after.foldl (fun s z => testAgainst b z s) t) ?_
  unfold testAgainst
  rw [holds]

section
variable (fits : windowFits p.window) (differ : (b.claims.map Claim.zone).Nodup) (member : e ∈ p.window.entries)
  (held : e.state = .held) (claim : c ∈ b.claims) (hold : c.kind = .hold) (zone : c.zone = e.zone)
include fits differ member held claim hold zone

/-- An entry with a mark, or that gets one, keeps its zone; a mark on both sides is a CONFLICT. -/
theorem windowTakes_commits (own : ownMark p e = true) :
    e.commit ∈ (windowTakes b zones p).window.entries ∧
      (c.committed = true → (windowTakes b zones p).auth.causes.conflict = true) := by
  obtain ⟨before, after, ahead, behind, split⟩ := tested_split fits differ member held claim hold zone
  generalize is : before.foldl (fun s z => testAgainst b z s) p = m at split
  have inner : Inner p m := is ▸ tests_inner b before p
  have fitsM : windowFits m.window := is ▸ (tests_moves b before p).windowFits fits
  have marked : HeldMarked e m :=
    is ▸ (testKept_marked p held).tests ahead (.refl p) fits (.inl (findEntry_of_mem fits.2.1 member))
  obtain ⟨x, found, heldX, mark⟩ := marked.entry held
  have ownX : ownMark m x = true := by
    rw [inner.ownMark]
    obtain still | now := marked
    · rw [found] at still
      rwa [Option.some.inj still]
    · rw [found] at now
      rw [Option.some.inj now]
      rfl
  have commits : findEntry e.zone (commitTest e.zone m) = some e.commit := by
    rw [commitTest_marked found heldX, ownX]
    exact congrArg some mark
  have fitsC : windowFits (commitTest e.zone m).window := commitTest_windowFits fitsM
  have outcome := doubleHoldTest_held (n := b.station) (c := c) found heldX
  rw [ownX] at outcome
  generalize doubleHoldTest e.zone b.station c m = v at outcome split
  have settled : findEntry e.zone v = some e.commit ∧ windowFits v.window ∧ Inner p v ∧
      (c.committed = true → v.auth.causes.conflict = true) := by
    have innerC := inner.trans (commitTest_inner e.zone m)
    cases peer : c.committed with
    | true =>
      rw [peer] at outcome
      rw [show v = conflictOutcome e.zone b.station (commitTest e.zone m) from outcome]
      refine ⟨conflictOutcome_keeps fitsC commits held rfl, (conflictOutcome_moves _ _ _).windowFits fitsC,
        innerC.trans (conflictOutcome_inner _ _ _), fun _ => ?_⟩
      exact (conflictOutcome_moves_from _ _ _).conflict_stays (recordConflict_cause _ _ _)
    | false =>
      rw [peer] at outcome
      rw [show v = commitTest e.zone m from outcome]
      exact ⟨commits, fitsC, innerC, nofun⟩
  obtain ⟨at_, fitsV, innerV, cause⟩ := settled
  have stays : HeldMarked e.commit (tested b p) := by
    rw [split]
    exact (testKept_marked (e := e.commit) p held).tests behind innerV fitsV (.inl at_)
  have there : e.commit ∈ (tested b p).window.entries := stays.elim findEntry_mem findEntry_mem
  refine ⟨?_, fun peer => ?_⟩
  · rw [windowTakes_eq]
    exact reevaluateZones_rests (tested_windowFits b fits) there (not_requested held (by decide))
  · rw [windowTakes_eq, reevaluateZones_auth, split]
    exact (testKept_conflict p e.zone).tests behind innerV fitsV (cause peer)

/-- The outcomes of an entry without a mark. -/
theorem tested_unmarked (first : e.first = firstNeeding e.zone p.route.cells) (own : ownMark p e = false) :
    (c.committed = false → outranks c.urgency c.wait b.station e.urgency e.wait p.ownNumber = false →
      findEntry e.zone (tested b p) = some e) ∧
    (c.committed = true ∨ outranks c.urgency c.wait b.station e.urgency e.wait p.ownNumber = true →
      findEntry e.zone (tested b p) = some (e.yieldTo p.now)) := by
  obtain ⟨before, after, ahead, behind, split⟩ := tested_split fits differ member held claim hold zone
  have away : p.isCarrier = true → e.zone ∉ frontZones p := fun carrier front => by
    have fails := (Bool.or_eq_false_iff.mp own).2
    rw [carrier, commitPasses_front first front] at fails
    exact nomatch fails
  generalize is : before.foldl (fun s z => testAgainst b z s) p = m at split
  have inner : Inner p m := is ▸ tests_inner b before p
  have fitsM : windowFits m.window := is ▸ (tests_moves b before p).windowFits fits
  have found : findEntry e.zone m = some e :=
    is ▸ (testKept_still away (by rw [held]; decide)).tests ahead (.refl p) fits (findEntry_of_mem fits.2.1 member)
  have ownM : ownMark m e = false := (inner.ownMark e).trans own
  have outcome := doubleHoldTest_held (n := b.station) (c := c) found held
  have number : m.ownNumber = p.ownNumber := by
    unfold State.ownNumber
    rw [inner.station]
  rw [ownM, commitTest_still found ownM, number] at outcome
  have innerT : Inner p (doubleHoldTest e.zone b.station c m) := inner.trans (doubleHoldTest_inner _ _ _ _)
  have fitsT : windowFits (doubleHoldTest e.zone b.station c m).window := (doubleHoldTest_moves _ _ _ _).windowFits fitsM
  have rest {x : ClaimEntry} (zone : x.zone = e.zone) (still : x.state ≠ .announced)
      (at_ : findEntry e.zone (doubleHoldTest e.zone b.station c m) = some x) : findEntry e.zone (tested b p) = some x := by
    rw [split]
    exact (testKept_still away still).tests behind innerT fitsT at_
  refine ⟨fun peer below => rest rfl (by rw [held]; decide) ?_, fun above => rest rfl nofun ?_⟩
  · rw [peer] at outcome
    dsimp only at outcome
    rw [if_neg (by rw [below]; decide)] at outcome
    rw [outcome]
    exact found
  · have eq : doubleHoldTest e.zone b.station c m = yieldEntry e.zone b.station m := by
      rw [outcome]
      cases peer : c.committed with
      | true => rfl
      | false =>
        dsimp only
        rw [peer] at above
        exact if_pos (above.resolve_left nofun)
    rw [eq, yieldEntry_self fitsM found (by rw [inner.route]; exact first) ownM, inner.now]

/-- The yielded entry waits on, its zone held by the peer. -/
theorem windowTakes_unmarked (first : e.first = firstNeeding e.zone p.route.cells) (own : ownMark p e = false)
    (stands : holdStands p e.zone = true) (blocked : isBlocked p (e.yieldTo p.now) = true) :
    (c.committed = false → outranks c.urgency c.wait b.station e.urgency e.wait p.ownNumber = false →
      e ∈ (windowTakes b zones p).window.entries) ∧
    (c.committed = true ∨ outranks c.urgency c.wait b.station e.urgency e.wait p.ownNumber = true →
      e.yieldTo p.now ∈ (windowTakes b zones p).window.entries) := by
  obtain ⟨keeps, yields⟩ := tested_unmarked fits differ member held claim hold zone first own
  have fits' := tested_windowFits b fits
  have inner := tested_inner b p
  have double : e.zone ∈ doubleHeld b p := by
    refine mem_doubleHeld.mpr ⟨isHeld_iff.mpr ⟨e, member, rfl, held⟩, ?_⟩
    rw [← zone, holdIn_of_mem differ claim hold]
    rfl
  refine ⟨fun peer below => ?_, fun above => ?_⟩
  · rw [windowTakes_eq]
    exact reevaluateZones_rests fits' (findEntry_mem (keeps peer below)) (not_requested held (by decide))
  · have tracks := reevaluateZones_tracks (sel := fun z => zones.contains z || (doubleHeld b p).contains z) fits'
      (findEntry_mem (yields above)) (by
        rw [show (e.yieldTo p.now).zone = e.zone from rfl, List.contains_iff_mem.mpr double, Bool.or_true]) rfl
      ((inner.isBlocked _).trans blocked)
    rw [windowTakes_eq]
    rw [inner.now, show holdStands (tested b p) (e.yieldTo p.now).zone = true from (inner.holdStands _).trans stands] at tracks
    exact tracks

end

end

end Sys2Proof.Machine
end

section
/-! O33: an accepted beacon. -/

namespace Sys2Proof.Machine

-- One proof after another: many at a time want more threads than the memory limit of a build leaves.
set_option Elab.async false

/-! ### The places of the table (R45, R52, R56, R57) -/

theorem filter_stations {n : Nat} {ps : List Peer} (none : ∀ p ∈ ps, p.station ≠ n) :
    ps.filter (fun p => p.station != n) = ps :=
  List.filter_eq_self.mpr fun p member => by simpa using none p member

theorem others_of_nodup {p : Peer} {before after : List Peer} (differ : ((before ++ p :: after).map Peer.station).Nodup) :
    ∀ q ∈ before ++ after, q.station ≠ p.station := by
  rw [List.map_append, List.map_cons, nodup_middle, List.nodup_cons, ← List.map_append] at differ
  exact fun q member same => differ.1 (same ▸ List.mem_map_of_mem member)

theorem filter_station_at {p : Peer} {before after : List Peer} (differ : ((before ++ p :: after).map Peer.station).Nodup) :
    (before ++ p :: after).filter (fun q => q.station != p.station) = before ++ after := by
  have others := others_of_nodup differ
  rw [List.filter_append, List.filter_cons, if_neg (by simp), ← List.filter_append]
  exact filter_stations others

theorem find?_first {α : Type} {f : α → Bool} {x : α} {before after : List α} (none : ∀ y ∈ before, f y = false)
    (at_ : f x = true) : (before ++ x :: after).find? f = some x := by
  rw [List.find?_append, List.find?_eq_none.mpr fun y member => by rw [none y member]; exact Bool.false_ne_true,
    List.find?_cons, at_]
  rfl

theorem claimOn_of_mem {c : Claim} : ∀ {cs : List Claim} (_ : (cs.map Claim.zone).Nodup) (_ : c ∈ cs),
    claimOn c.zone cs = some c
  | d :: cs, differ, member => by
    rw [List.map_cons, List.nodup_cons] at differ
    unfold claimOn
    rw [List.find?_cons]
    obtain rfl | later := List.mem_cons.mp member
    · simp
    · have other : (d.zone == c.zone) = false :=
        beq_eq_false_iff_ne.mpr fun same => differ.1 (same ▸ List.mem_map_of_mem later)
      rw [other]
      exact claimOn_of_mem differ.2 later

/-- A claim that is new in the entry of its station is handed over. -/
theorem mem_handedOver {q : Peer} {c : Claim} {cs : List Claim} (differ : (cs.map Claim.zone).Nodup) (member : c ∈ cs)
    (new : q.freshness = .live → c ∉ q.claims) : c.zone ∈ handedOver q cs := by
  unfold handedOver
  split
  · rename_i live
    unfold changedZones
    refine List.mem_filter.mpr ⟨List.mem_map_of_mem (List.mem_append_right _ member), ?_⟩
    rw [claimOn_of_mem differ member, bne_iff_ne]
    exact fun old => new live (List.mem_of_find?_eq_some old)
  · exact List.mem_map_of_mem (List.mem_append_right _ member)

/-- The places that stay, as the accepted beacon's station is known, finds room, or takes an evicted entry's place. -/
def Keeps (b : Beacon) (r : State) (kept : List Peer) : Prop :=
  (∃ before p after, r.table.peers = before ++ p :: after ∧ p.station = b.station ∧ kept = before ++ after ∧
      (b.fresh = true ∨ (1 ≤ (b.seq + 65536 - p.seq) % 65536 ∧ (b.seq + 65536 - p.seq) % 65536 ≤ 32767))) ∨
    ((∀ p ∈ r.table.peers, p.station ≠ b.station) ∧ (∃ c ∈ b.claims, c.zone ∈ ownZones r) ∧
      ((r.table.peers.length < 24 ∧ kept = r.table.peers) ∨
        (24 ≤ r.table.peers.length ∧ ∃ before p after, r.table.peers = before ++ p :: after ∧
          kept = before ++ after ∧ p.relevant = false ∧
          ((p.freshness = .stale ∧ ∀ q ∈ before, ¬(q.freshness = .stale ∧ q.relevant = false)) ∨
            ((∀ q ∈ r.table.peers, ¬(q.freshness = .stale ∧ q.relevant = false)) ∧
              ∀ q ∈ before, q.relevant = true)))))

/-- The state with an accepted beacon in the table. -/
def seated (b : Beacon) (kept : List Peer) (r : State) : State := setPeers (kept ++ [b.peer (ownZones r) r.now]) r

theorem putPeer_setPeers {b : Beacon} {ps kept : List Peer} {r : State}
    (stay : ps.filter (fun p => p.station != b.station) = kept) : putPeer b (setPeers ps r) = seated b kept r := by
  subst stay
  rfl

theorem evictable_at {r : State} {p : Peer} {before after : List Peer} (peers : r.table.peers = before ++ p :: after)
    (idle : p.relevant = false)
    (first : (p.freshness = .stale ∧ ∀ q ∈ before, ¬(q.freshness = .stale ∧ q.relevant = false)) ∨
      ((∀ q ∈ r.table.peers, ¬(q.freshness = .stale ∧ q.relevant = false)) ∧ ∀ q ∈ before, q.relevant = true)) :
    evictable r = some p.station := by
  unfold evictable
  obtain ⟨stale, unmatched⟩ | ⟨unmatched, relevant⟩ := first
  · have found : r.table.peers.find? (fun p => p.freshness = .stale && !p.relevant) = some p := by
      rw [peers]
      exact find?_first (fun q member => by simpa using unmatched q member) (by simp [stale, idle])
    rw [found]
  · have absent : r.table.peers.find? (fun p => p.freshness = .stale && !p.relevant) = none :=
      List.find?_eq_none.mpr fun q member => by simpa using unmatched q member
    have found : r.table.peers.find? (fun p => !p.relevant) = some p := by
      rw [peers]
      exact find?_first (fun q member => by simp [relevant q member]) (by simp [idle])
    rw [absent, found]
    rfl

/-- What an acceptance makes of the table, and the zones it hands over. -/
theorem takeContent_accepts {frame : List Byte} {b : Beacon} {r : State} {kept : List Peer} (parsed : parseBeacon frame = some b)
    (other : b.station ≠ r.ownNumber) (differ : (r.table.peers.map Peer.station).Nodup) (keeps : Keeps b r kept) :
    ∃ zones, takeContent frame r = windowTakes b zones (seated b kept r) ∧ ∀ c ∈ b.claims,
      (∀ p ∈ r.table.peers, p.station = b.station → p.freshness = .live → c ∉ p.claims) → c.zone ∈ zones := by
  have claims := (parseBeacon_fits parsed).2
  unfold takeContent
  rw [parsed]
  dsimp only
  rw [if_neg other]
  obtain ⟨before, p, after, peers, station, rfl, newer⟩ | ⟨unknown, relevant, place⟩ := keeps
  · have member : p ∈ r.table.peers := by simp [peers]
    have stay : r.table.peers.filter (fun q => q.station != b.station) = before ++ after := by
      rw [peers, ← station]
      exact filter_station_at (peers ▸ differ)
    have found : findPeer b.station r = some p := by
      unfold findPeer
      rw [peers]
      refine find?_first (fun q among => ?_) (by simp [station])
      rw [← station]
      exact beq_eq_false_iff_ne.mpr (others_of_nodup (peers ▸ differ) q (List.mem_append_left _ among))
    refine ⟨handedOver p b.claims, ?_, fun c among new => mem_handedOver claims among (new p member station)⟩
    rw [found]
    dsimp only
    unfold knownStation
    rw [if_pos (by rw [Bool.or_eq_true, isNewer_iff]; exact newer)]
    exact congrArg (windowTakes b _) (putPeer_setPeers (r := r) stay)
  · refine ⟨b.claims.map Claim.zone, ?_, fun c among _ => List.mem_map_of_mem among⟩
    rw [findPeer_none unknown]
    dsimp only
    unfold unknownStation
    rw [if_pos (touches_true relevant)]
    dsimp only
    obtain ⟨room, rfl⟩ | ⟨full, before, p, after, peers, rfl, idle, first⟩ := place
    · rw [if_pos (show r.table.peers.length < maxPeers from room)]
      exact congrArg (windowTakes b _) (putPeer_setPeers (r := r) (filter_stations unknown))
    · rw [if_neg (Nat.not_lt.mpr (show maxPeers ≤ r.table.peers.length from full)), evictable_at peers idle first]
      refine congrArg (windowTakes b _) (putPeer_setPeers (r := r) ?_)
      rw [peers, filter_station_at (peers ▸ differ)]
      refine filter_stations fun q among => unknown q ?_
      rw [peers]
      exact (List.mem_append.mp among).elim (List.mem_append_left _) fun h => List.mem_append_right _ (List.mem_cons_of_mem _ h)

/-! ### The entry -/

theorem parseBeacon_period {bs : List Byte} {b : Beacon} (h : parseBeacon bs = some b) : b.periodCode ≤ 2 := by
  unfold parseBeacon at h
  split at h
  · rename_i pc rest
    dsimp only at h
    split at h
    · exact nomatch h
    · split at h
      · exact nomatch h
      · rename_i good
        obtain rfl := Option.some.inj h
        have code : pc.toNat / 64 ≠ 3 := fun three => good (.inr (.inl three))
        have small : pc.toNat < 256 := pc.isLt
        show pc.toNat / 64 ≤ 2
        omega
  · exact nomatch h

theorem freshnessLimit_eq {n : Nat} (few : n ≤ 2) (parked : Bool) :
    freshnessLimit n parked = 3 * (100000 * 2 ^ n) * (if parked then 8 else 1) := by
  unfold freshnessLimit
  rw [Nat.mul_assoc 3, periodMs_eq few]

section
variable {b : Beacon} {c : Claim} {r : State} {kept : List Peer} {e : ClaimEntry}

theorem seated_stands (member : c ∈ b.claims) (hold : c.kind = .hold) : holdStands (seated b kept r) c.zone = true := by
  unfold holdStands
  refine List.any_eq_true.mpr ⟨_, List.mem_append_right _ (List.mem_singleton_self _), ?_⟩
  exact List.any_eq_true.mpr ⟨c, member, by simp [hold]⟩

theorem seated_blocked (member : c ∈ b.claims) (hold : c.kind = .hold) (zone : c.zone = e.zone) :
    isBlocked (seated b kept r) e = true := by
  unfold isBlocked
  rw [Bool.or_eq_true]
  refine .inr (List.any_eq_true.mpr ⟨_, List.mem_append_right _ (List.mem_singleton_self _), ?_⟩)
  exact List.any_eq_true.mpr ⟨c, member, by simp [hold, zone]⟩

end

/-- Settles O33: what an accepted beacon changes. -/
theorem beaconAccepted : Obligations.BeaconAccepted := by
  unfold Obligations.BeaconAccepted
  intro s d frame rest b kept held running due queue parsed other table fits keeps
  have claims := (parseBeacon_fits parsed).2
  obtain ⟨r, ready⟩ : ∃ r, r = setRadio { s.radio with queue := rest } (takeReady d s) := ⟨_, rfl⟩
  have run := exec_takeFrame held running due queue
  rw [← ready] at run
  have peersR : r.table.peers = s.table.peers := by rw [ready]; rfl
  have zonesR : ownZones r = ownZones s := by rw [ready]; rfl
  have keepsR : Keeps b r kept := by
    unfold Keeps
    rw [peersR, zonesR]
    exact keeps
  obtain ⟨zones, content, handed⟩ := takeContent_accepts parsed (by rw [ready]; exact other) (peersR ▸ table.2.1) keepsR
  rw [content] at run
  obtain ⟨p, seat⟩ : ∃ p, p = seated b kept r := ⟨_, rfl⟩
  rw [← seat] at run
  have inner := windowTakes_inner b zones p
  have window : p.window = s.window := by rw [seat, ready]; rfl
  have auth : p.auth = s.auth := by rw [seat, ready]; rfl
  have port : p.port = s.port := by rw [seat, ready]; rfl
  have now : p.now = max s.now d := by rw [seat, ready]; rfl
  have tableP : p.table = { s.table with
      nextTake := some (d + 4000), peers := kept ++ [b.peer (ownZones s) (max s.now d)] } := by
    rw [seat, ← zonesR, ready]
    rfl
  have fitsP : windowFits p.window := by rw [window]; exact fits
  have holdOn {e : ClaimEntry} {c : Claim} (member : c ∈ b.claims) (hold : c.kind = .hold) (zone : c.zone = e.zone)  :
      holdStands p e.zone = true ∧ isBlocked p e = true := by
    rw [seat, ← zone]
    exact ⟨seated_stands member hold, seated_blocked member hold zone⟩
  refine ⟨_, run, ?_, ?_, ?_, ?_, ?_, ?_, ?_, ?_, ?_, fun z heldZ free => ?_, fun e among c member hold zone =>
    ⟨fun announced new => ?_, fun heldE first => ?_⟩⟩
  · rw [finish_now, inner.now, now]
  · dsimp only
    rw [finish_table_flags, inner.table, tableP, ← freshnessLimit_eq (parseBeacon_period parsed) b.parked]
    generalize finish (windowTakes b zones p) = u
    rw [List.map_append, List.map_append]
    rfl
  · rw [finish_radio, inner.radio, seat, ready]
    rfl
  · rw [finish_route, inner.route, seat, ready]
    rfl
  · rw [finish_odo, inner.odo, seat, ready]
    rfl
  · rw [finish_station, inner.station, seat, ready]
    rfl
  · have same := finish_profilesKept inner.profilesKept
    unfold profilesKept at same ⊢
    rw [auth] at same
    exact same
  · have same := inner.finish_portKept
    unfold portKept at same ⊢
    rw [port] at same
    exact same
  · rw [finish_window, inner.standing, window]
  · rw [isHeld_congr (s := windowTakes b zones p) (by rw [finish_window])]
    refine windowTakes_holds fitsP ?_ free
    rw [isHeld_congr (s := s) (by rw [window])]
    exact heldZ
  · rw [finish_window, isHeld_congr (s := windowTakes b zones p) (t := finish _) (by rw [finish_window]), finish_auth]
    obtain ⟨stands, blocked⟩ := holdOn member hold zone
    have outcome := windowTakes_stops (b := b) fitsP (window ▸ among) ⟨announced, blocked, stands⟩
      (zone ▸ handed c member (by rw [peersR]; exact new))
    rw [auth, now, show frontZones p = frontZones s by rw [seat, ready]; rfl] at outcome
    exact outcome
  · dsimp only
    rw [finish_window, finish_auth]
    have number : p.ownNumber = s.ownNumber := by rw [seat, ready]; rfl
    have own : (e.committed || (s.isCarrier && commitPasses s e)) = ownMark p e := by rw [seat, ready]; rfl
    have firstP : e.first = firstNeeding e.zone p.route.cells := by
      rw [first, seat, ready]
      rfl
    rw [own, ← number, ← now]
    have amongP : e ∈ p.window.entries := window ▸ among
    have marked := windowTakes_commits (zones := zones) fitsP claims amongP heldE member hold zone
    have unmarked (bare : ownMark p e = false) := windowTakes_unmarked (zones := zones) fitsP claims amongP heldE member
      hold zone firstP bare (holdOn member hold zone).1 (holdOn (e := e.yieldTo p.now) member hold zone).2
    refine ⟨fun mark => (marked mark).1, fun mark => (marked mark).2, fun bare => (unmarked bare).1,
      fun bare above => ?_⟩
    rw [(Bool.or_eq_false_iff.mp bare).1]
    exact (unmarked bare).2 above

end Sys2Proof.Machine
end

section
/-! O51: the layout of what goes out. -/

namespace Sys2Proof.Machine

-- One proof after another: many at a time want more threads than the memory limit of a build leaves.
set_option Elab.async false

/-! ### Fields (R181) -/

theorem beBytes_two (v : Nat) : beBytes 2 v = [byteOf (v / 256), byteOf v] := by
  simp [beBytes, byteOf]

theorem beBytes_three (v : Nat) : beBytes 3 v = [byteOf (v / 65536), byteOf (v / 256), byteOf v] := by
  simp [beBytes, byteOf]

theorem beBytes_four (v : Nat) : beBytes 4 v = [byteOf (v / 16777216), byteOf (v / 65536), byteOf (v / 256), byteOf v] := by
  simp [beBytes, byteOf]

theorem unsignedField_length (n v : Nat) : (unsignedField n v).length = n := by
  unfold unsignedField
  split <;> exact beBytes_length n _

theorem signedField_length (n : Nat) (v : Int) : (signedField n v).length = n := by
  unfold signedField
  dsimp only
  split <;> exact beBytes_length n _

theorem unsignedField_bytes {v : Nat} (fits : v < 65536) : unsignedField 2 v = [byteOf (v / 256), byteOf v] := by
  rw [unsignedField_two fits, beBytes_two]

theorem signedField_four {x : Int} (fits : -2147483648 ≤ x ∧ x < 2147483648) :
    signedField 4 x = beBytes 4 (x % 4294967296).toNat := if_pos fits

theorem signedField_two {x : Int} (low : -32768 ≤ x) (high : x < 32768) : signedField 2 x = beBytes 2 (x % 65536).toNat :=
  if_pos ⟨low, high⟩

/-! ### Names (R181, R183) -/

theorem classCode_eq (cls : StationClass) : classCode cls = boolBit (decide (cls = .fixed)) 1 := by cases cls <;> rfl

theorem boolBit_mul (b : Bool) (n w : Nat) : boolBit b n * w = boolBit b (n * w) := by cases b <;> simp [boolBit]

theorem channelCode_eq (ch : Channel) : ch.code = boolBit (decide (ch = .b)) 1 := by cases ch <;> rfl

theorem crcBytes_eq (bs : List Byte) : crcBytes bs = [byteOf ((crc16 bs).toNat / 256), byteOf (crc16 bs).toNat] :=
  beBytes_two _

theorem refuse_code : ∀ {k : Nat} {code : RefuseCode},
    [RefuseCode.badKind, .badLength, .badState, .wrongClass, .routeFull, .badCell, .unknownCell, .unknownZone, .notStopped,
      .notParked, .stillConflict, .notConflict, .occupied, .notGranted][k]? = some code → code.code = k + 1 := by
  intro k code found
  match k, found with
  | 0, rfl | 1, rfl | 2, rfl | 3, rfl | 4, rfl | 5, rfl | 6, rfl | 7, rfl | 8, rfl | 9, rfl | 10, rfl | 11, rfl | 12, rfl
  | 13, rfl => rfl

/-! ### Frames and messages -/

theorem claim_bits (c : Claim) : beBytes 3 c.bits =
    (let n := c.zone * 4096 + boolBit (decide (c.kind = .hold)) 2048 + boolBit c.committed 1024 + c.urgency * 256 + c.wait
     [byteOf (n / 65536), byteOf (n / 256), byteOf n]) := beBytes_three _

theorem statusPayload_length (s : State) : (statusPayload s).length = 37 + 3 * s.window.entries.length := by
  have reports : (s.window.entries.flatMap ClaimEntry.report).length = 3 * s.window.entries.length := by
    induction s.window.entries with
    | nil => rfl
    | cons e es ih =>
      rw [List.flatMap_cons, List.length_append, ih, List.length_cons]
      unfold ClaimEntry.report
      rw [List.length_append, unsignedField_length, List.length_singleton]
      omega
  unfold statusPayload
  simp only [List.length_append, List.length_cons, List.length_nil, unsignedField_length, signedField_length, reports]

theorem report_bytes {e : ClaimEntry} (fits : e.zone < 65536) :
    e.report = [byteOf (e.zone / 256), byteOf e.zone] ++ [byteOf (e.state.code + boolBit e.committed 8)] := by
  unfold ClaimEntry.report
  rw [unsignedField_bytes fits]

/-- Settles O51. -/
theorem outgoingLayouts : Obligations.OutgoingLayouts := by
  unfold Obligations.OutgoingLayouts
  intro two four fits one
  refine ⟨fun kind payload => ?_, fun b => ?_, fun kind payload => ⟨rfl, fun k code found => ?_⟩, ?_, fun s => ?_⟩
  · exact congrArg (fun t => 0xC3#8 :: (_ ++ t)) (crcBytes_eq _)
  · have body : b.body = two (b.station * 16 + one (decide (b.cls = .fixed)) 8 + one b.fresh 4 + one b.parked 2) ++
        two b.seq ++ [byteOf (b.periodCode * 64 + b.claims.length * 4)] ++ b.claims.flatMap (fun c => beBytes 3 c.bits) := by
      unfold Beacon.body
      rw [classCode_eq, boolBit_mul, beBytes_two, beBytes_two]
      rfl
    dsimp only
    unfold Beacon.frame
    dsimp only
    rw [body, crcBytes_eq, funext claim_bits]
    rfl
  · show kind :: 1#8 :: byteOf code.code :: payload = _
    rw [refuse_code found]
  · intro z n m q d x h e cls grade ch why off fz fn fm fq fd fx fh low high
    have four_eq {x : Int} (h : fits x) : signedField 4 x = four x := (signedField_four h).trans (beBytes_four _)
    have two_eq {v : Nat} (h : v < 65536) : unsignedField 2 v = two v := unsignedField_bytes h
    have short : signedField 2 e = two (e % 65536).toNat := (signedField_two low high).trans (beBytes_two _)
    simp only [Notice.payload, two_eq fz, two_eq fn, two_eq fm, two_eq fq, two_eq fd, four_eq fx, four_eq fh, short,
      classCode_eq, channelCode_eq]
    refine ⟨rfl, rfl, rfl, rfl, rfl, rfl, ?_, ?_, rfl, rfl, rfl, rfl, rfl, rfl, ?_⟩
    · cases grade <;> rfl
    · cases why <;> rfl
    · cases off <;> rfl
  · refine ⟨rfl, statusPayload_length s, fun fs fh fv fc cells counts zones => ?_⟩
    have four_eq {x : Int} (h : fits x) : signedField 4 x = four x := (signedField_four h).trans (beBytes_four _)
    have two_eq {v : Nat} (h : v < 65536) : unsignedField 2 v = two v := unsignedField_bytes h
    obtain ⟨bad, queue, beacon, port, strays⟩ := counts
    have ident {c : Option StoredCell} (stored : ∀ x, c = some x → x ∈ s.route.cells) :
        (c.map (fun c => c.cell.ident)).getD 0 < 65536 := by
      cases c with
      | none => exact Nat.zero_lt_succ _
      | some x => exact cells x (stored x rfl)
    have rear := ident fun x (is : s.route.cells.head? = some x) => List.mem_of_head? is
    have front := ident fun x (is : frontCell s = some x) => List.mem_of_mem_drop (List.mem_of_head? is)
    have reports : s.window.entries.flatMap ClaimEntry.report = s.window.entries.flatMap (fun e =>
        two e.zone ++ [byteOf ((match e.state with
            | .queued => 0
            | .announced => 1
            | .waiting => 2
            | .held => 3
            | .releasing => 4) + one e.committed 8)]) := by
      refine flatMap_congr fun e member => (report_bytes (zones e member)).trans ?_
      cases e.state <;> rfl
    have state : byteOf s.station.state.code = (match s.station.state with
          | .boot => 0#8
          | .configFault => 1#8
          | .listen => 2#8
          | .active => 3#8
          | .parked => 4#8) := by cases s.station.state <;> rfl
    have cause : byteOf s.station.cause.code = (match s.station.cause with
          | .powerOn => 0#8
          | .resetLine => 1#8
          | .restartCommand => 2#8) := by cases s.station.cause <;> rfl
    have quality : byteOf s.odo.quality.code = (match s.odo.quality with
          | .good => 0#8
          | .doubt => 1#8
          | .lost => 2#8) := by cases s.odo.quality <;> rfl
    have load : byteOf s.auth.active.code = (match s.auth.active with
          | .unladen => 0#8
          | .laden => 1#8
          | .ladenHigh => 2#8) := by cases s.auth.active <;> rfl
    have class_ : classCode s.cls = one (!s.isCarrier) 1 := by
      unfold State.isCarrier
      cases s.cls <;> rfl
    unfold statusPayload
    rw [four_eq fs, four_eq fh, two_eq fv, two_eq fc, two_eq rear, two_eq front, two_eq (Nat.lt_succ_of_le bad),
      two_eq (Nat.lt_succ_of_le queue), two_eq (Nat.lt_succ_of_le beacon), two_eq (Nat.lt_succ_of_le port),
      two_eq (Nat.lt_succ_of_le strays), reports, class_,
      state, cause, quality, load, List.append_assoc _ [_] _]
    rfl

end Sys2Proof.Machine
end

section
/-! The route cell records, read back as they are laid out. -/

namespace Sys2Proof.Machine

-- One proof after another: many at a time want more threads than the memory limit of a build leaves.
set_option Elab.async false

/-! ### Numbers of two and of four bytes (R181) -/

theorem word16_lt (hi lo : Byte) : word16 hi lo < 65536 := by
  have h := hi.isLt
  have l := lo.isLt
  unfold word16
  omega

theorem byteOf_toNat_eq (b : Byte) {n : Nat} (same : n % 256 = b.toNat) : byteOf n = b :=
  BitVec.eq_of_toNat_eq (by rw [← same]; rfl)

theorem word16_high (hi lo : Byte) : byteOf (word16 hi lo / 256) = hi := by
  have h := hi.isLt
  have l := lo.isLt
  exact byteOf_toNat_eq hi (by unfold word16; omega)

theorem word16_low (hi lo : Byte) : byteOf (word16 hi lo) = lo := by
  have l := lo.isLt
  exact byteOf_toNat_eq lo (by unfold word16; omega)

theorem beBytes_word16 (hi lo : Byte) : beBytes 2 (word16 hi lo) = [hi, lo] := by
  rw [beBytes_two, word16_high, word16_low]

theorem word16_byteOf {v : Nat} (fits : v < 65536) : word16 (byteOf (v / 256)) (byteOf v) = v := by
  show (v / 256) % 256 * 256 + v % 256 = v
  omega

theorem signed32_range (a b c d : Byte) : -2147483648 ≤ signed32 a b c d ∧ signed32 a b c d < 2147483648 := by
  have h := word16_lt a b
  have l := word16_lt c d
  unfold signed32
  dsimp only
  split <;> omega

theorem signedField_signed32 (a b c d : Byte) : signedField 4 (signed32 a b c d) = [a, b, c, d] := by
  have ha := a.isLt
  have hb := b.isLt
  have hc := c.isLt
  have hd := d.isLt
  have whole : (signed32 a b c d % 4294967296).toNat = word16 a b * 65536 + word16 c d := by
    unfold signed32 word16
    dsimp only
    split <;> omega
  rw [signedField_four (signed32_range a b c d), whole, beBytes_four]
  unfold word16
  rw [byteOf_toNat_eq a (by omega), byteOf_toNat_eq b (by omega), byteOf_toNat_eq c (by omega), byteOf_toNat_eq d (by omega)]

theorem signed32_signedField {x : Int} (fits : -2147483648 ≤ x ∧ x < 2147483648) : ∃ a b c d, signedField 4 x = [a, b, c, d] ∧ signed32 a b c d = x := by
  refine ⟨_, _, _, _, (signedField_four fits).trans (beBytes_four _), ?_⟩
  generalize is : (x % 4294967296).toNat = n
  show (let m := (n / 16777216 % 256 * 256 + n / 65536 % 256) * 65536 + (n / 256 % 256 * 256 + n % 256)
    if m < 2147483648 then (m : Int) else (m : Int) - 4294967296) = x
  dsimp only
  split <;> omega

/-! ### Words, markers and the stop point -/

theorem takeWords_bytes (rest : List Byte) : ∀ {ws : List Nat} (_ : ∀ w ∈ ws, w < 65536),
    takeWords ws.length (ws.flatMap (beBytes 2) ++ rest) = some (ws, rest)
  | [], _ => rfl
  | w :: ws, fit => by
    rw [List.flatMap_cons, beBytes_two, List.append_assoc]
    show takeWords (ws.length + 1) (_ :: _ :: (ws.flatMap (beBytes 2) ++ rest)) = _
    rw [takeWords, takeWords_bytes rest fun x hx => fit x (List.mem_cons_of_mem w hx)]
    dsimp only
    rw [word16_byteOf (fit w List.mem_cons_self)]

theorem takeWords_some : ∀ {n : Nat} {bs : List Byte} {ws : List Nat} {rest : List Byte}
    (_ : takeWords n bs = some (ws, rest)),
    ws.length = n ∧ (∀ w ∈ ws, w < 65536) ∧ bs = ws.flatMap (beBytes 2) ++ rest
  | 0, bs, ws, rest, taken => by
    obtain ⟨rfl, rfl⟩ := Prod.mk.inj (Option.some.inj taken)
    exact ⟨rfl, nofun, rfl⟩
  | n + 1, hi :: lo :: bs, ws, rest, taken => by
    rw [takeWords] at taken
    split at taken
    · rename_i tail
      obtain ⟨rfl, rfl⟩ := Prod.mk.inj (Option.some.inj taken)
      obtain ⟨length, fit, rfl⟩ := takeWords_some tail
      refine ⟨congrArg (· + 1) length, fun w member => ?_, ?_⟩
      · obtain rfl | later := List.mem_cons.mp member
        · exact word16_lt hi lo
        · exact fit w later
      · rw [List.flatMap_cons, beBytes_word16]
        rfl
    · exact nomatch taken
  | n + 1, [], _, _, taken => nomatch taken
  | n + 1, [_], _, _, taken => nomatch taken

/-- A marker entry's four bytes. -/
def markerBytes (m : Marker) : List Byte := beBytes 2 m.ident ++ beBytes 2 m.offset

/-- A marker whose numbers fit their fields. -/
def MarkerFits (m : Marker) : Prop := m.ident < 65536 ∧ m.offset < 65536

theorem takeMarkers_bytes (rest : List Byte) : ∀ {ms : List Marker} (_ : ∀ m ∈ ms, MarkerFits m),
    takeMarkers ms.length (ms.flatMap markerBytes ++ rest) = some (ms, rest)
  | [], _ => rfl
  | m :: ms, fit => by
    obtain ⟨ident, offset⟩ := fit m List.mem_cons_self
    rw [List.flatMap_cons, markerBytes, beBytes_two, beBytes_two, List.append_assoc]
    show takeMarkers (ms.length + 1) (_ :: _ :: _ :: _ :: (ms.flatMap markerBytes ++ rest)) = _
    rw [takeMarkers, takeMarkers_bytes rest fun x hx => fit x (List.mem_cons_of_mem m hx)]
    dsimp only
    rw [word16_byteOf ident, word16_byteOf offset]

theorem takeMarkers_some : ∀ {n : Nat} {bs : List Byte} {ms : List Marker} {rest : List Byte}
    (_ : takeMarkers n bs = some (ms, rest)),
    ms.length = n ∧ (∀ m ∈ ms, MarkerFits m) ∧ bs = ms.flatMap markerBytes ++ rest
  | 0, bs, ms, rest, taken => by
    obtain ⟨rfl, rfl⟩ := Prod.mk.inj (Option.some.inj taken)
    exact ⟨rfl, nofun, rfl⟩
  | n + 1, i1 :: i0 :: o1 :: o0 :: bs, ms, rest, taken => by
    rw [takeMarkers] at taken
    split at taken
    · rename_i tail
      obtain ⟨rfl, rfl⟩ := Prod.mk.inj (Option.some.inj taken)
      obtain ⟨length, fit, rfl⟩ := takeMarkers_some tail
      refine ⟨congrArg (· + 1) length, fun m member => ?_, ?_⟩
      · obtain rfl | later := List.mem_cons.mp member
        · exact ⟨word16_lt i1 i0, word16_lt o1 o0⟩
        · exact fit m later
      · rw [List.flatMap_cons, markerBytes, beBytes_word16, beBytes_word16]
        rfl
    · exact nomatch taken
  | n + 1, [], _, _, taken => nomatch taken
  | n + 1, [_], _, _, taken => nomatch taken
  | n + 1, [_, _], _, _, taken => nomatch taken
  | n + 1, [_, _, _], _, _, taken => nomatch taken

/-- The bytes of a stop point. -/
def stopBytes (stop : Option Nat) : List Byte := (stop.map (beBytes 2)).getD []

theorem takeStop_bytes {stop : Option Nat} (rest : List Byte) (fit : ∀ o, stop = some o → o < 65536) :
    takeStop stop.isSome (stopBytes stop ++ rest) = some (stop, rest) := by
  cases stop with
  | none => rfl
  | some o =>
    show takeStop true (beBytes 2 o ++ rest) = _
    rw [beBytes_two]
    show some (some (word16 _ _), rest) = _
    rw [word16_byteOf (fit o rfl)]

theorem takeStop_some {present : Bool} {bs : List Byte} {stop : Option Nat} {rest : List Byte}
    (taken : takeStop present bs = some (stop, rest)) :
    stop.isSome = present ∧ (∀ o, stop = some o → o < 65536) ∧ bs = stopBytes stop ++ rest := by
  cases present with
  | false =>
    obtain ⟨rfl, rfl⟩ := Prod.mk.inj (Option.some.inj taken)
    exact ⟨rfl, nofun, rfl⟩
  | true =>
    match bs, taken with
    | hi :: lo :: bs, taken =>
      obtain ⟨rfl, rfl⟩ := Prod.mk.inj (Option.some.inj taken)
      refine ⟨rfl, fun o is => Option.some.inj is ▸ word16_lt hi lo, ?_⟩
      show _ = beBytes 2 (word16 hi lo) ++ bs
      rw [beBytes_word16]
      rfl

/-! ### Cells (R183) -/

/-- A cell whose fields fit its record. -/
def Laid (c : RouteCell) : Prop :=
  c.ident < 65536 ∧ c.length < 65536 ∧ c.limit < 65536 ∧ c.urgency ≤ 3 ∧ (∀ o, c.stop = some o → o < 65536) ∧
    c.zones.length ≤ 3 ∧ (∀ z ∈ c.zones, z < 65536) ∧ c.markers.length ≤ 7 ∧ ∀ m ∈ c.markers, MarkerFits m

theorem record_append (c : RouteCell) (rest : List Byte) : c.record ++ rest =
    byteOf (c.ident / 256) :: byteOf c.ident :: byteOf (c.length / 256) :: byteOf c.length ::
      byteOf (c.limit / 256) :: byteOf c.limit ::
      byteOf (c.urgency * 64 + boolBit c.stop.isSome 32 + c.zones.length * 8 + c.markers.length) ::
      (stopBytes c.stop ++ (c.zones.flatMap (beBytes 2) ++ (c.markers.flatMap markerBytes ++ rest))) := by
  unfold RouteCell.record
  rw [beBytes_two, beBytes_two, beBytes_two]
  simp only [List.append_assoc]
  rfl

theorem getLsbD_five (b : Byte) : boolBit (b.getLsbD 5) 32 = b.toNat / 32 % 2 * 32 := by
  revert b
  decide

theorem boolBit_either (b : Bool) (w : Nat) : boolBit b w = 0 ∨ boolBit b w = w := by
  cases b
  · exact .inl rfl
  · exact .inr rfl

theorem boolBit_inj {a b : Bool} {w : Nat} (some : 0 < w) (same : boolBit a w = boolBit b w) : a = b := by
  cases a <;> cases b <;> simp_all [boolBit]

theorem takeCell_record {c : RouteCell} (laid : Laid c) (rest : List Byte) : takeCell (c.record ++ rest) = some (c, rest) := by
  obtain ⟨ident, length, limit, urgency, stop, fewZones, zones, fewMarkers, markers⟩ := laid
  rw [record_append]
  have bits := boolBit_either c.stop.isSome 32
  generalize is : byteOf (c.urgency * 64 + boolBit c.stop.isSome 32 + c.zones.length * 8 + c.markers.length) = b
  have value : b.toNat = c.urgency * 64 + boolBit c.stop.isSome 32 + c.zones.length * 8 + c.markers.length := by
    rw [← is]
    refine Nat.mod_eq_of_lt ?_
    omega
  have present : b.getLsbD 5 = c.stop.isSome := by
    refine boolBit_inj (w := 32) (by decide) ((getLsbD_five b).trans ?_)
    omega
  rw [takeCell, present, takeStop_bytes _ stop]
  dsimp only
  rw [show b.toNat / 8 % 4 = c.zones.length by omega, takeWords_bytes _ zones]
  dsimp only
  rw [show b.toNat % 8 = c.markers.length by omega, takeMarkers_bytes _ markers]
  dsimp only
  rw [word16_byteOf ident, word16_byteOf length, word16_byteOf limit, show b.toNat / 64 = c.urgency by omega]

theorem takeCell_some {bs : List Byte} {c : RouteCell} {rest : List Byte} (taken : takeCell bs = some (c, rest)) :
    Laid c ∧ bs = c.record ++ rest := by
  unfold takeCell at taken
  split at taken
  · rename_i c1 c0 l1 l0 v1 v0 b bs
    split at taken
    · exact nomatch taken
    · rename_i stop bs₁ stopTaken
      split at taken
      · exact nomatch taken
      · rename_i zones bs₂ zonesTaken
        split at taken
        · exact nomatch taken
        · rename_i markers bs₃ markersTaken
          obtain ⟨rfl, rfl⟩ := Prod.mk.inj (Option.some.inj taken)
          obtain ⟨present, fitStop, rfl⟩ := takeStop_some stopTaken
          obtain ⟨zoneCount, fitZones, rfl⟩ := takeWords_some zonesTaken
          obtain ⟨markerCount, fitMarkers, rfl⟩ := takeMarkers_some markersTaken
          have small := b.isLt
          refine ⟨⟨word16_lt c1 c0, word16_lt l1 l0, word16_lt v1 v0, ?_, fitStop, ?_, fitZones, ?_, fitMarkers⟩, ?_⟩
          · show b.toNat / 64 ≤ 3
            omega
          · show zones.length ≤ 3
            omega
          · show markers.length ≤ 7
            omega
          · rw [record_append]
            dsimp only
            rw [present, getLsbD_five, zoneCount, markerCount, word16_high, word16_low, word16_high, word16_low, word16_high,
              word16_low, byteOf_toNat_eq b (by omega)]
  · exact nomatch taken

theorem takeCells_iff : ∀ {n : Nat} {bs : List Byte} {cells : List RouteCell}, takeCells n bs = some cells ↔
    cells.length = n ∧ (∀ c ∈ cells, Laid c) ∧ bs = cells.flatMap RouteCell.record
  | 0, [], cells => by
    refine ⟨fun taken => ?_, fun ⟨length, _, _⟩ => ?_⟩
    · obtain rfl := Option.some.inj taken
      exact ⟨rfl, nofun, rfl⟩
    · rw [List.length_eq_zero_iff.mp length]
      rfl
  | 0, _ :: _, cells => by
    refine ⟨nofun, fun ⟨length, _, bytes⟩ => ?_⟩
    rw [List.length_eq_zero_iff.mp length] at bytes
    exact nomatch bytes
  | n + 1, bs, cells => by
    rw [takeCells]
    refine ⟨fun taken => ?_, fun ⟨length, laid, bytes⟩ => ?_⟩
    · split at taken
      · exact nomatch taken
      · rename_i c rest cell
        obtain ⟨laidCell, rfl⟩ := takeCell_some cell
        split at taken
        · rename_i cs tail
          obtain rfl := Option.some.inj taken
          obtain ⟨length, laid, rfl⟩ := takeCells_iff.mp tail
          exact ⟨congrArg (· + 1) length, List.forall_mem_cons.mpr ⟨laidCell, laid⟩, rfl⟩
        · exact nomatch taken
    · obtain ⟨c, cs, rfl⟩ := List.exists_cons_of_length_eq_add_one length
      obtain ⟨laidCell, laidRest⟩ := List.forall_mem_cons.mp laid
      rw [bytes, List.flatMap_cons, takeCell_record laidCell]
      dsimp only
      rw [takeCells_iff.mpr ⟨Nat.succ.inj length, laidRest, rfl⟩]

end Sys2Proof.Machine
end

section
/-! O50: what is sent and laid out is read back as it was. -/

namespace Sys2Proof.Machine

-- One proof after another: many at a time want more threads than the memory limit of a build leaves.
set_option Elab.async false

/-! ### ROUTE_APPEND and START_POSITION (R9, R176) -/

theorem count_byte {n : Nat} {b : Byte} (small : n ≤ 8) : b.toNat = n ↔ b = byteOf n :=
  ⟨fun same => (byteOf_toNat_eq b (by omega)).symm, fun is => is ▸ Nat.mod_eq_of_lt (show n < 256 by omega)⟩

theorem parseAppend_iff {cells : List RouteCell} {payload : List Byte} : parseAppend payload = some cells ↔
    (∀ c ∈ cells, Laid c) ∧ 1 ≤ cells.length ∧ cells.length ≤ 8 ∧
      payload = byteOf cells.length :: cells.flatMap RouteCell.record := by
  refine ⟨fun parsed => ?_, fun ⟨laid, one, few, bytes⟩ => ?_⟩
  · obtain ⟨one, few⟩ := parseAppend_length parsed
    unfold parseAppend at parsed
    split at parsed
    · exact nomatch parsed
    · rename_i n bs
      split at parsed
      · obtain ⟨length, laid, rfl⟩ := takeCells_iff.mp parsed
        exact ⟨laid, one, few, by rw [(count_byte few).mp length.symm]⟩
      · exact nomatch parsed
  · have count : (byteOf cells.length).toNat = cells.length := (count_byte few).mpr rfl
    rw [bytes, parseAppend, count, if_pos ⟨one, few⟩]
    exact takeCells_iff.mpr ⟨rfl, laid, rfl⟩

theorem parseStart_iff {cells : List RouteCell} {x : Int} {payload : List Byte} : parseStart payload = some (x, cells) ↔
    (∀ c ∈ cells, Laid c) ∧ 1 ≤ cells.length ∧ cells.length ≤ 4 ∧ -2147483648 ≤ x ∧ x < 2147483648 ∧
      payload = byteOf cells.length :: (signedField 4 x ++ cells.flatMap RouteCell.record) := by
  refine ⟨fun parsed => ?_, fun ⟨laid, one, few, low, high, bytes⟩ => ?_⟩
  · obtain ⟨one, few⟩ := parseStart_length parsed
    unfold parseStart at parsed
    split at parsed
    · rename_i n a b c d bs
      split at parsed
      · split at parsed
        · rename_i cs taken
          obtain ⟨rfl, rfl⟩ := Prod.mk.inj (Option.some.inj parsed)
          obtain ⟨length, laid, rfl⟩ := takeCells_iff.mp taken
          obtain ⟨low, high⟩ := signed32_range a b c d
          refine ⟨laid, one, few, low, high, ?_⟩
          rw [signedField_signed32, (count_byte (Nat.le_trans few (by decide))).mp length.symm]
          rfl
        · exact nomatch parsed
      · exact nomatch parsed
    · exact nomatch parsed
  · have count : (byteOf cells.length).toNat = cells.length := (count_byte (Nat.le_trans few (by decide))).mpr rfl
    obtain ⟨a, b, c, d, field, number⟩ := signed32_signedField ⟨low, high⟩
    rw [bytes, field]
    show parseStart (byteOf cells.length :: a :: b :: c :: d :: cells.flatMap RouteCell.record) = _
    rw [parseStart, count, if_pos ⟨one, few⟩, takeCells_iff.mpr ⟨rfl, laid, rfl⟩, number]

/-! ### STAND_CLAIM (R147) -/

/-- A standing claim's three bytes. -/
def standingBytes (r : Standing) : List Byte := beBytes 2 r.zone ++ [byteOf r.urgency]

theorem takeStanding_bytes : ∀ {rs : List Standing} (_ : ∀ r ∈ rs, r.zone < 65536 ∧ r.urgency < 256),
    takeStanding rs.length (rs.flatMap standingBytes) = some rs
  | [], _ => rfl
  | r :: rs, fit => by
    obtain ⟨⟨zone, urgency⟩, rest⟩ := List.forall_mem_cons.mp fit
    rw [List.flatMap_cons, standingBytes, beBytes_two]
    show takeStanding (rs.length + 1) (_ :: _ :: _ :: rs.flatMap standingBytes) = _
    rw [takeStanding, takeStanding_bytes rest, word16_byteOf zone,
      show (byteOf r.urgency).toNat = r.urgency from Nat.mod_eq_of_lt urgency]

theorem takeStanding_some : ∀ {n : Nat} {bs : List Byte} {rs : List Standing} (_ : takeStanding n bs = some rs),
    bs = rs.flatMap standingBytes
  | 0, [], rs, taken => by
    obtain rfl := Option.some.inj taken
    rfl
  | n + 1, z1 :: z0 :: u :: bs, rs, taken => by
    rw [takeStanding] at taken
    split at taken
    · rename_i tail
      obtain rfl := Option.some.inj taken
      rw [takeStanding_some tail, List.flatMap_cons, standingBytes, beBytes_word16, byteOf_toNat_eq u (Nat.mod_eq_of_lt u.isLt)]
      rfl
    · exact nomatch taken
  | 0, _ :: _, _, taken => nomatch taken
  | n + 1, [], _, taken => nomatch taken
  | n + 1, [_], _, taken => nomatch taken
  | n + 1, [_, _], _, taken => nomatch taken

theorem parseStanding_iff {rs : List Standing} {payload : List Byte} : parseStanding payload = some rs ↔
    1 ≤ rs.length ∧ rs.length ≤ 8 ∧ (∀ r ∈ rs, 1 ≤ r.zone ∧ r.zone ≤ 4095 ∧ r.urgency ≤ 3) ∧
      (rs.map Standing.zone).Nodup ∧ payload = byteOf rs.length :: rs.flatMap standingBytes := by
  refine ⟨fun parsed => ?_, fun ⟨one, few, ranges, differ, bytes⟩ => ?_⟩
  · obtain ⟨one, few, ranges, differ⟩ := parseStanding_fits parsed
    refine ⟨one, few, ranges, differ, ?_⟩
    unfold parseStanding at parsed
    split at parsed
    · exact nomatch parsed
    · split at parsed
      · split at parsed
        · rename_i taken
          split at parsed
          · obtain rfl := Option.some.inj parsed
            rw [takeStanding_some taken, (count_byte few).mp (takeStanding_length taken).symm]
          · exact nomatch parsed
        · exact nomatch parsed
      · exact nomatch parsed
  · have count : (byteOf rs.length).toNat = rs.length := (count_byte few).mpr rfl
    have taken : takeStanding rs.length (rs.flatMap standingBytes) = some rs := takeStanding_bytes fun r member => by
      obtain ⟨-, zone, urgency⟩ := ranges r member
      exact ⟨Nat.lt_of_le_of_lt zone (by decide), Nat.lt_of_le_of_lt urgency (by decide)⟩
    rw [bytes, parseStanding, count, if_pos ⟨one, few⟩, taken]
    refine if_pos ?_
    rw [Bool.and_eq_true, noRepeat_iff]
    exact ⟨List.all_eq_true.mpr fun r member => by simpa [and_assoc] using ranges r member, differ⟩

/-! ### The beacon frame (R46, R50, R182) -/

/-- A claim as it is stored: a REQ without its committed mark (R46). -/
def Claim.stored (c : Claim) : Claim := if c.kind = .req then { c with committed := false } else c

theorem Claim.ofBits_sendable {v : Nat} (zone : (Claim.ofBits v).zone ≠ 0) : (Claim.ofBits v).sendable := by
  have some : v / 4096 % 4096 ≠ 0 := zone
  refine ⟨?_, ?_, ?_, ?_, ?_⟩
  · show 1 ≤ v / 4096 % 4096
    omega
  · show v / 4096 % 4096 ≤ 4095
    omega
  · show v / 256 % 4 ≤ 3
    omega
  · show v % 256 ≤ 255
    omega
  · unfold Claim.ofBits
    dsimp only
    split
    · exact nofun
    · rename_i req
      exact fun _ => by simp [req]

theorem boolBit_eq (b : Bool) (w : Nat) : boolBit b w = b.toNat * w := by cases b <;> simp [boolBit]

theorem Claim.ofBits_bits {c : Claim} (sendable : c.stored.sendable) :
    c.bits < 16777216 ∧ Claim.ofBits c.bits = c.stored := by
  obtain ⟨zone, kind, committed, urgency, wait⟩ := c
  have fields : zone ≤ 4095 ∧ urgency ≤ 3 ∧ wait ≤ 255 := by
    obtain ⟨-, zones, urgencies, waits, -⟩ := sendable
    cases kind <;> exact ⟨zones, urgencies, waits⟩
  obtain ⟨fitZone, fitUrgency, fitWait⟩ := fields
  have hold := Bool.toNat_le (decide (kind = .hold))
  have mark := Bool.toNat_le committed
  have bits : Claim.bits ⟨zone, kind, committed, urgency, wait⟩ = zone * 4096 + (decide (kind = .hold)).toNat * 2048 +
      committed.toNat * 1024 + urgency * 256 + wait := by
    simp only [Claim.bits, boolBit_eq]
  have holdIs : (decide (kind = .hold)).toNat = 1 ↔ kind = .hold := by cases kind <;> decide
  have markIs : committed.toNat = 1 ↔ committed = true := by cases committed <;> decide
  generalize (decide (kind = .hold)).toNat = h at bits hold holdIs
  generalize committed.toNat = m at bits mark markIs
  generalize Claim.bits ⟨zone, kind, committed, urgency, wait⟩ = v at bits ⊢
  refine ⟨by omega, ?_⟩
  have zones : v / 4096 % 4096 = zone := by omega
  have holds : v / 2048 % 2 = h := by omega
  have marks : v / 1024 % 2 = m := by omega
  have urgencies : v / 256 % 4 = urgency := by omega
  have waits : v % 256 = wait := by omega
  unfold Claim.ofBits Claim.stored
  dsimp only
  rw [zones, holds, marks, urgencies, waits]
  simp only [holdIs, markIs]
  cases kind <;> simp

theorem takeClaims_bytes : ∀ {cs : List Claim} (_ : ∀ c ∈ cs, c.stored.sendable),
    takeClaims cs.length (cs.flatMap (fun c => beBytes 3 c.bits)) = some (cs.map Claim.stored)
  | [], _ => rfl
  | c :: cs, fit => by
    obtain ⟨this, rest⟩ := List.forall_mem_cons.mp fit
    obtain ⟨small, read⟩ := Claim.ofBits_bits this
    rw [List.flatMap_cons, beBytes_three]
    show takeClaims (cs.length + 1) (_ :: _ :: _ :: cs.flatMap (fun c => beBytes 3 c.bits)) = _
    rw [takeClaims, takeClaims_bytes rest]
    have whole : (byteOf (c.bits / 65536)).toNat * 65536 + word16 (byteOf (c.bits / 256)) (byteOf c.bits) = c.bits := by
      show c.bits / 65536 % 256 * 65536 + (c.bits / 256 % 256 * 256 + c.bits % 256) = c.bits
      omega
    rw [whole, read]
    rfl

theorem takeClaims_some : ∀ {n : Nat} {bs : List Byte} {cs : List Claim} (_ : takeClaims n bs = some cs),
    bs.length = 3 * cs.length ∧ ∀ c ∈ cs, c.zone ≠ 0 → c.sendable
  | 0, [], cs, taken => by
    obtain rfl := Option.some.inj taken
    exact ⟨rfl, nofun⟩
  | n + 1, a :: b :: c :: bs, cs, taken => by
    rw [takeClaims] at taken
    split at taken
    · rename_i rest tail
      obtain rfl := Option.some.inj taken
      obtain ⟨length, sendable⟩ := takeClaims_some tail
      refine ⟨?_, List.forall_mem_cons.mpr ⟨Claim.ofBits_sendable, sendable⟩⟩
      simp only [List.length_cons]
      omega
    · exact nomatch taken
  | 0, _ :: _, _, taken => nomatch taken
  | n + 1, [], _, taken => nomatch taken
  | n + 1, [_], _, taken => nomatch taken
  | n + 1, [_, _], _, taken => nomatch taken

theorem parseBeacon_sendable {frame : List Byte} {b : Beacon} (parsed : parseBeacon frame = some b) :
    b.sendable ∧ frame.length = 5 + 3 * b.claims.length := by
  have fits := parseBeacon_fits parsed
  have period := parseBeacon_period parsed
  unfold parseBeacon at parsed
  split at parsed
  · rename_i w1 w0 q1 q0 pc rest
    dsimp only at parsed
    split at parsed
    · exact nomatch parsed
    · rename_i claims taken
      split at parsed
      · exact nomatch parsed
      · rename_i good
        obtain rfl := Option.some.inj parsed
        simp only [not_or] at good
        obtain ⟨-, -, unzero, unlast, zones, -⟩ := good
        obtain ⟨length, sendable⟩ := takeClaims_some taken
        have word := word16_lt w1 w0
        refine ⟨⟨?_, ?_, word16_lt q1 q0, period, fits.1, fits.2, fun c member => sendable c member fun zero => zones ?_⟩, ?_⟩
        · show 1 ≤ word16 w1 w0 / 16
          omega
        · show word16 w1 w0 / 16 ≤ 4094
          omega
        · exact List.any_eq_true.mpr ⟨c, member, beq_iff_eq.mpr zero⟩
        · simp only [List.length_cons]
          omega
  · exact nomatch parsed

theorem lowBit_cleared (b : Byte) : (b &&& 0xFE#8).toNat = b.toNat / 2 * 2 := by
  revert b
  decide

theorem lowBits_cleared (b : Byte) : (b &&& 0xFC#8).toNat = b.toNat / 4 * 4 := by
  revert b
  decide

theorem parseBeacon_ignores (w1 w0 q1 q0 pc : Byte) (claims : List Byte) :
    parseBeacon (w1 :: w0 :: q1 :: q0 :: pc :: claims) =
      parseBeacon (w1 :: (w0 &&& 0xFE#8) :: q1 :: q0 :: (pc &&& 0xFC#8) :: claims) := by
  have low := lowBit_cleared w0
  have lows := lowBits_cleared pc
  generalize w0 &&& 0xFE#8 = v at low ⊢
  generalize pc &&& 0xFC#8 = p at lows ⊢
  have number : word16 w1 v / 16 = word16 w1 w0 / 16 := by unfold word16; omega
  have cls : word16 w1 v / 8 % 2 = word16 w1 w0 / 8 % 2 := by unfold word16; omega
  have fresh : word16 w1 v / 4 % 2 = word16 w1 w0 / 4 % 2 := by unfold word16; omega
  have parked : word16 w1 v / 2 % 2 = word16 w1 w0 / 2 % 2 := by unfold word16; omega
  have count : p.toNat / 4 % 16 = pc.toNat / 4 % 16 := by omega
  have code : p.toNat / 64 = pc.toNat / 64 := by omega
  unfold parseBeacon
  dsimp only
  rw [number, cls, fresh, parked, count, code]

/-- What a station reads from the frame of a beacon: its content, each REQ without its committed mark. -/
theorem parseBeacon_body {b : Beacon} (sendable : Beacon.sendable { b with claims := b.claims.map Claim.stored }) :
    parseBeacon b.body = some { b with claims := b.claims.map Claim.stored } := by
  obtain ⟨first, last, seq, period, few, differ, claims⟩ := sendable
  dsimp only at first last seq period
  have few' : b.claims.length ≤ 8 := by
    rw [← List.length_map (f := Claim.stored)]
    exact few
  have taken := takeClaims_bytes fun c member => claims _ (List.mem_map_of_mem member)
  have unzero : ¬(b.claims.map Claim.stored).any (fun c => c.zone == 0) = true := fun zero => by
    obtain ⟨c, member, is⟩ := List.any_eq_true.mp zero
    have some := (claims c member).1
    rw [beq_iff_eq.mp is] at some
    exact nomatch some
  unfold Beacon.body
  rw [beBytes_two, beBytes_two, boolBit_eq, boolBit_eq]
  generalize word : b.station * 16 + classCode b.cls * 8 + b.fresh.toNat * 4 + b.parked.toNat * 2 = w
  have cls : classCode b.cls = 0 ∨ classCode b.cls = 1 := by cases b.cls <;> decide
  have fresh := Bool.toNat_le b.fresh
  have parked := Bool.toNat_le b.parked
  have fits : w < 65536 := by omega
  have number : w / 16 = b.station := by omega
  have clsBit : w / 8 % 2 = classCode b.cls := by omega
  have freshBit : w / 4 % 2 = b.fresh.toNat := by omega
  have parkedBit : w / 2 % 2 = b.parked.toNat := by omega
  generalize count : byteOf (b.periodCode * 64 + b.claims.length * 4) = pc
  have value : pc.toNat = b.periodCode * 64 + b.claims.length * 4 := by
    rw [← count]
    refine Nat.mod_eq_of_lt ?_
    omega
  show parseBeacon (byteOf (w / 256) :: byteOf w :: byteOf (b.seq / 256) :: byteOf b.seq :: pc ::
    b.claims.flatMap (fun c => beBytes 3 c.bits)) = _
  unfold parseBeacon
  dsimp only
  rw [word16_byteOf fits, word16_byteOf seq, number, clsBit, freshBit, parkedBit,
    show pc.toNat / 4 % 16 = b.claims.length by omega, show pc.toNat / 64 = b.periodCode by omega, taken]
  dsimp only
  rw [if_neg ?_]
  · have clsRead : (if classCode b.cls = 1 then StationClass.fixed else .carrier) = b.cls := by cases b.cls <;> rfl
    have bitRead (x : Bool) : decide (x.toNat = 1) = x := by cases x <;> rfl
    rw [clsRead, bitRead, bitRead]
  · rintro (many | code | zero | all | zone | again)
    · omega
    · omega
    · omega
    · omega
    · exact unzero zone
    · rw [noRepeat_iff.mpr differ] at again
      exact nomatch again

theorem Claim.stored_sendable {c : Claim} (sendable : c.sendable) : c.stored = c := by
  obtain ⟨-, -, -, -, bare⟩ := sendable
  unfold Claim.stored
  split
  · rename_i req
    have is := bare req
    cases c
    cases is
    rfl
  · rfl

/-- Settles O50. -/
theorem formatsReadBack : Obligations.FormatsReadBack := by
  unfold Obligations.FormatsReadBack
  refine ⟨fun b sendable => ?_, fun frame b parsed => parseBeacon_sendable parsed, parseBeacon_ignores,
    fun b => parseBeacon_body, ⟨fun cells payload => parseAppend_iff, fun cells x payload => parseStart_iff⟩,
    inRange_iff, fun rs payload => parseStanding_iff⟩
  obtain ⟨-, -, -, -, -, -, claims⟩ := id sendable
  have same : b.claims.map Claim.stored = b.claims :=
    (List.map_congr_left fun c member => Claim.stored_sendable (claims c member)).trans (List.map_id _)
  have is : { b with claims := b.claims.map Claim.stored } = b := by rw [same]
  have read := parseBeacon_body (b := b) (by rw [is]; exact sendable)
  rw [read, is]

end Sys2Proof.Machine
end
